-- ==== Sys2Proof/Word.lean ====
section
/-! DEFINITION. The word types of the Kechema module: bytes, and the binary words of R3 to R5 of spec/00_scope.md. -/
namespace Sys2Proof

/-- A byte (R5). -/
abbrev Byte := BitVec 8
/-- A 32-bit word: semaphores (R223), FP32 bit patterns (R138), summary values (R123). -/
abbrev Word := BitVec 32
/-- A 64-bit word: control registers (R127), cycle counters (R32), dictionary U64 values (R469). -/
abbrev DWord := BitVec 64
/-- A 128-bit word: station instruction words (R63) and control words (R128). -/
abbrev QWord := BitVec 128

end Sys2Proof
end

