-- ==== Sys2Proof/Syntax.lean ====
section
/-! DEFINITION. The commands of the Kechema module: one constructor of `Instr` for each row of
spec/opcode_table.json, with the row's operands, and the types of those operands. -/
namespace Sys2Proof

/-- A core by its module-wide index 64c + n (R2). -/
abbrev CoreId := Fin 256
/-- A crown C0 to C3 (R2). -/
abbrev CrownId := Fin 4
/-- A cluster by 8c + k (R202, R208). -/
abbrev ClusterId := Fin 32
/-- A fabric port P0 to P31 (R2). -/
abbrev PortId := Fin 32
/-- A job stream JS0 to JS3 (R2). -/
abbrev JsId := Fin 4
/-- An optical quad (R22). -/
abbrev QuadId := Fin 4
/-- A power domain 0 to 71 (R34). -/
abbrev DomainId := Fin 72
/-- An HBM stack S0 to S31 (R2). -/
abbrev StackId := Fin 32
/-- A host queue pair 0 to 63 (R497). -/
abbrev QueueId := Fin 64
/-- A semaphore of a core (R223). -/
abbrev SemId := BitVec 8
/-- A transfer identifier (R240). -/
abbrev XferId := BitVec 20

/-- The seven stations of a core, in station-code order (R59). -/
inductive Station where
  | load | mat | vec | store | send | recv | sig
  deriving DecidableEq, Repr

/-- The MCTP transports (R475, R479). -/
inductive Transport where
  | pcieVdm | i3c | vc0
  deriving DecidableEq, Repr

/-- One MCTP endpoint on one transport (R475). -/
structure Requester where
  transport : Transport
  eid : Byte
  srcModule : BitVec 16
  deriving DecidableEq, Repr

/-- The header fields of a dictionary request that do not depend on the operation (R480): requester, tag,
version and the reserved and response-only bits. -/
structure Rq where
  who : Requester
  tag : Byte := 0
  version : Byte := 1
  reserved : BitVec 22 := 0
  deriving DecidableEq, Repr

/-- Where a trigger comes from (R78): the doorbell of BAR0, a host TRIGGER command, the dictionary, or VC1. -/
inductive TriggerSource where
  | doorbell | hostCommand | dictionary | fabric
  deriving DecidableEq, Repr

/-- Who an increment in flight comes from (R232): a core, or the band's hold table. -/
inductive SigSource where
  | core (c : CoreId) | band
  deriving DecidableEq, Repr

/-- The requesters of HBM and of other crowns' pools (R209). -/
inductive HbmRequester where
  | core (c : CoreId)
  | prefetch (k : ClusterId)
  | port (p : PortId)
  | dispatcher (c : CrownId)
  | pcie
  | firmware
  deriving DecidableEq, Repr

/-- What the controller's code finds in a word it reads (R218, R219). -/
inductive EccResult where
  | clean | corrected | uncorrectable
  deriving DecidableEq, Repr

/-- A completion at a station, with what the code finds in scratchpad atoms, by number, that the instruction reads (R62, R218). -/
structure Completion where
  station : Station
  errs : List (Fin 98304 × EccResult) := []
  deriving DecidableEq, Repr

/-- A fabric packet: the header of R270 and its payload. -/
structure Pkt where
  dst : BitVec 16
  src : BitVec 16
  vc : BitVec 4
  origVc : BitVec 4
  kind : BitVec 4
  js : BitVec 2
  escaped : Bool := false
  exact : Bool := false
  hops : Byte := 64
  id : XferId := 0
  gen : Byte := 0
  seq : BitVec 24 := 0
  budget : BitVec 28 := 0
  epoch : BitVec 32 := 0
  tileIndex : BitVec 16 := 0
  tileOffset : BitVec 17 := 0
  length : BitVec 13 := 0
  last : Bool := false
  reserved : BitVec 297 := 0
  payload : List Byte := []
  deriving DecidableEq, Repr

/-- A NAP block (R259). -/
structure Nap where
  moduleId : BitVec 16
  port : BitVec 5
  state : BitVec 3
  seq : BitVec 16
  profile : BitVec 2
  deriving DecidableEq, Repr

/-- A HELLO block (R258, R262). -/
structure Hello where
  moduleId : BitVec 16
  port : BitVec 5
  profile : BitVec 2
  encrypt : Bool
  rankTx : BitVec 16
  rankExpected : BitVec 16
  stepping : BitVec 16
  deriving DecidableEq, Repr

/-- A PROBE block (R263). -/
structure Probe where
  id : Byte
  ts : DWord
  echoTs : DWord
  echoHold : Word
  echoId : Byte
  deriving DecidableEq, Repr

/-- One range of a SACK block: first missing `BOLT.SEQ` and run length less 1 (R258). -/
structure SackRange where
  first : BitVec 20
  runM1 : BitVec 12
  deriving DecidableEq, Repr

/-- A bolt as it arrives (R252): its 512 bytes, whether every FEC codeword of it was correctable (R254), and how many
were corrected (R285). -/
structure Bolt where
  fecOk : Bool
  bytes : List Byte
  corrected : Nat := 0
  deriving DecidableEq, Repr

/-- The admission terms of one hop of one transfer (R487). -/
structure AdmitRecord where
  transfer : BitVec 16
  hop : Byte
  profile : Byte
  wireBytes : DWord
  units : Byte
  rttNs : Word
  asymNs : Word
  landNs : Word
  deriving DecidableEq, Repr

/-- A function that is disabled under R437. -/
inductive Func where
  | port (p : PortId) | core (c : CoreId) | codec | jobStream (j : JsId) | domain (d : DomainId)
  deriving DecidableEq, Repr

/-- The kinds of temperature sensor (R442 kind 6). -/
inductive SensorKind where
  | crown | band | stack | engine
  deriving DecidableEq, Repr

/-- A temperature sensor: its kind and number (R418, R442). -/
structure Sensor where
  kind : SensorKind
  number : Byte
  deriving DecidableEq, Repr

/-- The clock domains (R10), without the rx domains, with their instances. -/
inductive ClockDomain where
  | core (c : CrownId) | noc (c : CrownId) | hbm (pair : Fin 16) | band | pcie | mgmt
  deriving DecidableEq, Repr

/-- The causes of a lining alarm, in the order of ALARM_CAUSE 1 to 5 (R464, R466). -/
inductive AlarmCause where
  | selfTest | entropy | monitor | keyStorage | tamper
  deriving DecidableEq, Repr

/-- What the module's sensors and regulators show at the end of a 1 ms window (R403, R409 to R412, R418), the
readings being inputs (log entry 11): powers in mW, temperatures in hundredths of a degree; by cluster, what no counter of the
spec holds: scratchpad port traffic, and the cycles in which MAT and VEC units stood at a wait, which count as active (R226).
Lists run over crowns, clusters (8c + k) and sensors. -/
structure WindowSample where
  inputMilliwatts : Nat
  inputMillivolts : Nat
  crownMeasured : List Nat
  portTraffic : List Nat
  matWaits : List Nat
  vecWaits : List Nat
  crownTemps : List (List Int)
  bandTemps : List Int
  stackTemps : List Int
  engineTemps : List Int
  deriving DecidableEq, Repr

/-- A signed image as it lies in a bank or in memory (R449): its bytes. -/
abbrev ImageBytes := List Byte

/-- What power-up finds outside the module (R521 to R523, R526): the SLOT_ID strap, whether the self-tests passed and the flash
store's tag verified (R448, R453), and the step of R521 whose bound the sequence misses, with the failing stack or crown. -/
structure PowerUpInputs where
  slotId : BitVec 6
  selfTestOk : Bool := true
  storeTagOk : Bool := true
  missed : Option (Nat × Byte) := none
  deriving DecidableEq, Repr

/-- An access of the host through BAR2 (R506): a read of a number of bytes, or a write of bytes, at an offset. -/
inductive Bar2Op where
  | read (bytes : Nat) | write (data : List Byte)
  deriving DecidableEq, Repr

/-- A submission queue entry as fetched from host memory (R500), 64 bytes. -/
abbrev SqEntry := List Byte

/-- How a host request of a copy ended (R502). -/
inductive HostResult where
  | ok | hostError
  deriving DecidableEq, Repr

/-- The commands: one constructor for each row of spec/opcode_table.json, in the table's order. A station or
control row names the core (and station) whose instruction takes the step; the instruction stands in the core's
queue or control store (log entry 5). -/
inductive Instr where
  -- station instructions
  | nop (c : CoreId) (st : Station)
  | wait (c : CoreId) (st : Station)
  | waitsub (c : CoreId) (st : Station)
  | loadImg (c : CoreId)
  | loadRaw (c : CoreId)
  | storeImg (c : CoreId)
  | storeRaw (c : CoreId)
  | send (c : CoreId)
  | recv (c : CoreId)
  | mmaF8 (c : CoreId)
  | mmaF8h (c : CoreId)
  | mmaB16 (c : CoreId)
  | mmaF6 (c : CoreId)
  | mmaF4 (c : CoreId)
  | mmaI8 (c : CoreId)
  | mmaF8S24 (c : CoreId)
  | mmaF4S24 (c : CoreId)
  | mmaF8Split (c : CoreId)
  | mmaMax (c : CoreId)
  | mmaMin (c : CoreId)
  | vecEpi (c : CoreId)
  | vecAdd (c : CoreId)
  | vecSub (c : CoreId)
  | vecMul (c : CoreId)
  | vecFma (c : CoreId)
  | vecMax (c : CoreId)
  | vecMin (c : CoreId)
  | vecCmp (c : CoreId)
  | vecSel (c : CoreId)
  | vecUnary (c : CoreId)
  | vecPerm (c : CoreId)
  | vecShuf (c : CoreId)
  | vecPack (c : CoreId)
  | vecUnpack (c : CoreId)
  | vecRed (c : CoreId)
  | vecTopk (c : CoreId)
  | vecColcount (c : CoreId)
  | vecCompact (c : CoreId)
  | vecStat (c : CoreId)
  | vecHist (c : CoreId)
  | vecRng (c : CoreId)
  | vecRope (c : CoreId)
  | vecScatter (c : CoreId)
  | sigAdd (c : CoreId)
  | sigRemote (c : CoreId)
  | sigTrigger (c : CoreId)
  | sigRouteswap (c : CoreId)
  | sigAcount (c : CoreId)
  | sigWatch (c : CoreId)
  | watchCompare (c : CoreId)
  | insnComplete (c : CoreId) (done : Completion)
  -- control words
  | cnop (c : CoreId)
  | ctlEnd (c : CoreId)
  | hintPhase (c : CoreId)
  | ctlAdd (c : CoreId)
  | ctlSub (c : CoreId)
  | ctlMul (c : CoreId)
  | ctlAnd (c : CoreId)
  | ctlOr (c : CoreId)
  | ctlXor (c : CoreId)
  | ctlShl (c : CoreId)
  | ctlShr (c : CoreId)
  | ctlSra (c : CoreId)
  | sltu (c : CoreId)
  | slt (c : CoreId)
  | beq (c : CoreId)
  | bne (c : CoreId)
  | bltu (c : CoreId)
  | bgeu (c : CoreId)
  | blt (c : CoreId)
  | bge (c : CoreId)
  | jump (c : CoreId)
  | loop (c : CoreId)
  | sumpop (c : CoreId)
  | sumcount (c : CoreId)
  | ctld (c : CoreId)
  | push (c : CoreId)
  | bind (c : CoreId)
  | unbind (c : CoreId)
  -- steps and the dispatcher
  | trigger (j : JsId) (src : TriggerSource)
  | stepDispatch (j : JsId)
  | dispatchTimeout (j : JsId) (row : Nat) (started : List CoreId)
  | stepEnd (j : JsId)
  | stepRecordWrite (j : JsId)
  -- prefetch and HBM
  | pfCreditTake (k : ClusterId) (j : JsId)
  | pfChunkIssue (k : ClusterId) (j : JsId)
  | pfChunkLand (k : ClusterId) (j : JsId)
  | hbmRequestDone (r : HbmRequester) (n : Nat) (errs : List (Nat × EccResult))
  | patrolScrub (k : StackId) (pseudo : Fin 32) (row : Fin 49152) (cell : Fin 256)
  -- semaphores and signals
  | semIncrementArrive (src : SigSource) (dst : CoreId) (sem : SemId)
  | syncSignalArrive (p : PortId) (pkt : Pkt)
  | syncTriggerArrive (p : PortId) (pkt : Pkt)
  | heldSignalApply (j : JsId) (n : Nat)
  | quarantineExpire (j : JsId) (id : XferId)
  | hangTimeout (c : CoreId)
  | semSet (rq : Rq) (data : List Byte)
  -- ports and links
  | portBringupAdvance (p : PortId)
  | portTrainTimeout (p : PortId)
  | portRetrain (p : PortId)
  | laserMeasure (q : QuadId) (l0 l1 l2 l3 : BitVec 16)
  | boltReceive (p : PortId) (b : Bolt)
  | withdrawnBoltReceive (p : PortId) (b : Bolt)
  | napReceive (p : PortId) (nap : Nap)
  | creditReceive (p : PortId) (first : BitVec 4) (units : List Word)
  | nakReceive (p : PortId) (seq : BitVec 20)
  | sackReceive (p : PortId) (cum : BitVec 20) (ranges : List SackRange)
  | probeReceive (p : PortId) (pr : Probe)
  | helloReceive (p : PortId) (h : Hello)
  | gapReceive (p : PortId) (seq : BitVec 20)
  | hs1Receive (p : PortId) (msg : List Byte)
  | hs2Receive (p : PortId) (msg : List Byte)
  | confirmReceive (p : PortId) (msg : List Byte)
  | rk1Receive (p : PortId) (phase : BitVec 2) (msg : List Byte)
  | rk2Receive (p : PortId) (phase : BitVec 2) (msg : List Byte)
  | keyPhaseChange (p : PortId)
  | linkRekeyTimeout (p : PortId)
  | napSend (p : PortId)
  | probeSend (p : PortId)
  | napTimeout (p : PortId)
  | retransmitTimeout (p : PortId) (seq : BitVec 20)
  | sackResend (p : PortId)
  | escapeTimeout (p : PortId) (vc : BitVec 4)
  | packetSwitch (src : Option PortId) (pkt : Pkt)
  | packetDepart (p : PortId)
  -- transfers
  | dataPacketArrive (p : PortId) (pkt : Pkt)
  | tileLanded (src : BitVec 16) (js : JsId) (id : XferId) (tile : BitVec 16)
  | codecBlockDone (encoder : Bool) (lane : Fin 128)
  | deliveryReceive (p : PortId) (pkt : Pkt)
  | withdrawReceive (p : PortId) (pkt : Pkt)
  | mgmtPacketReceive (p : PortId) (pkt : Pkt)
  | diagPacketReceive (p : PortId) (pkt : Pkt)
  | deadlineTx (j : JsId) (id : XferId)
  | deadlineIncomplete (src : BitVec 16) (js : JsId) (id : XferId)
  -- schedules, routes, epochs, collectives, rings, contexts, mappings
  | scheduleLoad (rq : Rq) (v : DWord)
  | admitTerms (src : BitVec 16) (sched : Word) (recs : List AdmitRecord)
  | admitFit (src : BitVec 16) (sched : Word)
  | admitNofit (src : BitVec 16) (sched : Word) (transfer : BitVec 16) (reason : Byte)
  | admitAbort (src : BitVec 16) (sched : Word)
  | admitTimeout (sched : Word)
  | scheduleRelease (rq : Rq) (v : Word)
  | routeLoad (rq : Rq) (v : DWord)
  | routeCheckDone
  | routeSwap (rq : Rq) (v : Byte)
  | epochPrepare (rq : Rq) (j : JsId) (v : DWord)
  | epochDrained (j : JsId)
  | epochDrainTimeout (j : JsId)
  | epochCommit (rq : Rq) (j : JsId) (v : Byte)
  | collRegister (rq : Rq) (v : DWord)
  | collRelease (rq : Rq) (v : Byte)
  | ringRegister (rq : Rq) (v : DWord)
  | ringRelease (rq : Rq) (v : Byte)
  | contextRegister (rq : Rq) (v : DWord)
  | contextRelease (rq : Rq) (v : Byte)
  | mapRegister (rq : Rq) (j : JsId) (v : DWord)
  | stepAlign (rq : Rq) (j : JsId) (v : DWord)
  | replayArm (rq : Rq) (j : JsId) (record : List Byte)
  | replayDisarm (rq : Rq) (j : JsId) (v : Byte)
  -- regions, domains, enables
  | regionCreate (rq : Rq) (desc : List Byte)
  | regionDestroy (rq : Rq) (v : BitVec 16)
  | scrubComplete (n : BitVec 10)
  | coreMaskSet (rq : Rq) (j : JsId) (mask : BitVec 256)
  | domainStateWrite (rq : Rq) (d : DomainId) (v : Byte)
  | domainSwitchOnDone (d : DomainId)
  | domainSwitchFail (d : DomainId)
  | functionDrained (f : Func)
  | portEnableWrite (rq : Rq) (p : PortId) (v : Byte)
  | portCloseDone (p : PortId)
  | coreEnableWrite (rq : Rq) (mask : BitVec 256)
  | jsStateWrite (rq : Rq) (j : JsId) (v : Byte)
  | jsLockWrite (rq : Rq) (j : JsId) (v : Byte)
  | withdrawStep (rq : Rq) (j : JsId) (v : Byte)
  | counterClear (rq : Rq) (v : Word)
  | faultLogClear (rq : Rq) (v : Byte)
  -- power and heat
  | powerWindow (w : WindowSample)
  | capWSet (rq : Rq) (v : Word)
  | capForce (rq : Rq) (v : Word)
  | clockModeSet (rq : Rq) (v : Byte)
  | opChangeDone (c : CrownId)
  | droopDetect (c : CrownId)
  | droopRecovery (c : CrownId) (stretched : Nat)
  | regFault (d : DomainId)
  | thermTrip (sn : Sensor)
  | clockLoss (d : ClockDomain)
  | watchdog
  | mgmtWatchdog
  | liningAlarm (cause : AlarmCause)
  | doffWithdrawnEnd
  | doffIdleEnd
  -- the lining
  | zeroise (rq : Rq) (v : Byte)
  | enrol (rq : Rq) (v : Byte)
  | retire (rq : Rq) (v : Word)
  | ownerKeyAdd (rq : Rq) (digest : List Byte)
  | ownerKeyRevoke (rq : Rq) (slot : Byte)
  | rollbackCommit (rq : Rq) (v : Byte)
  | fwStage (rq : Rq) (v : DWord)
  | fwStageDone
  | bootBankNextSet (rq : Rq) (v : Byte)
  | peerKeyDigestSet (rq : Rq) (table : List Byte)
  -- SPDM
  | getVersion (who : Requester)
  | getCapabilities (who : Requester)
  | negotiateAlgorithms (who : Requester) (req : List Byte)
  | getDigests (who : Requester)
  | getCertificate (who : Requester) (offset length : BitVec 16)
  | challenge (who : Requester) (nonce : List Byte)
  | getMeasurements (who : Requester) (index : Byte) (nonce : List Byte)
  | chunkSend (who : Requester) (handle : Byte) (seq : BitVec 16) (last : Bool) (data : List Byte)
  | chunkGet (who : Requester) (handle : Byte) (seq : BitVec 16)
  -- the dictionary and MCTP
  | get (rq : Rq) (index : BitVec 16) (sub : Byte) (offset : Word)
  | set (rq : Rq) (index : BitVec 16) (sub : Byte) (offset : Word) (last : Bool) (data : List Byte)
  | getRange (rq : Rq) (index : BitVec 16) (sub : Byte) (lastIndex : BitVec 16) (lastSub : Byte)
  | subscribe (rq : Rq) (index : BitVec 16) (sub : Byte) (row : BitVec 16) (kind : Byte) (interval : BitVec 16)
      (threshold : DWord)
  | unsubscribe (rq : Rq) (number : BitVec 16)
  | subscriptionSample
  | getEndpointId (tr : Transport)
  | setEndpointId (tr : Transport) (eid : Byte)
  | getMctpVersionSupport (tr : Transport) (msgType : Byte)
  | getMessageTypeSupport (tr : Transport)
  | getVendorMessageSupport (tr : Transport) (selector : Byte)
  | maintNonce (rq : Rq)
  | maintNonceExpire (who : Requester)
  | maintClaim (rq : Rq) (claim : List Byte)
  | maintRelease (rq : Rq) (v : Byte)
  | maintIdleTimeout
  | stateRequest (rq : Rq) (v : Byte)
  | reset (rq : Rq) (v : Word)
  | resetDelayExpire
  -- the host interface
  | jsDoorbell (j : JsId) (v : Word)
  | sqTailDoorbell (q : QueueId) (v : Word) (entries : List SqEntry)
  | cqHeadDoorbell (q : QueueId) (v : Word)
  | qcfgEnableSet (q : QueueId) (v : Word)
  | qcfgEnableClear (q : QueueId) (v : Word)
  | hostNop (q : QueueId)
  | copyIn (q : QueueId)
  | copyOut (q : QueueId)
  | hostTrigger (q : QueueId)
  | copyComplete (q : QueueId) (n : Nat) (data : List Byte) (res : HostResult)
  | windowEntryWrite (n : Fin 262144) (v : DWord)
  | bar2Access (offset : BitVec 39) (op : Bar2Op)
  | eventCauseW1c (v : Word)
  | windowMissesRead
  | windowRefusalsRead
  | bar0RegisterWrite (offset : BitVec 26) (bytes : Nat) (v : DWord)
  | bar2Resize (log2 : Byte)
  | busMasterEnable (on : Bool)
  | functionLevelReset
  | hotReset
  | d3hotEntry
  | d3hotExit
  | perstNAssert
  | perstNRelease
  -- pins and power
  | inputPowerOn (inputs : PowerUpInputs)
  | powerUpTimeout (step : Nat) (unit : Byte)
  | inputPowerOff
  | mrstNAssert
  | mrstNRelease (inputs : PowerUpInputs)
  | flOwnNChange (high : Bool) (bankA bankB : List ImageBytes)
  -- rows that complete the table
  | acceptanceWindowClose (p : PortId)
  | scheduleLocalChecks (sched : Word)
  | inFlightBudgetExpire (src : BitVec 16) (js : JsId) (id : XferId)
  | pcieLinkUp
  | entdaa (address : BitVec 7)
  | signingComplete
  | msixIntervalExpire (v : Byte)
  deriving DecidableEq, Repr

end Sys2Proof
end

