-- ==== Sys2Proof/Config.lean ====
section
/-! DEFINITION. What the spec leaves open or takes from published standards it does not reproduce: opaque
constants, so that every theorem holds whatever they are (log entries 2, 4, 6, 7, 10). -/
namespace Sys2Proof.Config

/-- The `n`-th free 64-bit value (log entry 2): a value the spec leaves open. -/
opaque freeBits : Nat → BitVec 64
/-- Cycles that the `d`-th clock domain instance counts during the `n`-th idle step (R32, log entry 4). -/
opaque elapsed : Nat → Nat → BitVec 64

/-- exp2 of VEC.UNARY before the bound of R120 is imposed (log entry 6). -/
opaque exp2Fn : BitVec 32 → BitVec 32
/-- log2 of VEC.UNARY (R120). -/
opaque log2Fn : BitVec 32 → BitVec 32
/-- reciprocal of VEC.UNARY (R120). -/
opaque recipFn : BitVec 32 → BitVec 32
/-- reciprocal square root of VEC.UNARY (R120). -/
opaque rsqrtFn : BitVec 32 → BitVec 32
/-- sine of VEC.UNARY (R120). -/
opaque sinFn : BitVec 32 → BitVec 32
/-- cosine of VEC.UNARY (R120). -/
opaque cosFn : BitVec 32 → BitVec 32
/-- GELU-tanh of VEC.UNARY and VEC.EPI (R120). -/
opaque geluFn : BitVec 32 → BitVec 32
/-- SiLU of VEC.UNARY and VEC.EPI (R120). -/
opaque siluFn : BitVec 32 → BitVec 32

/-- Which of the three ways of forming x·cos − y·sin in FP32 VEC.ROPE uses (R119 does not say; log entry 16): both
products rounded, or one of them fused. -/
opaque ropeForm : Nat

/-- The `n`-th 32 bytes that the lining's DRBG gives after its `k`-th instantiation from the entropy source (R448, log entry 7),
as one 256-bit value. -/
opaque drbg : (k n : Nat) → BitVec 256
/-- ML-KEM-1024 key generation from a seed: encapsulation key and decapsulation key (R463). -/
opaque kemKeygen : List Byte → List Byte × List Byte
/-- ML-KEM-1024 encapsulation to a key with given randomness: ciphertext and shared secret (R459). -/
opaque kemEncaps : List Byte → List Byte → List Byte × List Byte
/-- ML-KEM-1024 decapsulation: the shared secret (R459). -/
opaque kemDecaps : List Byte → List Byte → List Byte
/-- The encapsulation-key check of FIPS 203 (R459). -/
opaque kemKeyOk : List Byte → Bool
/-- AES-256-GCM: key, nonce, additional data, plaintext to ciphertext and 16-byte tag (R255, R460). -/
opaque gcmSeal : List Byte → List Byte → List Byte → List Byte → List Byte × List Byte
/-- AES-256-GCM opening: key, nonce, additional data, ciphertext, tag to plaintext, none when the tag fails (R255). -/
opaque gcmOpen : List Byte → List Byte → List Byte → List Byte → List Byte → Option (List Byte)
/-- SLH-DSA-SHAKE-256s verification: public key, message, signature (R450, R476). -/
opaque slhVerify : List Byte → List Byte → List Byte → Bool
/-- SLH-DSA-SHAKE-256f signature of a message by the device identity key (R456). -/
opaque slhSign : List Byte → List Byte
/-- The X.509 chain of certificate slot 0, whose leaf carries the device identity public key and the given part number and serial
number (R456). -/
opaque certChain : (part serial : List Byte) → List Byte
/-- The bytes that name an extended algorithm of the vendor-defined registry under a PCI vendor ID (R456): 0 SLH-DSA-SHAKE-256f,
1 SHAKE256 with 64 bytes. -/
opaque extAlgorithm : (vendor algorithm : Nat) → List Byte
/-- The fused digest of the public key of a Jorset root slot 0 to 3 (R450, R463). -/
opaque rootDigest : Nat → BitVec 512
/-- `IMG.BUILD` of the released image of a kind that the module is shipped with (R528). -/
opaque shippedBuild : Nat → BitVec 32
/-- `IMG.SECURITY_VERSION` of that image. -/
opaque shippedSecurity : Nat → BitVec 6
/-- The SHAKE256 digest of that image (R455). -/
opaque shippedDigest : Nat → BitVec 512
/-- The SHAKE256 digest of the flash store that holds the given entries (R453, R455): its encoding is not given. -/
opaque storeDigest : List (Nat × Nat) → BitVec 512
/-- Bytes that one SPDM message may carry on a requester's transport, less 1 (R456). -/
opaque spdmChunk : Nat
/-- The coefficients of a crown's activity estimate, in W for each count of a window, by crown, calibration and term (R411): MAT
row cycles, VEC busy cycles, scratchpad port traffic, HBM atoms, and a constant. -/
opaque activityCoeff : Nat → Nat → Nat → Rat
/-- The fused 64-bit serial value of the module (R488). -/
opaque serial : BitVec 64
/-- The fused secret generated at manufacture (R463). -/
opaque fusedSecret : BitVec 256
/-- The exact codec's choice of palette (16 symbols) and of 17 code lengths for a block (R367, log entry 10). -/
opaque codecChoice : List Byte → List Nat × List Nat
/-- Bytes the module answers in a field of a published protocol whose value the spec does not give
(SPDM and MCTP responses, PCI Express registers not listed), by protocol item (log entry 7). -/
opaque protocolBytes : Nat → List Byte

end Sys2Proof.Config
end

