-- ==== Sys2Proof/Machine/Bits.lean ====
section
/-! DEFINITION. Bit fields, little-endian bytes, sparse maps, CRC-32C (R44) and SHAKE256 (R395, R447): the plain
helpers that every layer of the machine uses. -/
namespace Sys2Proof.Machine

/-- Field [lo + len - 1 : lo] of a word (R5, R6). -/
def getf {w : Nat} (x : BitVec w) (lo len : Nat) : Nat := (x.toNat >>> lo) % 2 ^ len

/-- A single bit of a word. -/
def bitf {w : Nat} (x : BitVec w) (lo : Nat) : Bool := getf x lo 1 == 1

/-- The word with field [lo + len - 1 : lo] replaced. -/
def setf {w : Nat} (x : BitVec w) (lo len v : Nat) : BitVec w :=
  BitVec.ofNat w (x.toNat - (getf x lo len <<< lo) + ((v % 2 ^ len) <<< lo))

/-- The value of bytes, least significant first (R5). -/
def leNat : List Byte → Nat
  | [] => 0
  | b :: bs => b.toNat + 256 * leNat bs

/-- The `n` bytes of a value, least significant first (R5). -/
def natLe : Nat → Nat → List Byte
  | 0, _ => []
  | n + 1, v => BitVec.ofNat 8 (v % 256) :: natLe n (v / 256)

/-- The `n` bytes of a value, most significant first. -/
def natBe (n v : Nat) : List Byte := (natLe n v).reverse

/-- `n` bytes of a list from an offset on, zero past its end. -/
def sliceBytes (bs : List Byte) (off n : Nat) : List Byte :=
  let t := (bs.drop off).take n
  t ++ List.replicate (n - t.length) 0

/-- The little-endian value of `n` bytes from an offset on. -/
def leAt (bs : List Byte) (off n : Nat) : Nat := leNat (sliceBytes bs off n)

/-- Bytes `off` onwards replaced by `new`, the length kept. -/
def spliceBytes (bs : List Byte) (off : Nat) (new : List Byte) : List Byte :=
  (bs.take off ++ new ++ bs.drop (off + new.length)).take bs.length

/-- The first index whose element meets a test. -/
def findIdxOpt {α : Type} (p : α → Bool) (l : List α) : Option Nat :=
  let i := l.findIdx p
  if i < l.length then some i else none

/-- The list with its element `i` replaced. -/
def setAt {α : Type} (l : List α) (i : Nat) (v : α) : List α := l.set i v

/-- The list without its element `i`. -/
def dropAt {α : Type} (l : List α) (i : Nat) : List α := l.eraseIdx i

/-- Whether no value stands twice in a list. -/
def noRepeats : List Nat → Bool
  | [] => true
  | x :: xs => !xs.contains x && noRepeats xs

/-! ### Sparse maps: a list of (key, value) in rising key order, without entries equal to the default -/

/-- The value at a key; the default where the key is not listed. -/
def mapGet {α : Type} (d : α) : List (Nat × α) → Nat → α
  | [], _ => d
  | e :: m, k => if e.1 = k then e.2 else mapGet d m k

/-- A listed key put into its place. -/
def mapInsert {α : Type} (k : Nat) (v : α) : List (Nat × α) → List (Nat × α)
  | [] => [(k, v)]
  | e :: m => if k < e.1 then (k, v) :: e :: m else e :: mapInsert k v m

/-- The map without a key. -/
def mapErase {α : Type} (m : List (Nat × α)) (k : Nat) : List (Nat × α) := m.filter (fun e => !(e.1 == k))

/-- The map with the value at a key replaced; an entry equal to the default is not listed. -/
def mapSet {α : Type} [DecidableEq α] (d : α) (m : List (Nat × α)) (k : Nat) (v : α) : List (Nat × α) :=
  if v = d then mapErase m k else mapInsert k v (mapErase m k)

/-- The canonical form: keys strictly rising, no entry equal to the default. -/
def mapWf {α : Type} [DecidableEq α] (d : α) : List (Nat × α) → Bool
  | [] => true
  | e :: m => !(e.2 == d) && m.all (fun e' => e.1 < e'.1) && mapWf d m

/-- The map with bytes written from an address on. -/
def bytesSet (m : List (Nat × Byte)) (a : Nat) : List Byte → List (Nat × Byte)
  | [] => m
  | b :: bs => bytesSet (mapSet 0 m a b) (a + 1) bs

/-- `n` bytes from an address on. -/
def bytesGet (m : List (Nat × Byte)) (a : Nat) : Nat → List Byte
  | 0 => []
  | n + 1 => mapGet 0 m a :: bytesGet m (a + 1) n

/-- A span of the map cleared to the default. -/
def spanClear {α : Type} (m : List (Nat × α)) (a n : Nat) : List (Nat × α) :=
  m.filter (fun e => !(decide (a ≤ e.1) && decide (e.1 < a + n)))

/-! ### CRC-32C (R44) -/

/-- One bit of the reflected CRC-32C. -/
def crcBit (c : Nat) : Nat := if c % 2 = 1 then (c >>> 1) ^^^ 0x82F63B78 else c >>> 1

/-- One byte of CRC-32C. -/
def crcByte (c : Nat) (b : Byte) : Nat :=
  crcBit (crcBit (crcBit (crcBit (crcBit (crcBit (crcBit (crcBit (c ^^^ b.toNat))))))))

/-- CRC-32C (Castagnoli) of bytes: reflected, initial value and final XOR 0xFFFF_FFFF (R44). -/
def crc32c (bs : List Byte) : Nat := (bs.foldl crcByte 0xFFFFFFFF) ^^^ 0xFFFFFFFF

/-- Whether a 64-byte header and what follows it carry their CRC in bytes 60 to 63, taken over bytes 0 to 59 and
then the rest (R41, R75, R174, R203, R289). -/
def crcHeaderOk (header rest : List Byte) : Bool :=
  leAt header 60 4 == crc32c (sliceBytes header 0 60 ++ rest)

/-! ### SHAKE256 (FIPS 202, used by R395, R450, R458): a state is five planes of five lanes -/

/-- A 64-bit lane turned left. -/
def laneTurn (n lane : Nat) : Nat := lane * 2 ^ n % 2 ^ 64 + lane / 2 ^ (64 - n)

/-- The places (x, y) in the order in which rho visits them. -/
def rhoWalk : Nat → Nat × Nat → List (Nat × Nat)
  | 0, _ => []
  | n + 1, v => v :: rhoWalk n (v.2, (2 * v.1 + 3 * v.2) % 5)

/-- How far rho turns the lane at (x, y): a triangular number by its place in the walk; 0 at the origin. -/
def rhoTurn (v : Nat × Nat) : Nat :=
  match findIdxOpt (· == v) (rhoWalk 24 (1, 0)) with
  | some t => (t + 1) * (t + 2) / 2 % 64
  | none => 0

/-- The next state of the shift register that gives the bits of iota, and its output bit. -/
def iotaShift (r : Nat) : Nat := if r < 128 then 2 * r else (2 * r - 256) ^^^ 0x71

/-- The seven bits that iota sets from a register state on, at places 2^j - 1, and the state after them. -/
def iotaMask : Nat → Nat → Nat → Nat × Nat
  | 0, _, r => (0, r)
  | n + 1, j, r =>
    let m := iotaMask n (j + 1) (iotaShift r)
    (r % 2 * 2 ^ (2 ^ j - 1) + m.1, m.2)

/-- Two planes added lane by lane. -/
def planeXor (a b : List Nat) : List Nat := List.zipWith (· ^^^ ·) a b

/-- theta: each lane takes the parities of the columns before and after it, the latter turned by 1. -/
def spongeTheta (planes : List (List Nat)) : List (List Nat) :=
  let parity := planes.foldl planeXor [0, 0, 0, 0, 0]
  planes.map (planeXor (planeXor (parity.rotateRight 1) ((parity.rotateLeft 1).map (laneTurn 1))))

/-- rho and pi: the lane that comes to (x, y) is that of ((x + 3y) mod 5, x), turned. -/
def spongeMove (planes : List (List Nat)) : List (List Nat) :=
  (List.range 5).map fun y => (List.range 5).map fun x =>
    let v := ((x + 3 * y) % 5, x)
    laneTurn (rhoTurn v) ((planes.getD v.2 []).getD v.1 0)

/-- chi on a plane. -/
def spongeChi (plane : List Nat) : List Nat :=
  planeXor plane (List.zipWith (fun b c => (2 ^ 64 - 1 - b) &&& c) (plane.rotateLeft 1) (plane.rotateLeft 2))

/-- `n` rounds from a state of the register of iota on. -/
def spongeRounds : Nat → Nat → List (List Nat) → List (List Nat)
  | 0, _, planes => planes
  | n + 1, r, planes =>
    let iota := iotaMask 7 0 r
    spongeRounds n iota.2 (((spongeMove (spongeTheta planes)).map spongeChi).modify 0 (·.modify 0 (· ^^^ iota.1)))

/-- A message and its padding: at least one byte, to a multiple of 136 bytes. -/
def spongePad (bs : List Byte) : List Byte :=
  match 135 - bs.length % 136 with
  | 0 => bs ++ [0x9F]
  | room + 1 => bs ++ 0x1F :: (List.replicate room 0 ++ [0x80])

/-- The planes after the first `n` blocks of 136 bytes, each added to the first 17 lanes and permuted in. -/
def spongeFill : Nat → List Byte → List (List Nat) → List (List Nat)
  | 0, _, planes => planes
  | n + 1, bs, planes =>
    let block := (List.range 5).map fun y => (List.range 5).map fun x =>
      if 5 * y + x < 17 then leAt bs (8 * (5 * y + x)) 8 else 0
    spongeFill n (bs.drop 136) (spongeRounds 24 1 (List.zipWith planeXor planes block))

/-- SHAKE256 of bytes, the first `n` output bytes, at most 136. -/
def shake256 (n : Nat) (bs : List Byte) : List Byte :=
  let planes := spongeFill (bs.length / 136 + 1) (spongePad bs) (List.replicate 5 [0, 0, 0, 0, 0])
  (planes.flatten.flatMap (natLe 8)).take n

/-! ### Serial arithmetic on 32 bits (R217) -/

/-- `a` is later than `b`. -/
def serialLater (a b : Nat) : Bool :=
  let d := (a + 2 ^ 32 - b % 2 ^ 32) % 2 ^ 32
  1 ≤ d && d ≤ 2 ^ 31 - 1

/-- `a` is older than `b`. -/
def serialOlder (a b : Nat) : Bool :=
  let d := (a + 2 ^ 32 - b % 2 ^ 32) % 2 ^ 32
  2 ^ 31 ≤ d

end Sys2Proof.Machine
end

