-- ==== Sys2Proof/Machine/Numerics.lean ====
section
/-! DEFINITION. Number formats and arithmetic: exact values, the formats of R138, rounding (R141, R145), conversions
(R142 to R144), FP32 arithmetic (R120), chunk sums and accumulation (R98 to R103), and the functions of R120. -/
namespace Sys2Proof.Machine

/-- An exact value: a NaN, an infinity, or a sign with the magnitude n / d × 2^e (a zero keeps its sign). -/
inductive Num where
  | nan
  | inf (neg : Bool)
  | fin (neg : Bool) (n d : Nat) (e : Int)
  deriving DecidableEq, Repr

/-- A floating-point format of R138: field widths, bias, largest finite code, codes of +∞ (if any) and NaN. -/
structure Fmt where
  ebits : Nat
  mbits : Nat
  bias : Nat
  maxCode : Nat
  infCode : Option Nat
  nanCode : Option Nat
  deriving DecidableEq, Repr

/-- FP32 (R138). -/
def fmtF32 : Fmt := ⟨8, 23, 127, 0x7F7FFFFF, some 0x7F800000, some 0x7FC00000⟩
/-- BF16 (R138). -/
def fmtBf16 : Fmt := ⟨8, 7, 127, 0x7F7F, some 0x7F80, some 0x7FC0⟩
/-- FP16 (R138). -/
def fmtF16 : Fmt := ⟨5, 10, 15, 0x7BFF, some 0x7C00, some 0x7E00⟩
/-- FP8 E4M3 (R138): no infinity, NaN only 0x7F. -/
def fmtE4m3 : Fmt := ⟨4, 3, 7, 0x7E, none, some 0x7F⟩
/-- FP8 E5M2 (R138). -/
def fmtE5m2 : Fmt := ⟨5, 2, 15, 0x7B, some 0x7C, some 0x7E⟩
/-- FP6 E3M2 (R138): neither infinity nor NaN. -/
def fmtE3m2 : Fmt := ⟨3, 2, 3, 0x1F, none, none⟩
/-- FP6 E2M3 (R138). -/
def fmtE2m3 : Fmt := ⟨2, 3, 1, 0x1F, none, none⟩
/-- FP4 E2M1 (R138). -/
def fmtE2m1 : Fmt := ⟨2, 1, 1, 0x7, none, none⟩

/-- Exponent of a format's smallest subnormal. -/
def fmtQuantum (f : Fmt) : Int := 1 - (f.bias : Int) - (f.mbits : Int)

/-- The value of an element code (R138, R140). -/
def fmtDecode (f : Fmt) (code : Nat) : Num :=
  let neg := (code >>> (f.ebits + f.mbits)) % 2 == 1
  let mag := code % 2 ^ (f.ebits + f.mbits)
  if mag > f.maxCode && (f.infCode.isSome || f.nanCode.isSome) then
    if some mag = f.infCode then .inf neg else .nan
  else
    let ex := mag >>> f.mbits
    let m := mag % 2 ^ f.mbits
    if ex = 0 then .fin neg m 1 (fmtQuantum f)
    else .fin neg (2 ^ f.mbits + m) 1 (fmtQuantum f + (ex : Int) - 1)

/-- A rounding rule: to nearest with ties to even, stochastic with a generator word (R145), or magnitude upward
(the test of R144 step 3). -/
inductive Rounding where
  | nearest | stochastic (w : Nat) | up
  deriving DecidableEq, Repr

/-- floor(log2 (n / d × 2^e)) for n > 0. -/
def ratLog2 (n d : Nat) (e : Int) : Int :=
  let k : Int := (Nat.log2 n : Int) - (Nat.log2 d : Int)
  let ge := if 0 ≤ k then decide (d <<< k.toNat ≤ n) else decide (d ≤ n <<< (-k).toNat)
  (if ge then k else k - 1) + e

/-- n / d × 2^e divided by 2^q as numerator and denominator. -/
def scaleTo (n d : Nat) (e q : Int) : Nat × Nat :=
  if q ≤ e then (n <<< (e - q).toNat, d) else (n, d <<< (q - e).toNat)

/-- A quotient rounded to an integer. -/
def roundQuot (r : Rounding) (n d : Nat) : Nat :=
  let k := n / d
  let rem := n % d
  if rem = 0 then k else
    match r with
    | .nearest => if 2 * rem > d || (2 * rem = d && k % 2 = 1) then k + 1 else k
    | .stochastic w => if (rem <<< 32) / d + w ≥ 2 ^ 32 then k + 1 else k
    | .up => k + 1

/-- A magnitude rounded into a format's precision: the unsigned code, not yet limited to the format's range. -/
def roundCode (f : Fmt) (r : Rounding) (n d : Nat) (e : Int) : Nat :=
  if n = 0 then 0 else
    let q := max (fmtQuantum f) (ratLog2 n d e - (f.mbits : Int))
    let s := scaleTo n d e q
    let m := roundQuot r s.1 s.2
    (q - fmtQuantum f).toNat * 2 ^ f.mbits + m

/-- The sign bit of a format at its place. -/
def signCode (f : Fmt) (neg : Bool) : Nat := if neg then 2 ^ (f.ebits + f.mbits) else 0

/-! ### FP32 arithmetic (R120) -/

/-- The canonical quiet NaN (R120). -/
def nanF32 : Word := 0x7FC00000#32

/-- An exact value rounded once to FP32 with RNE; overflow gives an infinity (R120). -/
def toF32 : Num → Word
  | .nan => nanF32
  | .inf neg => BitVec.ofNat 32 (signCode fmtF32 neg + 0x7F800000)
  | .fin neg n d e =>
    let c := roundCode fmtF32 .nearest n d e
    BitVec.ofNat 32 (signCode fmtF32 neg + if c > 0x7F7FFFFF then 0x7F800000 else c)

/-- The value of FP32 bits. -/
def ofF32 (w : Word) : Num := fmtDecode fmtF32 w.toNat

/-- Whether FP32 bits are a NaN. -/
def isNanF32 (w : Word) : Bool := decide (w.toNat % 2 ^ 31 > 0x7F800000)
/-- Whether FP32 bits are an infinity. -/
def isInfF32 (w : Word) : Bool := w.toNat % 2 ^ 31 == 0x7F800000
/-- Whether FP32 bits are a NaN or an infinity. -/
def nonfiniteF32 (w : Word) : Bool := decide (w.toNat % 2 ^ 31 ≥ 0x7F800000)

/-- The negated value. -/
def numNeg : Num → Num
  | .nan => .nan
  | .inf s => .inf (!s)
  | .fin s n d e => .fin (!s) n d e

/-- The exact sum. A zero sum of finite values is −0 only when both are negative zeros. -/
def numAdd : Num → Num → Num
  | .nan, _ => .nan
  | _, .nan => .nan
  | .inf a, .inf b => if a = b then .inf a else .nan
  | .inf a, .fin _ _ _ _ => .inf a
  | .fin _ _ _ _, .inf b => .inf b
  | .fin s1 n1 d1 e1, .fin s2 n2 d2 e2 =>
    let e := min e1 e2
    let x : Nat := (n1 <<< (e1 - e).toNat) * d2
    let y : Nat := (n2 <<< (e2 - e).toNat) * d1
    if s1 = s2 then .fin s1 (x + y) (d1 * d2) e
    else if x = y then .fin false 0 1 e
    else if y < x then .fin s1 (x - y) (d1 * d2) e
    else .fin s2 (y - x) (d1 * d2) e

/-- The exact product; zero times infinity is NaN. -/
def numMul : Num → Num → Num
  | .nan, _ => .nan
  | _, .nan => .nan
  | .inf a, .inf b => .inf (a != b)
  | .inf a, .fin s n _ _ => if n = 0 then .nan else .inf (a != s)
  | .fin s n _ _, .inf a => if n = 0 then .nan else .inf (a != s)
  | .fin s1 n1 d1 e1, .fin s2 n2 d2 e2 => .fin (s1 != s2) (n1 * n2) (d1 * d2) (e1 + e2)

/-- The exact quotient by a finite positive value (R143). -/
def numDivPos : Num → Num → Num
  | .fin s n d e, .fin _ n2 d2 e2 => .fin s (n * d2) (d * n2) (e - e2)
  | .inf s, _ => .inf s
  | _, _ => .nan

/-- The value times 2^k. -/
def numScale (k : Int) : Num → Num
  | .fin s n d e => .fin s n d (e + k)
  | x => x

/-- Exact comparison of numbers that are not NaN: a < b, with −0 equal to +0. -/
def numLt : Num → Num → Bool
  | .nan, _ => false
  | _, .nan => false
  | .inf a, .inf b => a && !b
  | .inf a, .fin _ _ _ _ => a
  | .fin _ _ _ _, .inf b => !b
  | .fin s1 n1 d1 e1, .fin s2 n2 d2 e2 =>
    let e := min e1 e2
    let x : Int := ((n1 <<< (e1 - e).toNat) * d2 : Nat)
    let y : Int := ((n2 <<< (e2 - e).toNat) * d1 : Nat)
    decide ((if s1 then -x else x) < (if s2 then -y else y))

/-- FP32 addition (R120). -/
def addF32 (a b : Word) : Word := toF32 (numAdd (ofF32 a) (ofF32 b))
/-- FP32 negation of the sign bit, NaN canonical (R120). -/
def negF32 (a : Word) : Word := if isNanF32 a then nanF32 else a ^^^ 0x80000000#32
/-- FP32 subtraction. -/
def subF32 (a b : Word) : Word := toF32 (numAdd (ofF32 a) (numNeg (ofF32 b)))
/-- FP32 multiplication. -/
def mulF32 (a b : Word) : Word := toF32 (numMul (ofF32 a) (ofF32 b))
/-- FP32 fused multiply-add, one rounding. -/
def fmaF32 (a b c : Word) : Word := toF32 (numAdd (numMul (ofF32 a) (ofF32 b)) (ofF32 c))

/-- The order of R103 for MAX: NaN above every number, −0 equal to +0; strictly greater. -/
def gtMax (a b : Num) : Bool :=
  match a, b with
  | .nan, .nan => false
  | .nan, _ => true
  | _, .nan => false
  | a, b => numLt b a

/-- The order of R103 for MIN: NaN below every number; strictly less. -/
def ltMin (a b : Num) : Bool :=
  match a, b with
  | .nan, .nan => false
  | .nan, _ => true
  | _, .nan => false
  | a, b => numLt a b

/-- VEC.MAX (R119): equal values keep the first; a NaN result is canonical. -/
def maxF32 (a b : Word) : Word := toF32 (if gtMax (ofF32 b) (ofF32 a) then ofF32 b else ofF32 a)
/-- VEC.MIN (R119). -/
def minF32 (a b : Word) : Word := toF32 (if ltMin (ofF32 b) (ofF32 a) then ofF32 b else ofF32 a)

/-- The comparisons of VEC.CMP by p (R118); p = 7 is not an encoding. -/
def cmpF32 (p : Nat) (a b : Word) : Bool :=
  let x := ofF32 a
  let y := ofF32 b
  let un := isNanF32 a || isNanF32 b
  let lt := numLt x y
  let gt := numLt y x
  match p with
  | 0 => !un && !lt && !gt
  | 1 => un || lt || gt
  | 2 => lt
  | 3 => !un && !gt
  | 4 => gt
  | 5 => !un && !lt
  | _ => un

/-- An integer as an exact value. -/
def numOfInt (i : Int) : Num := .fin (decide (i < 0)) i.natAbs 1 0

/-- A two's-complement field as an integer. -/
def signedOf (bits v : Nat) : Int := if v < 2 ^ (bits - 1) then (v : Int) else (v : Int) - 2 ^ bits

/-! ### Conversions from exact values (R141 to R145) -/

/-- A converted element: its code and what R142 counts. -/
structure Conv where
  code : Nat
  sat : Bool := false
  nonfin : Bool := false
  undf : Bool := false
  deriving DecidableEq, Repr

/-- Conversion to a floating-point element format (R142). -/
def convFloat (f : Fmt) (r : Rounding) : Num → Conv
  | .nan => { code := f.nanCode.getD 0, nonfin := f.infCode.isNone }
  | .inf neg =>
    match f.infCode with
    | some c => { code := signCode f neg + c }
    | none => { code := signCode f neg + f.maxCode, nonfin := true }
  | .fin neg n d e =>
    let c := roundCode f r n d e
    if c > f.maxCode then { code := signCode f neg + f.maxCode, sat := true }
    else { code := signCode f neg + c, undf := c == 0 && n != 0 }

/-- Conversion to a two's-complement integer format of `bits` bits (R142). -/
def convInt (bits : Nat) (r : Rounding) : Num → Conv
  | .nan => { code := 0, nonfin := true }
  | .inf neg => { code := if neg then 2 ^ (bits - 1) else 2 ^ (bits - 1) - 1, nonfin := true }
  | .fin neg n d e =>
    let s := scaleTo n d e 0
    let m := roundQuot r s.1 s.2
    if neg then
      if m > 2 ^ (bits - 1) then { code := 2 ^ (bits - 1), sat := true }
      else { code := (2 ^ bits - m) % 2 ^ bits, undf := m == 0 && n != 0 }
    else
      if m > 2 ^ (bits - 1) - 1 then { code := 2 ^ (bits - 1) - 1, sat := true }
      else { code := m, undf := m == 0 && n != 0 }

/-- The element format of a `TILE.FORMAT` code with floating-point elements (R138). -/
def fmtOfCode : Nat → Option Fmt
  | 0x01 => some fmtF32
  | 0x02 => some fmtBf16
  | 0x03 => some fmtF16
  | 0x04 => some fmtE4m3
  | 0x05 => some fmtE5m2
  | 0x06 => some fmtE4m3
  | 0x07 => some fmtE5m2
  | 0x08 => some fmtE3m2
  | 0x09 => some fmtE2m3
  | 0x0A => some fmtE2m1
  | _ => none

/-- emax of an MX element format (R139). -/
def mxEmax : Nat → Int
  | 0x06 => 8
  | 0x07 => 15
  | 0x08 => 4
  | _ => 2

/-- The value of an E8M0 scale byte; none for NaN (R139). -/
def e8m0 (x : Nat) : Option Int := if x = 0xFF then none else some ((x : Int) - 127)

/-- The conversion of one MX block (R144): the scale byte and the element conversions; `rs` gives each element's
rounding. -/
def convMx (code : Nat) (rs : Nat → Rounding) (xs : List Num) : Nat × List Conv :=
  let f := (fmtOfCode code).getD fmtE2m1
  let bad := xs.any fun x => match x with | .fin _ _ _ _ => false | _ => true
  let nonzero := xs.filter fun x => match x with | .fin _ n _ _ => n != 0 | _ => false
  if bad then
    (0xFF, (List.range xs.length).map fun i => { code := 0, nonfin := i == 0 })
  else
    let logs := nonzero.map fun x => match x with | .fin _ n d e => ratLog2 n d e | _ => 0
    match logs with
    | [] => (0x7F, xs.map fun x => match x with
        | .fin neg _ _ _ => { code := signCode f neg } | _ => { code := 0 })
    | l :: ls =>
      let e0 := (ls.foldl max l) - mxEmax code
      -- the largest magnitude divided by 2^E, rounded upward, against the largest finite element
      let beyond := nonzero.any fun x => match x with
        | .fin _ n d e => decide (roundCode f .up n d (e - e0) > f.maxCode) | _ => false
      let e1 := if beyond then e0 + 1 else e0
      let ex := max (-127) (min 127 e1)
      ((ex + 127).toNat,
        (List.range xs.length).map fun i => convFloat f (rs i) (numScale (-ex) (xs.getD i .nan)))

/-! ### The generator (R146) -/

/-- mix of R146. -/
def genMix (z0 : Nat) : Nat :=
  let z := ((z0 ^^^ (z0 >>> 30)) * 0xBF58476D1CE4E5B9) % 2 ^ 64
  let z := ((z ^^^ (z >>> 27)) * 0x94D049BB133111EB) % 2 ^ 64
  z ^^^ (z >>> 31)

/-- word(k, c) of R146. -/
def genWord (k c : Nat) : Nat :=
  let z := genMix ((c + k * 0x9E3779B97F4A7C15) % 2 ^ 64)
  genMix (z ^^^ (k % 2 ^ 64)) >>> 32

/-! ### Chunk sums and accumulation (R98 to R101) -/

/-- Bits of a magnitude below 2^lo dropped, toward zero (the window of R99). -/
def dropBelow (lo : Int) : Num → Num
  | .fin s n d e => if e < lo then .fin s ((n / d) >>> (lo - e).toNat) 1 lo else .fin s n d e
  | x => x

/-- The chunk sum of exact products (R98, R99, R101): `window` for BF16 and MX shapes. Lanes that take no part
are not in the list; an empty chunk is +0. -/
def chunkSum (window : Bool) (ps : List Num) : Num :=
  let logs := ps.filterMap fun p => match p with
    | .fin _ n d e => if n = 0 then none else some (ratLog2 n d e)
    | _ => none
  let qs := match window, logs with
    | true, l :: ls => let lo := (ls.foldl max l) - 103; ps.map (dropBelow lo)
    | _, _ => ps
  match qs with
  | [] => .fin false 0 1 0
  | q :: r => r.foldl numAdd q

/-- FP32 accumulation (R100). -/
def accF32 (overwrite : Bool) (entry : Word) (s : Num) : Word :=
  toF32 (if overwrite then s else numAdd (ofF32 entry) s)

/-- FP16 accumulation (R100): the code, and whether it saturated. -/
def accF16 (overwrite : Bool) (entry : Nat) (s : Num) : Nat × Bool :=
  let c := convFloat fmtF16 .nearest (if overwrite then s else numAdd (fmtDecode fmtF16 entry) s)
  (c.code, c.sat)

/-- INT32 accumulation (R100): the entry, and whether it saturated. -/
def accI32 (overwrite : Bool) (entry : Word) (s : Int) : Word × Bool :=
  let v := if overwrite then s else entry.toInt + s
  if v > 2147483647 then (0x7FFFFFFF#32, true)
  else if v < -2147483648 then (0x80000000#32, true)
  else (BitVec.ofInt 32 v, false)

/-! ### The functions of R120: opaque constants of Config, held to the bound by an exact or fixed-point check
(log entry 6) -/

/-- Fixed-point precision of the references. -/
def fxBits : Nat := 192

/-- pi × 2^256. -/
def piFx : Nat := 0x3243f6a8885a308d313198a2e03707344a4093822299f31d0082efa98ec4e6c89
/-- ln 2 × 2^192. -/
def ln2Fx : Nat := 0xb17217f7d1cf79abc9e3b39803f2f6af40f343267298b62d

/-- Σ x^i / i! in fixed point by Horner's rule, `k` terms, 0 ≤ x < 2^192. -/
def expSeries : Nat → Nat → Nat → Nat
  | 0, _, _ => 2 ^ 192
  | k + 1, i, x => 2 ^ 192 + ((x * expSeries k (i + 1) x) >>> 192) / i

/-- 2^f × 2^192 for a fraction f given as f × 2^192. -/
def exp2Fx (f : Nat) : Nat := expSeries 48 1 ((f * ln2Fx) >>> 192)

/-- A signed fixed-point number as its integer part (floor) and its fraction × 2^192. -/
def splitFx (neg : Bool) (n d : Nat) (e : Int) : Int × Nat :=
  let s := scaleTo n d e (-192)
  let v : Int := ((s.1 / s.2 : Nat) : Int)
  let v := if neg then -v else v
  (v / 2 ^ 192, (v % 2 ^ 192).toNat)

/-- The exact value nearest to 2^x that the reference gives; x finite, |x| below 2^12. -/
def exp2Ref (neg : Bool) (n d : Nat) (e : Int) : Num :=
  let p := splitFx neg n d e
  .fin false (exp2Fx p.2) 1 (p.1 - 192)

/-- Binary digits of log2 of m in [1, 2) given as m × 2^256: `k` digits. -/
def log2Digits : Nat → Nat → Nat → Nat
  | 0, _, acc => acc
  | k + 1, m, acc =>
    let m2 := (m * m) >>> 256
    if m2 ≥ 2 ^ 257 then log2Digits k (m2 >>> 1) (2 * acc + 1) else log2Digits k m2 (2 * acc)

/-- The reference of log2 of a positive value, with 120 fraction bits. -/
def log2Ref (n d : Nat) (e : Int) : Num :=
  let k := ratLog2 n d e
  let s := scaleTo n d e (k - 256)
  let fr := log2Digits 120 (s.1 / s.2) 0
  let v : Int := k * 2 ^ 120 + (fr : Int)
  .fin (decide (v < 0)) v.natAbs 1 (-120)

/-- Σ over the sine series: x − x³/3! + … of x × 2^128, by Horner in x². -/
def sinSeries : Nat → Nat → Int → Int
  | 0, _, _ => 2 ^ 128
  | k + 1, i, x2 => 2 ^ 128 - (x2 * sinSeries k (i + 2) x2 / 2 ^ 128) / ((i : Int) * (i + 1))

/-- The reference of sine (`shift` 0) or cosine (`shift` 1, a quarter turn ahead) of a finite value. -/
def sinRef (shift : Nat) (neg : Bool) (n d : Nat) (e : Int) : Num :=
  -- the argument modulo 2π, in units of 2^-256 of the turn's length
  let s := scaleTo n d e (-256)
  let twoPi := 2 * piFx
  let r0 := (s.1 / s.2) % twoPi
  let r1 := if neg then (twoPi - r0) % twoPi else r0
  let r := (r1 + shift * (piFx / 2)) % twoPi
  -- fold into [-π/2, π/2]
  let x : Int :=
    if r ≤ piFx / 2 then (r : Int) else if r ≤ 3 * (piFx / 2) then (piFx : Int) - r else (r : Int) - twoPi
  let xf : Int := x / 2 ^ 128
  let v : Int := xf * sinSeries 30 2 (xf * xf / 2 ^ 128) / 2 ^ 128
  .fin (decide (v < 0)) v.natAbs 1 (-128)

/-- The argument z × log2 e as a fraction for the logistic function, clipped. -/
def logistic (x z : Num) : Num :=
  match x, z with
  | .fin xs xn xd xe, .fin zs zn zd ze =>
    if xn = 0 then x
    else if zn != 0 && ratLog2 zn zd ze ≥ 10 then
      -- e^(-z) is beyond 2^1000 or below 2^-1000
      if zs then .fin xs 0 1 0 else x
    else
      let s := scaleTo zn zd ze (-192)
      let t : Nat := ((s.1 / s.2) <<< 192) / ln2Fx
      let v : Int := if zs then (t : Int) else -(t : Int)
      let k : Int := v / 2 ^ 192
      let g := exp2Fx (v % 2 ^ 192).toNat
      -- 1 + g × 2^(k - 192) as a numerator over 2^192 or 2^(192 - k)
      if 0 ≤ k then .fin xs (xn * 2 ^ 192) (xd * (2 ^ 192 + (g <<< k.toNat))) xe
      else .fin xs (xn <<< (192 + (-k).toNat)) (xd * (2 ^ (192 + (-k).toNat) + g)) xe
  | _, _ => .nan

/-- One unit in the last place of an FP32 value's binade. -/
def ulpF32 (w : Word) : Num :=
  let ex := (w.toNat % 2 ^ 31) >>> 23
  .fin false 1 1 (if ex = 0 then -149 else (ex : Int) - 150)

/-- |a − b| ≤ t, for finite values. -/
def withinNum (a b t : Num) : Bool :=
  let d := numAdd a (numNeg b)
  let m := match d with | .fin _ n dd e => Num.fin false n dd e | x => x
  match m with
  | .fin _ _ _ _ => !numLt t m
  | _ => false

/-- An opaque candidate held to a bound around a reference: the candidate when it is finite and within `k` ulp of
the reference (or within 2^floor), the reference rounded otherwise. -/
def heldTo (k : Nat) (floorExp : Option Int) (ref : Num) (cand : Word) : Word :=
  let r := toF32 ref
  let tol := numMul (.fin false k 1 0) (ulpF32 r)
  let tol := match floorExp with
    | some q => if numLt tol (.fin false 1 1 q) then .fin false 1 1 q else tol
    | none => tol
  if !nonfiniteF32 cand && withinNum (ofF32 cand) ref tol then cand else r

/-- exp2 (R120, R149). -/
def exp2F32 (w : Word) : Word :=
  match ofF32 w with
  | .nan => nanF32
  | .inf neg => if neg then 0 else 0x7F800000#32
  | .fin neg n d e =>
    if n = 0 then 0x3F800000#32
    else if ratLog2 n d e ≥ 9 then (if neg then 0 else 0x7F800000#32)
    else
      let s := scaleTo n d e 0
      let integral := s.1 % s.2 == 0
      let k : Int := if neg then -((s.1 / s.2 : Nat) : Int) else ((s.1 / s.2 : Nat) : Int)
      if integral && -149 ≤ k && k ≤ 127 then toF32 (.fin false 1 1 k)
      else
        let ref := exp2Ref neg n d e
        if nonfiniteF32 (toF32 ref) then 0x7F800000#32
        else heldTo 1 none ref (Config.exp2Fn w &&& 0x7FFFFFFF#32)

/-- log2 (R120). -/
def log2F32 (w : Word) : Word :=
  match ofF32 w with
  | .nan => nanF32
  | .inf neg => if neg then nanF32 else 0x7F800000#32
  | .fin neg n d e =>
    if n = 0 then 0xFF800000#32
    else if neg then nanF32
    else heldTo 1 none (log2Ref n d e) (Config.log2Fn w)

/-- Reciprocal (R120). -/
def recipF32 (w : Word) : Word :=
  match ofF32 w with
  | .nan => nanF32
  | .inf neg => if neg then 0x80000000#32 else 0
  | .fin neg n d e =>
    if n = 0 then (if neg then 0xFF800000#32 else 0x7F800000#32)
    else
      let ref := Num.fin neg d n (-e)
      if nonfiniteF32 (toF32 ref) then toF32 ref else heldTo 1 none ref (Config.recipFn w)

/-- Reciprocal square root (R120): the candidate r is kept when it is positive and r² x lies within the band that
one ulp of r spans; otherwise the largest FP32 value whose square times x is at most 1. -/
def rsqrtF32 (w : Word) : Word :=
  match ofF32 w with
  | .nan => nanF32
  | .inf neg => if neg then nanF32 else 0
  | .fin neg n d e =>
    if n = 0 then (if neg then 0xFF800000#32 else 0x7F800000#32)
    else if neg then nanF32
    else
      -- 1/sqrt(v) = isqrt(2^(2k) / v) / 2^k with 160 fraction bits on an even exponent
      let e' := if e % 2 = 0 then e else e - 1
      let n' := if e % 2 = 0 then n else 2 * n
      let q := (d <<< 640) / n'
      let r := Nat.log2 q
      let root := isqrtLoop 420 q (2 ^ (r / 2 + 1))
      heldTo 1 none (.fin false root 1 (-320 - e' / 2)) (Config.rsqrtFn w)
where
  /-- Newton's iteration for the integer square root, with fuel. -/
  isqrtLoop : Nat → Nat → Nat → Nat
    | 0, _, x => x
    | k + 1, q, x => let y := (x + q / x) / 2; if y < x then isqrtLoop k q y else x

/-- Sine (R120): absolute bound 2^-21. -/
def sinF32 (w : Word) : Word :=
  match ofF32 w with
  | .fin neg n d e => heldTo 0 (some (-21)) (sinRef 0 neg n d e) (Config.sinFn w)
  | _ => nanF32

/-- Cosine (R120). -/
def cosF32 (w : Word) : Word :=
  match ofF32 w with
  | .fin neg n d e => heldTo 0 (some (-21)) (sinRef 1 neg n d e) (Config.cosFn w)
  | _ => nanF32

/-- The constant 0.797_884_6 of GELU-tanh, as it is written (R120). -/
def geluC : Num := .fin false 7978846 10000000 0
/-- The constant 0.044_715 of GELU-tanh, as it is written (R120). -/
def geluA : Num := .fin false 44715 1000000 0

/-- GELU-tanh (R120): 0.5 x (1 + tanh y) is x / (1 + exp(−2y)). -/
def geluF32 (w : Word) : Word :=
  match ofF32 w with
  | .nan => nanF32
  | .inf neg => if neg then 0x80000000#32 else 0x7F800000#32
  | x =>
    let y := numMul geluC (numAdd x (numMul geluA (numMul x (numMul x x))))
    heldTo 4 (some (-126)) (logistic x (numScale 1 y)) (Config.geluFn w)

/-- SiLU (R120). -/
def siluF32 (w : Word) : Word :=
  match ofF32 w with
  | .nan => nanF32
  | .inf neg => if neg then 0x80000000#32 else 0x7F800000#32
  | x => heldTo 4 (some (-126)) (logistic x x) (Config.siluFn w)

/-- ReLU (R120). -/
def reluF32 (w : Word) : Word :=
  if isNanF32 w then nanF32 else if w.toNat < 2 ^ 31 then w else 0

/-- The functions of VEC.UNARY by f (R118). -/
def unaryF32 (f : Nat) (w : Word) : Word :=
  match f with
  | 0 => if isNanF32 w then nanF32 else w
  | 1 => if isNanF32 w then nanF32 else w &&& 0x7FFFFFFF#32
  | 2 => negF32 w
  | 3 => reluF32 w
  | 4 => geluF32 w
  | 5 => siluF32 w
  | 6 => exp2F32 w
  | 7 => log2F32 w
  | 8 => recipF32 w
  | 9 => rsqrtF32 w
  | 10 => sinF32 w
  | 11 => cosF32 w
  | _ => mulF32 w w

end Sys2Proof.Machine
end

