-- ==== Sys2Proof/Machine/Entries.lean ====
section
/-! DEFINITION. The entries of the parameter dictionary as the chapters list them (R18 to R20, R468 to R472): type,
width, access, Default, whether the entry is a statistics counter (R439) and its persistence. -/
namespace Sys2Proof.Machine

/-- Access of a dictionary entry (R19, R470). -/
inductive Access where
  | ro | rw | wo | rwl | rwp | cmd
  deriving DecidableEq, Repr

/-- Persistence of a dictionary entry (R472). -/
inductive Persist where
  | volatile | flash | fused
  deriving DecidableEq, Repr

/-- A row of the entry tables: entries `index` .. `index + reps - 1`, subindices `sub` .. `sub + subs - 1`; the type
code of R469; bytes of one cell, cells of one row, rows (0: not a TABLE); access, Default of each cell. -/
structure Entry where
  index : Nat
  reps : Nat
  sub : Nat
  subs : Nat
  typ : Nat
  width : Nat
  cells : Nat
  rows : Nat
  access : Access
  dflt : Nat
  counter : Bool
  persist : Persist
  deriving DecidableEq, Repr

/-- Part 1 of the entry tables. -/
def entryRows1 : List Entry := [
  ⟨0x1000, 1, 0x00, 1, 2, 1, 1, 0, .ro, 0xB, false, .fused⟩,
  ⟨0x1000, 1, 0x01, 1, 11, 64, 1, 0, .ro, 0x746573726F4A, false, .fused⟩,
  ⟨0x1000, 1, 0x02, 1, 11, 64, 1, 0, .ro, 0x342D584B206166657A7255, false, .fused⟩,
  ⟨0x1000, 1, 0x03, 1, 11, 64, 1, 0, .ro, 0x616D656863654B, false, .fused⟩,
  ⟨0x1000, 1, 0x04, 1, 11, 64, 1, 0, .ro, 0x3836372D344B554A, false, .fused⟩,
  ⟨0x1000, 1, 0x05, 1, 2, 1, 1, 0, .ro, 0xB0, false, .fused⟩,
  ⟨0x1000, 1, 0x06, 1, 11, 64, 1, 0, .ro, 0, false, .fused⟩,
  ⟨0x1000, 1, 0x07, 1, 9, 1, 1, 0, .ro, 2, false, .volatile⟩,
  ⟨0x1000, 1, 0x08, 1, 13, 4, 1, 5, .ro, 0, false, .volatile⟩,
  ⟨0x1000, 1, 0x09, 1, 3, 2, 1, 0, .ro, 1, false, .fused⟩,
  ⟨0x1000, 1, 0x0A, 1, 2, 1, 1, 0, .ro, 0, false, .volatile⟩,
  ⟨0x1000, 1, 0x0B, 1, 5, 8, 1, 0, .ro, 0, true, .volatile⟩,
  ⟨0x1100, 1, 0x00, 1, 2, 1, 1, 0, .ro, 9, false, .fused⟩,
  ⟨0x1100, 1, 0x01, 1, 9, 1, 1, 0, .cmd, 0, false, .volatile⟩,
  ⟨0x1100, 1, 0x02, 1, 4, 4, 1, 0, .cmd, 0, false, .volatile⟩,
  ⟨0x1100, 1, 0x03, 1, 9, 1, 1, 0, .ro, 0, false, .flash⟩,
  ⟨0x1100, 1, 0x04, 1, 12, 32, 1, 0, .ro, 0, false, .volatile⟩,
  ⟨0x1100, 1, 0x05, 1, 12, 29860, 1, 0, .cmd, 0, false, .volatile⟩,
  ⟨0x1100, 1, 0x06, 1, 1, 1, 1, 0, .cmd, 0, false, .volatile⟩,
  ⟨0x1100, 1, 0x07, 1, 4, 4, 1, 0, .ro, 0, false, .volatile⟩,
  ⟨0x1100, 1, 0x08, 1, 4, 4, 1, 0, .rw, 0x258, false, .flash⟩,
  ⟨0x1100, 1, 0x09, 1, 1, 1, 1, 0, .rwp, 0, false, .flash⟩,
  ⟨0x2000, 1, 0x00, 1, 2, 1, 1, 0, .ro, 0x13, false, .fused⟩,
  ⟨0x2000, 1, 0x01, 1, 4, 4, 1, 0, .rw, 0xFA0, false, .volatile⟩,
  ⟨0x2000, 1, 0x02, 1, 4, 4, 1, 0, .cmd, 0, false, .volatile⟩,
  ⟨0x2000, 1, 0x03, 1, 4, 4, 1, 0, .ro, 0x4C4, false, .fused⟩,
  ⟨0x2000, 1, 0x04, 1, 4, 4, 1, 0, .ro, 0x508, false, .fused⟩,
  ⟨0x2000, 1, 0x05, 1, 4, 4, 1, 0, .ro, 0x25C, false, .volatile⟩,
  ⟨0x2000, 1, 0x06, 1, 8, 4, 1, 0, .ro, 0, false, .volatile⟩,
  ⟨0x2000, 1, 0x07, 1, 8, 4, 1, 0, .ro, 0, false, .volatile⟩,
  ⟨0x2000, 1, 0x08, 1, 13, 4, 1, 4, .ro, 0, false, .volatile⟩,
  ⟨0x2000, 1, 0x09, 1, 13, 4, 1, 4, .ro, 0, false, .volatile⟩,
  ⟨0x2000, 1, 0x0A, 1, 13, 4, 1, 4, .ro, 0, false, .volatile⟩,
  ⟨0x2000, 1, 0x0B, 1, 13, 1, 1, 4, .ro, 4, false, .volatile⟩,
  ⟨0x2000, 1, 0x0C, 1, 13, 1, 1, 32, .ro, 0x10, false, .volatile⟩,
  ⟨0x2000, 1, 0x0D, 1, 13, 1, 1, 4, .ro, 0, false, .volatile⟩,
  ⟨0x2000, 1, 0x0E, 1, 13, 1, 1, 4, .ro, 0, false, .volatile⟩,
  ⟨0x2000, 1, 0x0F, 1, 5, 8, 1, 0, .ro, 0, true, .volatile⟩,
  ⟨0x2000, 1, 0x10, 1, 13, 8, 1, 4, .ro, 0, true, .volatile⟩,
  ⟨0x2000, 1, 0x11, 1, 13, 8, 1, 4, .ro, 0, true, .volatile⟩]

/-- Part 2 of the entry tables. -/
def entryRows2 : List Entry := [
  ⟨0x2000, 1, 0x12, 1, 13, 8, 1, 4, .ro, 0, true, .volatile⟩,
  ⟨0x2000, 1, 0x13, 1, 13, 8, 1, 4, .ro, 0, true, .volatile⟩,
  ⟨0x2001, 1, 0x00, 1, 2, 1, 1, 0, .ro, 1, false, .fused⟩,
  ⟨0x2001, 1, 0x01, 1, 5, 8, 1, 0, .ro, 0, true, .volatile⟩,
  ⟨0x2100, 1, 0x00, 1, 2, 1, 1, 0, .ro, 8, false, .fused⟩,
  ⟨0x2100, 1, 0x01, 1, 13, 4, 1, 4, .ro, 0, false, .volatile⟩,
  ⟨0x2100, 1, 0x02, 1, 8, 4, 1, 0, .ro, 0, false, .volatile⟩,
  ⟨0x2100, 1, 0x03, 1, 13, 4, 1, 32, .ro, 0, false, .volatile⟩,
  ⟨0x2100, 1, 0x04, 1, 13, 4, 1, 16, .ro, 0, false, .volatile⟩,
  ⟨0x2100, 1, 0x05, 1, 8, 4, 1, 0, .ro, 0x42BE0000, false, .fused⟩,
  ⟨0x2100, 1, 0x06, 1, 8, 4, 1, 0, .ro, 0x42D20000, false, .fused⟩,
  ⟨0x2100, 1, 0x07, 1, 8, 4, 1, 0, .ro, 0x42E60000, false, .fused⟩,
  ⟨0x2100, 1, 0x08, 1, 13, 8, 1, 4, .ro, 0, true, .volatile⟩,
  ⟨0x2200, 1, 0x00, 1, 2, 1, 1, 0, .ro, 0x48, false, .fused⟩,
  ⟨0x2200, 1, 0x01, 72, 9, 1, 1, 0, .rw, 1, false, .volatile⟩,
  ⟨0x3000, 1, 0x00, 1, 2, 1, 1, 0, .ro, 0x11, false, .fused⟩,
  ⟨0x3000, 1, 0x01, 1, 3, 2, 1, 0, .rw, 0, false, .flash⟩,
  ⟨0x3000, 1, 0x02, 1, 5, 8, 1, 0, .cmd, 0, false, .volatile⟩,
  ⟨0x3000, 1, 0x03, 1, 1, 1, 1, 0, .cmd, 0, false, .volatile⟩,
  ⟨0x3000, 1, 0x04, 1, 4, 4, 1, 0, .ro, 0, false, .volatile⟩,
  ⟨0x3000, 1, 0x05, 1, 4, 4, 1, 0, .ro, 0, false, .volatile⟩,
  ⟨0x3000, 1, 0x06, 1, 4, 4, 1, 0, .ro, 0, false, .volatile⟩,
  ⟨0x3000, 1, 0x07, 1, 4, 4, 1, 0, .ro, 0, false, .volatile⟩,
  ⟨0x3000, 1, 0x08, 1, 4, 4, 1, 0, .rw, 0xC350, false, .flash⟩,
  ⟨0x3000, 1, 0x09, 1, 1, 1, 1, 0, .rwl, 1, false, .volatile⟩,
  ⟨0x3000, 1, 0x0A, 1, 9, 1, 1, 0, .rwp, 1, false, .flash⟩,
  ⟨0x3000, 1, 0x0B, 1, 2, 1, 1, 0, .ro, 0, false, .volatile⟩,
  ⟨0x3000, 1, 0x0C, 1, 5, 8, 1, 0, .ro, 0, true, .volatile⟩,
  ⟨0x3000, 1, 0x0D, 1, 5, 8, 1, 0, .ro, 0, true, .volatile⟩,
  ⟨0x3000, 1, 0x0E, 1, 5, 8, 1, 0, .ro, 0, true, .volatile⟩,
  ⟨0x3000, 1, 0x0F, 1, 5, 8, 1, 0, .ro, 0, true, .volatile⟩,
  ⟨0x3000, 1, 0x10, 1, 5, 8, 1, 0, .ro, 0, true, .volatile⟩,
  ⟨0x3000, 1, 0x11, 1, 13, 2, 4, 4, .ro, 0, false, .volatile⟩,
  ⟨0x3100, 32, 0x00, 1, 2, 1, 1, 0, .ro, 0x1A, false, .fused⟩,
  ⟨0x3100, 32, 0x01, 1, 1, 1, 1, 0, .rw, 1, false, .flash⟩,
  ⟨0x3100, 32, 0x02, 1, 9, 1, 1, 0, .rw, 0, false, .flash⟩,
  ⟨0x3100, 32, 0x03, 1, 9, 1, 1, 0, .ro, 0, false, .volatile⟩,
  ⟨0x3100, 32, 0x04, 1, 9, 1, 1, 0, .ro, 0, false, .volatile⟩,
  ⟨0x3100, 32, 0x05, 1, 3, 2, 1, 0, .rw, 0, false, .flash⟩,
  ⟨0x3100, 32, 0x06, 1, 3, 2, 1, 0, .rw, 0, false, .flash⟩]

/-- Part 3 of the entry tables. -/
def entryRows3 : List Entry := [
  ⟨0x3100, 32, 0x07, 1, 3, 2, 1, 0, .ro, 0, false, .volatile⟩,
  ⟨0x3100, 32, 0x08, 1, 2, 1, 1, 0, .ro, 0, false, .volatile⟩,
  ⟨0x3100, 32, 0x09, 1, 4, 4, 1, 0, .ro, 0, false, .volatile⟩,
  ⟨0x3100, 32, 0x0A, 1, 4, 4, 1, 0, .ro, 0, false, .volatile⟩,
  ⟨0x3100, 32, 0x0B, 1, 4, 4, 1, 0, .ro, 0, false, .volatile⟩,
  ⟨0x3100, 32, 0x0C, 1, 6, 4, 1, 0, .ro, 0, false, .volatile⟩,
  ⟨0x3100, 32, 0x0D, 1, 2, 1, 1, 0, .rw, 0, false, .flash⟩,
  ⟨0x3100, 32, 0x0E, 1, 4, 4, 1, 0, .rw, 0x7D0, false, .flash⟩,
  ⟨0x3100, 32, 0x0F, 1, 2, 1, 1, 0, .rw, 3, false, .flash⟩,
  ⟨0x3100, 32, 0x10, 1, 4, 4, 1, 0, .rw, 0x2710, false, .flash⟩,
  ⟨0x3100, 32, 0x11, 1, 5, 8, 1, 0, .ro, 0, true, .volatile⟩,
  ⟨0x3100, 32, 0x12, 1, 5, 8, 1, 0, .ro, 0, true, .volatile⟩,
  ⟨0x3100, 32, 0x13, 1, 5, 8, 1, 0, .ro, 0, true, .volatile⟩,
  ⟨0x3100, 32, 0x14, 1, 5, 8, 1, 0, .ro, 0, true, .volatile⟩,
  ⟨0x3100, 32, 0x15, 1, 5, 8, 1, 0, .ro, 0, true, .volatile⟩,
  ⟨0x3100, 32, 0x16, 1, 5, 8, 1, 0, .ro, 0, true, .volatile⟩,
  ⟨0x3100, 32, 0x17, 1, 5, 8, 1, 0, .ro, 0, true, .volatile⟩,
  ⟨0x3100, 32, 0x18, 1, 5, 8, 1, 0, .ro, 0, true, .volatile⟩,
  ⟨0x3100, 32, 0x19, 1, 5, 8, 1, 0, .ro, 0, true, .volatile⟩,
  ⟨0x3100, 32, 0x1A, 1, 5, 8, 1, 0, .ro, 0, true, .volatile⟩,
  ⟨0x3200, 1, 0x00, 1, 2, 1, 1, 0, .ro, 5, false, .fused⟩,
  ⟨0x3200, 1, 0x01, 1, 13, 1, 1, 16, .rw, 1, false, .flash⟩,
  ⟨0x3200, 1, 0x02, 1, 13, 2, 16, 32, .ro, 0, false, .volatile⟩,
  ⟨0x3200, 1, 0x03, 1, 13, 1, 1, 32, .ro, 0, false, .volatile⟩,
  ⟨0x3200, 1, 0x04, 1, 13, 4, 1, 32, .rw, 0x3E8, false, .flash⟩,
  ⟨0x3200, 1, 0x05, 1, 4, 4, 1, 0, .rw, 0x4E20, false, .flash⟩,
  ⟨0x3400, 1, 0x00, 1, 2, 1, 1, 0, .ro, 0x10, false, .fused⟩,
  ⟨0x3400, 1, 0x01, 1, 5, 8, 1, 0, .cmd, 0, false, .volatile⟩,
  ⟨0x3400, 1, 0x02, 1, 4, 4, 1, 0, .cmd, 0, false, .volatile⟩,
  ⟨0x3400, 1, 0x03, 1, 13, 8, 1, 64, .ro, 0, false, .volatile⟩,
  ⟨0x3400, 1, 0x04, 1, 5, 8, 1, 0, .ro, 0, false, .volatile⟩,
  ⟨0x3400, 1, 0x05, 1, 4, 4, 1, 0, .rw, 0x64, false, .flash⟩,
  ⟨0x3400, 1, 0x06, 1, 4, 4, 1, 0, .ro, 0xBB8, false, .fused⟩,
  ⟨0x3400, 1, 0x07, 1, 4, 4, 1, 0, .ro, 0x7D0, false, .fused⟩,
  ⟨0x3400, 1, 0x08, 1, 4, 4, 1, 0, .ro, 0x2EE0, false, .fused⟩,
  ⟨0x3400, 1, 0x09, 1, 2, 1, 1, 0, .rw, 1, false, .flash⟩,
  ⟨0x3400, 1, 0x0A, 1, 2, 1, 1, 0, .rw, 3, false, .flash⟩,
  ⟨0x3400, 1, 0x0B, 1, 5, 8, 1, 0, .ro, 0, true, .volatile⟩,
  ⟨0x3400, 1, 0x0C, 1, 5, 8, 1, 0, .ro, 0, true, .volatile⟩,
  ⟨0x3400, 1, 0x0D, 1, 5, 8, 1, 0, .ro, 0, true, .volatile⟩]

/-- Part 4 of the entry tables. -/
def entryRows4 : List Entry := [
  ⟨0x3400, 1, 0x0E, 1, 5, 8, 1, 0, .ro, 0, true, .volatile⟩,
  ⟨0x3400, 1, 0x0F, 1, 5, 8, 1, 0, .ro, 0, true, .volatile⟩,
  ⟨0x3400, 1, 0x10, 1, 5, 8, 1, 0, .ro, 0, true, .volatile⟩,
  ⟨0x4000, 1, 0x00, 1, 2, 1, 1, 0, .ro, 6, false, .fused⟩,
  ⟨0x4000, 1, 0x01, 1, 12, 32, 1, 0, .cmd, 0, false, .volatile⟩,
  ⟨0x4000, 1, 0x02, 1, 3, 2, 1, 0, .cmd, 0, false, .volatile⟩,
  ⟨0x4000, 1, 0x03, 1, 13, 32, 1, 1024, .ro, 0, false, .volatile⟩,
  ⟨0x4000, 1, 0x04, 1, 5, 8, 1, 0, .ro, 0xBE00000000, false, .volatile⟩,
  ⟨0x4000, 1, 0x05, 1, 5, 8, 1, 0, .ro, 0x200000000, false, .fused⟩,
  ⟨0x4000, 1, 0x06, 1, 4, 4, 1, 0, .rw, 0x15180, false, .flash⟩,
  ⟨0x4010, 4, 0x00, 1, 2, 1, 1, 0, .ro, 8, false, .fused⟩,
  ⟨0x4010, 4, 0x01, 1, 5, 8, 1, 0, .rw, 0x60000000, false, .flash⟩,
  ⟨0x4010, 4, 0x02, 1, 5, 8, 1, 0, .rw, 0x80000000, false, .flash⟩,
  ⟨0x4010, 4, 0x03, 1, 5, 8, 1, 0, .rw, 0xBD00000000, false, .flash⟩,
  ⟨0x4010, 4, 0x04, 1, 5, 8, 1, 0, .rw, 0x100000000, false, .flash⟩,
  ⟨0x4010, 4, 0x05, 1, 5, 8, 1, 0, .ro, 0, false, .volatile⟩,
  ⟨0x4010, 4, 0x06, 1, 5, 8, 1, 0, .ro, 0, false, .volatile⟩,
  ⟨0x4010, 4, 0x07, 1, 5, 8, 1, 0, .ro, 0, false, .volatile⟩,
  ⟨0x4010, 4, 0x08, 1, 5, 8, 1, 0, .ro, 0, false, .volatile⟩,
  ⟨0x4018, 4, 0x00, 1, 2, 1, 1, 0, .ro, 1, false, .fused⟩,
  ⟨0x4018, 4, 0x01, 1, 13, 8, 1, 32, .rwl, 0, false, .volatile⟩,
  ⟨0x4100, 32, 0x00, 1, 2, 1, 1, 0, .ro, 0xA, false, .fused⟩,
  ⟨0x4100, 32, 0x01, 1, 9, 1, 1, 0, .ro, 2, false, .volatile⟩,
  ⟨0x4100, 32, 0x02, 1, 5, 8, 1, 0, .ro, 0, true, .volatile⟩,
  ⟨0x4100, 32, 0x03, 1, 5, 8, 1, 0, .ro, 0, true, .volatile⟩,
  ⟨0x4100, 32, 0x04, 1, 5, 8, 1, 0, .ro, 0, true, .volatile⟩,
  ⟨0x4100, 32, 0x05, 1, 5, 8, 1, 0, .ro, 0, true, .volatile⟩,
  ⟨0x4100, 32, 0x06, 1, 5, 8, 1, 0, .ro, 0, true, .volatile⟩,
  ⟨0x4100, 32, 0x07, 1, 5, 8, 1, 0, .ro, 0, true, .volatile⟩,
  ⟨0x4100, 32, 0x08, 1, 5, 8, 1, 0, .ro, 0, true, .volatile⟩,
  ⟨0x4100, 32, 0x09, 1, 5, 8, 1, 0, .ro, 0, true, .volatile⟩,
  ⟨0x4100, 32, 0x0A, 1, 5, 8, 1, 0, .ro, 0, true, .volatile⟩,
  ⟨0x5000, 1, 0x00, 1, 2, 1, 1, 0, .ro, 4, false, .fused⟩,
  ⟨0x5000, 1, 0x01, 1, 9, 1, 1, 0, .rw, 0, false, .flash⟩,
  ⟨0x5000, 1, 0x02, 1, 1, 1, 1, 0, .rw, 1, false, .flash⟩,
  ⟨0x5000, 1, 0x03, 1, 2, 1, 1, 0, .rw, 7, false, .flash⟩,
  ⟨0x5000, 1, 0x04, 1, 13, 4, 1, 8, .ro, 0, false, .fused⟩,
  ⟨0x5001, 1, 0x00, 1, 2, 1, 1, 0, .ro, 2, false, .fused⟩,
  ⟨0x5001, 1, 0x01, 1, 12, 32, 1, 0, .rw, 0xFFFFFFFFFFFFFFFFFFFFFFFFFFFFFFFFFFFFFFFFFFFFFFFFFFFFFFFFFFFFFFFF, false, .volatile⟩,
  ⟨0x5001, 1, 0x02, 1, 12, 32, 1, 0, .ro, 0, false, .volatile⟩]

/-- Part 5 of the entry tables. -/
def entryRows5 : List Entry := [
  ⟨0x5110, 4, 0x00, 1, 2, 1, 1, 0, .ro, 0xA, false, .fused⟩,
  ⟨0x5110, 4, 0x01, 1, 5, 8, 1, 0, .rwl, 0, false, .volatile⟩,
  ⟨0x5110, 4, 0x02, 1, 8, 4, 1, 0, .rwl, 0x33D6BF95, false, .volatile⟩,
  ⟨0x5110, 4, 0x03, 1, 8, 4, 1, 0, .rwl, 0x3DCCCCCD, false, .volatile⟩,
  ⟨0x5110, 4, 0x04, 1, 8, 4, 1, 0, .rwl, 0x3E000000, false, .volatile⟩,
  ⟨0x5110, 4, 0x05, 1, 2, 1, 1, 0, .rwl, 8, false, .volatile⟩,
  ⟨0x5110, 4, 0x06, 1, 13, 2, 1, 64, .rwl, 0xFFFF, false, .volatile⟩,
  ⟨0x5110, 4, 0x07, 1, 5, 8, 1, 0, .ro, 0, true, .volatile⟩,
  ⟨0x5110, 4, 0x08, 1, 5, 8, 1, 0, .ro, 0, true, .volatile⟩,
  ⟨0x5110, 4, 0x09, 1, 5, 8, 1, 0, .ro, 0, true, .volatile⟩,
  ⟨0x5110, 4, 0x0A, 1, 5, 8, 1, 0, .ro, 0, true, .volatile⟩,
  ⟨0x5118, 4, 0x00, 1, 2, 1, 1, 0, .ro, 1, false, .fused⟩,
  ⟨0x5118, 4, 0x01, 1, 13, 32, 1, 64, .ro, 0, false, .volatile⟩,
  ⟨0x6000, 1, 0x00, 1, 2, 1, 1, 0, .ro, 0x16, false, .fused⟩,
  ⟨0x6000, 1, 0x01, 1, 9, 1, 1, 0, .ro, 0, false, .volatile⟩,
  ⟨0x6000, 1, 0x02, 1, 1, 1, 1, 0, .ro, 1, false, .fused⟩,
  ⟨0x6000, 1, 0x03, 1, 1, 1, 1, 0, .ro, 1, false, .fused⟩,
  ⟨0x6000, 1, 0x04, 1, 2, 1, 1, 0, .ro, 0, false, .fused⟩,
  ⟨0x6000, 1, 0x05, 1, 1, 1, 1, 0, .cmd, 0, false, .volatile⟩,
  ⟨0x6000, 1, 0x06, 1, 2, 1, 1, 0, .ro, 0, false, .volatile⟩,
  ⟨0x6000, 1, 0x07, 1, 2, 1, 1, 0, .rw, 0, false, .flash⟩,
  ⟨0x6000, 1, 0x08, 1, 5, 8, 1, 0, .cmd, 0, false, .volatile⟩,
  ⟨0x6000, 1, 0x09, 1, 4, 4, 1, 0, .ro, 0, false, .volatile⟩,
  ⟨0x6000, 1, 0x0A, 1, 13, 64, 1, 4, .ro, 0, false, .fused⟩,
  ⟨0x6000, 1, 0x0B, 1, 12, 64, 1, 0, .cmd, 0, false, .volatile⟩,
  ⟨0x6000, 1, 0x0C, 1, 2, 1, 1, 0, .cmd, 0, false, .volatile⟩,
  ⟨0x6000, 1, 0x0D, 1, 10, 4, 1, 0, .ro, 0, false, .fused⟩,
  ⟨0x6000, 1, 0x0E, 1, 12, 1568, 1, 0, .ro, 0, false, .volatile⟩,
  ⟨0x6000, 1, 0x0F, 1, 12, 64, 1, 0, .ro, 0, false, .volatile⟩,
  ⟨0x6000, 1, 0x10, 1, 13, 64, 1, 32, .rw, 0, false, .flash⟩,
  ⟨0x6000, 1, 0x11, 1, 13, 64, 1, 8, .ro, 0, false, .volatile⟩,
  ⟨0x6000, 1, 0x12, 1, 13, 8, 1, 32, .ro, 0, false, .volatile⟩,
  ⟨0x6000, 1, 0x13, 1, 1, 1, 1, 0, .cmd, 0, false, .volatile⟩,
  ⟨0x6000, 1, 0x14, 1, 1, 1, 1, 0, .cmd, 0, false, .volatile⟩,
  ⟨0x6000, 1, 0x15, 1, 4, 4, 1, 0, .cmd, 0, false, .volatile⟩,
  ⟨0x6000, 1, 0x16, 1, 9, 1, 1, 0, .ro, 0, false, .flash⟩,
  ⟨0x7000, 1, 0x00, 1, 2, 1, 1, 0, .ro, 7, false, .fused⟩,
  ⟨0x7000, 1, 0x01, 1, 13, 64, 1, 1024, .ro, 0, false, .volatile⟩,
  ⟨0x7000, 1, 0x02, 1, 5, 8, 1, 0, .ro, 0, true, .volatile⟩,
  ⟨0x7000, 1, 0x03, 1, 5, 8, 1, 0, .ro, 0, true, .volatile⟩]

/-- Part 6 of the entry tables. -/
def entryRows6 : List Entry := [
  ⟨0x7000, 1, 0x04, 1, 13, 8, 1, 160, .ro, 0, true, .volatile⟩,
  ⟨0x7000, 1, 0x05, 1, 5, 8, 1, 0, .ro, 0, true, .volatile⟩,
  ⟨0x7000, 1, 0x06, 1, 1, 1, 1, 0, .cmd, 0, false, .volatile⟩,
  ⟨0x7000, 1, 0x07, 1, 12, 64, 1, 0, .ro, 0, false, .flash⟩,
  ⟨0x7010, 4, 0x00, 1, 2, 1, 1, 0, .ro, 4, false, .fused⟩,
  ⟨0x7010, 4, 0x01, 1, 1, 1, 1, 0, .ro, 0, false, .volatile⟩,
  ⟨0x7010, 4, 0x02, 1, 3, 2, 1, 0, .ro, 0, false, .volatile⟩,
  ⟨0x7010, 4, 0x03, 1, 5, 8, 1, 0, .ro, 0, true, .volatile⟩,
  ⟨0x7010, 4, 0x04, 1, 1, 1, 1, 0, .cmd, 0, false, .volatile⟩,
  ⟨0x8000, 1, 0x00, 1, 2, 1, 1, 0, .ro, 1, false, .fused⟩,
  ⟨0x8000, 1, 0x01, 1, 4, 4, 1, 0, .cmd, 0, false, .volatile⟩,
  ⟨0x8010, 1, 0x00, 1, 2, 1, 1, 0, .ro, 6, false, .fused⟩,
  ⟨0x8010, 1, 0x01, 1, 13, 8, 1, 256, .ro, 0, true, .volatile⟩,
  ⟨0x8010, 1, 0x02, 1, 13, 8, 1, 256, .ro, 0, true, .volatile⟩,
  ⟨0x8010, 1, 0x03, 1, 13, 8, 1, 256, .ro, 0, true, .volatile⟩,
  ⟨0x8010, 1, 0x04, 1, 13, 8, 1, 256, .ro, 0, true, .volatile⟩,
  ⟨0x8010, 1, 0x05, 1, 13, 8, 1, 256, .ro, 0, true, .volatile⟩,
  ⟨0x8010, 1, 0x06, 1, 13, 8, 1, 256, .ro, 0, true, .volatile⟩,
  ⟨0x8011, 1, 0x00, 1, 2, 1, 1, 0, .ro, 6, false, .fused⟩,
  ⟨0x8011, 1, 0x01, 1, 13, 8, 1, 256, .ro, 0, true, .volatile⟩,
  ⟨0x8011, 1, 0x02, 1, 13, 8, 1, 256, .ro, 0, true, .volatile⟩,
  ⟨0x8011, 1, 0x03, 1, 13, 8, 1, 256, .ro, 0, true, .volatile⟩,
  ⟨0x8011, 1, 0x04, 1, 13, 8, 1, 256, .ro, 0, true, .volatile⟩,
  ⟨0x8011, 1, 0x05, 1, 13, 8, 1, 256, .ro, 0, true, .volatile⟩,
  ⟨0x8011, 1, 0x06, 1, 13, 8, 1, 256, .ro, 0, true, .volatile⟩,
  ⟨0x8012, 1, 0x00, 1, 2, 1, 1, 0, .ro, 3, false, .fused⟩,
  ⟨0x8012, 1, 0x01, 1, 13, 8, 1, 256, .ro, 0, true, .volatile⟩,
  ⟨0x8012, 1, 0x02, 1, 13, 8, 1, 256, .ro, 0, true, .volatile⟩,
  ⟨0x8012, 1, 0x03, 1, 13, 8, 1, 256, .ro, 0, true, .volatile⟩,
  ⟨0x8013, 1, 0x00, 1, 2, 1, 1, 0, .ro, 7, false, .fused⟩,
  ⟨0x8013, 1, 0x01, 1, 13, 8, 1, 32, .ro, 0, true, .volatile⟩,
  ⟨0x8013, 1, 0x02, 1, 13, 8, 1, 32, .ro, 0, true, .volatile⟩,
  ⟨0x8013, 1, 0x03, 1, 13, 8, 1, 32, .ro, 0, true, .volatile⟩,
  ⟨0x8013, 1, 0x04, 1, 13, 8, 1, 32, .ro, 0, true, .volatile⟩,
  ⟨0x8013, 1, 0x05, 1, 13, 8, 1, 32, .ro, 0, true, .volatile⟩,
  ⟨0x8013, 1, 0x06, 1, 13, 8, 1, 32, .ro, 0, true, .volatile⟩,
  ⟨0x8013, 1, 0x07, 1, 13, 8, 16, 32, .ro, 0, true, .volatile⟩,
  ⟨0x8014, 1, 0x00, 1, 2, 1, 1, 0, .ro, 8, false, .fused⟩,
  ⟨0x8014, 1, 0x01, 1, 13, 8, 1, 4, .ro, 0, false, .volatile⟩,
  ⟨0x8014, 1, 0x02, 1, 13, 8, 1, 4, .ro, 0, true, .volatile⟩]

/-- Part 7 of the entry tables. -/
def entryRows7 : List Entry := [
  ⟨0x8014, 1, 0x03, 1, 13, 8, 1, 4, .ro, 0, true, .volatile⟩,
  ⟨0x8014, 1, 0x04, 1, 13, 8, 1, 4, .ro, 0, true, .volatile⟩,
  ⟨0x8014, 1, 0x05, 1, 13, 8, 1, 4, .ro, 0, true, .volatile⟩,
  ⟨0x8014, 1, 0x06, 1, 13, 8, 1, 4, .ro, 0, true, .volatile⟩,
  ⟨0x8014, 1, 0x07, 1, 13, 8, 1, 4, .ro, 0, true, .volatile⟩,
  ⟨0x8014, 1, 0x08, 1, 13, 8, 1, 4, .ro, 0, true, .volatile⟩,
  ⟨0x8015, 1, 0x00, 1, 2, 1, 1, 0, .ro, 0xB, false, .fused⟩,
  ⟨0x8015, 1, 0x01, 1, 5, 8, 1, 0, .ro, 0, true, .volatile⟩,
  ⟨0x8015, 1, 0x02, 1, 5, 8, 1, 0, .ro, 0, true, .volatile⟩,
  ⟨0x8015, 1, 0x03, 1, 5, 8, 1, 0, .ro, 0, true, .volatile⟩,
  ⟨0x8015, 1, 0x04, 1, 5, 8, 1, 0, .ro, 0, true, .volatile⟩,
  ⟨0x8015, 1, 0x05, 1, 5, 8, 1, 0, .ro, 0, true, .volatile⟩,
  ⟨0x8015, 1, 0x06, 1, 5, 8, 1, 0, .ro, 0, true, .volatile⟩,
  ⟨0x8015, 1, 0x07, 1, 5, 8, 1, 0, .ro, 0, true, .volatile⟩,
  ⟨0x8015, 1, 0x08, 1, 5, 8, 1, 0, .ro, 0, true, .volatile⟩,
  ⟨0x8015, 1, 0x09, 1, 5, 8, 1, 0, .ro, 0, true, .volatile⟩,
  ⟨0x8015, 1, 0x0A, 1, 5, 8, 1, 0, .ro, 0, true, .volatile⟩,
  ⟨0x8015, 1, 0x0B, 1, 5, 8, 1, 0, .ro, 0, true, .volatile⟩,
  ⟨0x9000, 1, 0x00, 1, 2, 1, 1, 0, .ro, 4, false, .fused⟩,
  ⟨0x9000, 1, 0x01, 4, 9, 1, 1, 0, .rw, 1, false, .volatile⟩,
  ⟨0x9001, 1, 0x00, 1, 2, 1, 1, 0, .ro, 4, false, .fused⟩,
  ⟨0x9001, 1, 0x01, 4, 1, 1, 1, 0, .rw, 0, false, .volatile⟩,
  ⟨0x9010, 4, 0x00, 1, 2, 1, 1, 0, .ro, 7, false, .fused⟩,
  ⟨0x9010, 4, 0x01, 1, 5, 8, 1, 0, .rwl, 0, false, .volatile⟩,
  ⟨0x9010, 4, 0x02, 1, 12, 32, 1, 0, .rwl, 0, false, .volatile⟩,
  ⟨0x9010, 4, 0x03, 1, 2, 1, 1, 0, .cmd, 0, false, .volatile⟩,
  ⟨0x9010, 4, 0x04, 1, 5, 8, 1, 0, .ro, 0, true, .volatile⟩,
  ⟨0x9010, 4, 0x05, 1, 5, 8, 1, 0, .ro, 0, true, .volatile⟩,
  ⟨0x9010, 4, 0x06, 1, 2, 1, 1, 0, .ro, 0, false, .volatile⟩,
  ⟨0x9010, 4, 0x07, 1, 5, 8, 1, 0, .ro, 0, true, .volatile⟩,
  ⟨0x9020, 1, 0x00, 1, 2, 1, 1, 0, .ro, 4, false, .fused⟩,
  ⟨0x9020, 1, 0x01, 1, 5, 8, 1, 0, .cmd, 0, false, .volatile⟩,
  ⟨0x9020, 1, 0x02, 1, 2, 1, 1, 0, .cmd, 0, false, .volatile⟩,
  ⟨0x9020, 1, 0x03, 1, 13, 8, 1, 128, .ro, 0, false, .volatile⟩,
  ⟨0x9020, 1, 0x04, 1, 13, 8, 5, 128, .ro, 0, true, .volatile⟩,
  ⟨0x9030, 4, 0x00, 1, 2, 1, 1, 0, .ro, 6, false, .fused⟩,
  ⟨0x9030, 4, 0x01, 1, 4, 4, 1, 0, .ro, 0, false, .volatile⟩,
  ⟨0x9030, 4, 0x02, 1, 5, 8, 1, 0, .cmd, 0, false, .volatile⟩,
  ⟨0x9030, 4, 0x03, 1, 9, 1, 1, 0, .ro, 0, false, .volatile⟩,
  ⟨0x9030, 4, 0x04, 1, 1, 1, 1, 0, .cmd, 0, false, .volatile⟩]

/-- Part 8 of the entry tables. -/
def entryRows8 : List Entry := [
  ⟨0x9030, 4, 0x05, 1, 4, 4, 1, 0, .rw, 0x3E8, false, .flash⟩,
  ⟨0x9030, 4, 0x06, 1, 4, 4, 1, 0, .ro, 0, false, .volatile⟩,
  ⟨0x9040, 1, 0x00, 1, 2, 1, 1, 0, .ro, 4, false, .fused⟩,
  ⟨0x9040, 1, 0x01, 1, 5, 8, 1, 0, .cmd, 0, false, .volatile⟩,
  ⟨0x9040, 1, 0x02, 1, 2, 1, 1, 0, .cmd, 0, false, .volatile⟩,
  ⟨0x9040, 1, 0x03, 1, 13, 8, 1, 256, .ro, 0, false, .volatile⟩,
  ⟨0x9040, 1, 0x04, 1, 13, 8, 5, 256, .ro, 0, true, .volatile⟩,
  ⟨0x9050, 1, 0x00, 1, 2, 1, 1, 0, .ro, 4, false, .fused⟩,
  ⟨0x9050, 1, 0x01, 1, 5, 8, 1, 0, .cmd, 0, false, .volatile⟩,
  ⟨0x9050, 1, 0x02, 1, 2, 1, 1, 0, .cmd, 0, false, .volatile⟩,
  ⟨0x9050, 1, 0x03, 1, 13, 8, 1, 16, .ro, 0, false, .volatile⟩,
  ⟨0x9050, 1, 0x04, 1, 13, 8, 4, 16, .ro, 0, true, .volatile⟩,
  ⟨0x9060, 4, 0x00, 1, 2, 1, 1, 0, .ro, 8, false, .fused⟩,
  ⟨0x9060, 4, 0x01, 1, 5, 8, 1, 0, .cmd, 0, false, .volatile⟩,
  ⟨0x9060, 4, 0x02, 1, 5, 8, 1, 0, .ro, 0, false, .volatile⟩,
  ⟨0x9060, 4, 0x03, 1, 5, 8, 1, 0, .ro, 0, false, .volatile⟩,
  ⟨0x9060, 4, 0x04, 1, 1, 1, 1, 0, .rwl, 0, false, .volatile⟩,
  ⟨0x9060, 4, 0x05, 1, 5, 8, 1, 0, .cmd, 0, false, .volatile⟩,
  ⟨0x9060, 4, 0x06, 1, 13, 64, 1, 16, .ro, 0, false, .volatile⟩,
  ⟨0x9060, 4, 0x07, 1, 5, 8, 1, 0, .ro, 0, true, .volatile⟩,
  ⟨0x9060, 4, 0x08, 1, 5, 8, 1, 0, .ro, 0, true, .volatile⟩,
  ⟨0xA000, 1, 0x00, 1, 2, 1, 1, 0, .ro, 7, false, .fused⟩,
  ⟨0xA000, 1, 0x01, 1, 2, 1, 1, 0, .rw, 0, false, .volatile⟩,
  ⟨0xA000, 1, 0x02, 1, 3, 2, 1, 0, .rw, 0, false, .volatile⟩,
  ⟨0xA000, 1, 0x03, 1, 5, 8, 1, 0, .ro, 0, false, .volatile⟩,
  ⟨0xA000, 1, 0x04, 1, 12, 64, 1, 0, .ro, 0, false, .volatile⟩,
  ⟨0xA000, 1, 0x05, 1, 12, 65536, 1, 0, .ro, 0, false, .volatile⟩,
  ⟨0xA000, 1, 0x06, 1, 3, 2, 1, 0, .rw, 0, false, .volatile⟩,
  ⟨0xA000, 1, 0x07, 1, 12, 256, 1, 0, .ro, 0, false, .volatile⟩,
  ⟨0xA010, 1, 0x00, 1, 2, 1, 1, 0, .ro, 4, false, .fused⟩,
  ⟨0xA010, 1, 0x01, 1, 2, 1, 1, 0, .rw, 0, false, .volatile⟩,
  ⟨0xA010, 1, 0x02, 1, 13, 4, 1, 256, .ro, 0, false, .volatile⟩,
  ⟨0xA010, 1, 0x03, 1, 12, 12, 1, 0, .cmd, 0, false, .volatile⟩,
  ⟨0xA010, 1, 0x04, 1, 13, 64, 1, 256, .ro, 0, false, .volatile⟩,
  ⟨0xA020, 4, 0x00, 1, 2, 1, 1, 0, .ro, 3, false, .fused⟩,
  ⟨0xA020, 4, 0x01, 1, 12, 64, 1, 0, .cmd, 0, false, .volatile⟩,
  ⟨0xA020, 4, 0x02, 1, 1, 1, 1, 0, .cmd, 0, false, .volatile⟩,
  ⟨0xA020, 4, 0x03, 1, 9, 1, 1, 0, .ro, 0, false, .volatile⟩]

/-- Every entry row of the dictionary, in ascending order. -/
def entryRows : List Entry := entryRows1 ++ entryRows2 ++ entryRows3 ++ entryRows4 ++ entryRows5 ++ entryRows6 ++ entryRows7 ++ entryRows8

/-- The entry row that holds index.sub, if the entry is known (R468). -/
def entryOf (index sub : Nat) : Option Entry :=
  entryRows.find? fun e => decide (e.index ≤ index) && decide (index < e.index + e.reps) &&
    decide (e.sub ≤ sub) && decide (sub < e.sub + e.subs)

/-- The Default of an entry's cell (R20): the non-zero ones, taken from the tables above; OP_TABLE by row (R400,
R423). Quotas default to their value for JS0 alone (R201); domains 68, 70 and 71 are held on (R40). -/
def dictDefault (index sub row : Nat) : Nat :=
  match index, sub with
  | 0x2200, 0x45 => 3
  | 0x2200, 0x47 => 3
  | 0x2200, 0x48 => 3
  | 0x2200, _ => 1
  | 0x4000, 0x04 => 0xBE00000000
  | 0x4000, 0x05 => 0x200000000
  | 0x4000, 0x06 => 0x15180
  | 0x3000, 0x08 => 0xC350
  | 0x3000, 0x09 => 0x1
  | 0x3000, 0x0A => 0x1
  | 0x3200, 0x01 => 0x1
  | 0x3200, 0x04 => 0x3E8
  | 0x3200, 0x05 => 0x4E20
  | 0x3400, 0x05 => 0x64
  | 0x3400, 0x06 => 0xBB8
  | 0x3400, 0x07 => 0x7D0
  | 0x3400, 0x08 => 0x2EE0
  | 0x3400, 0x09 => 0x1
  | 0x3400, 0x0A => 0x3
  | 0x2000, 0x01 => 0xFA0
  | 0x2000, 0x03 => 0x4C4
  | 0x2000, 0x04 => 0x508
  | 0x2000, 0x05 => 0x25C
  | 0x2000, 0x0B => 0x4
  | 0x2000, 0x0C => 0x10
  | 0x2100, 0x05 => 0x42BE0000
  | 0x2100, 0x06 => 0x42D20000
  | 0x2100, 0x07 => 0x42E60000
  | 0x5000, 0x02 => 0x1
  | 0x5000, 0x03 => 0x7
  | 0x5001, 0x01 => 0xFFFFFFFFFFFFFFFFFFFFFFFFFFFFFFFFFFFFFFFFFFFFFFFFFFFFFFFFFFFFFFFF
  | 0x9000, _ => 1
  | 0x6000, 0x02 => 0x1
  | 0x6000, 0x03 => 0x1
  | 0x1000, 0x01 => 0x746573726F4A
  | 0x1000, 0x02 => 0x342D584B206166657A7255
  | 0x1000, 0x03 => 0x616D656863654B
  | 0x1000, 0x04 => 0x3836372D344B554A
  | 0x1000, 0x05 => 0xB0
  | 0x1000, 0x07 => 0x2
  | 0x1000, 0x09 => 0x1
  | 0x1100, 0x08 => 0x258
  | 0x4010, 0x01 => 0x60000000
  | 0x4010, 0x02 => 0x80000000
  | 0x4010, 0x03 => 0xBD00000000
  | 0x4010, 0x04 => 0x100000000
  | 0x5000, 0x04 => [600, 720, 840, 950, 1050, 1100, 1150, 1200].getD row 0
  | _, _ =>
    if 0x5110 ≤ index ∧ index < 0x5114 ∧ sub = 0x02 then 0x33D6BF95 else
    if 0x5110 ≤ index ∧ index < 0x5114 ∧ sub = 0x03 then 0x3DCCCCCD else
    if 0x5110 ≤ index ∧ index < 0x5114 ∧ sub = 0x04 then 0x3E000000 else
    if 0x5110 ≤ index ∧ index < 0x5114 ∧ sub = 0x05 then 0x8 else
    if 0x5110 ≤ index ∧ index < 0x5114 ∧ sub = 0x06 then 0xFFFF else
    if 0x4100 ≤ index ∧ index < 0x4120 ∧ sub = 0x01 then 0x2 else
    if 0x3100 ≤ index ∧ index < 0x3120 ∧ sub = 0x01 then 0x1 else
    if 0x3100 ≤ index ∧ index < 0x3120 ∧ sub = 0x0E then 0x7D0 else
    if 0x3100 ≤ index ∧ index < 0x3120 ∧ sub = 0x0F then 0x3 else
    if 0x3100 ≤ index ∧ index < 0x3120 ∧ sub = 0x10 then 0x2710 else
    if 0x9030 ≤ index ∧ index < 0x9034 ∧ sub = 0x05 then 0x3E8 else
    0

end Sys2Proof.Machine
end

