-- ==== Sys2Proof/Machine/State.lean ====
section
/-! DEFINITION. The state of the Kechema module as plain data: every register, table, queue, buffer, counter and pin
of the spec, the queue of waiting commands, and State.reset. The dictionary's scalar values and counters live in one
sparse store (`dict`), keyed by index, subindex and row; what another chapter gives a shape of its own has a field
of its own. -/
namespace Sys2Proof.Machine

/-- Why the block stops. No meaning of this model stops: nothing raises this (safe). -/
inductive Fault where
  /-- raised by nobody; the type must not be empty for the host's checks to print it (safe) -/
  | none
  deriving DecidableEq, Repr

/-- Why a command has no meaning. -/
inductive Refusal where
  /-- answered by an arm of `exec` whose command has no meaning yet (safe) -/
  | notModelled (mnemonic : String)
  deriving DecidableEq, Repr

/-! ### Tiles and cores -/

/-- `TTE.STATE` (R53). -/
inductive TileState where
  | free | filling | present | draining
  deriving DecidableEq, Repr

/-- A tile table entry (R53). -/
structure TileEntry where
  state : TileState := .free
  bound : Bool := false
  readers : Nat := 0
  base : BitVec 15 := 0
  capacity : BitVec 8 := 0
  releases : BitVec 3 := 0
  released : BitVec 3 := 0
  deriving DecidableEq, Repr

/-- A tile: its 64-byte header (R41) and its payload bytes. -/
structure Tile where
  header : BitVec 512
  payload : List Byte
  deriving DecidableEq, Repr

/-- An entry of a station queue: one instruction of one or two words (R61, R63). -/
structure StationInsn where
  w0 : QWord
  w1 : Option QWord
  deriving DecidableEq, Repr

/-- An entry of the summary queue (R123). -/
structure Summary where
  value : Word
  tag : Byte
  kind : BitVec 4
  poison : Bool
  deriving DecidableEq, Repr

/-- The state of an accumulator bank (R94). -/
inductive BankState where
  | free | opened | closed
  deriving DecidableEq, Repr

/-- The mode of an accumulator bank (R94); MAXMIN with its direction. -/
inductive BankMode where
  | f32x32 | f32x64 | f16x32 | i32x32 | max32 | min32
  deriving DecidableEq, Repr

/-- An accumulator bank: state, mode, poison mark (R97) and entries keyed by 512 × DPU + entry (R80, R89); FP16
entries stand in the low 16 bits. Entries equal to the mode's cleared value are not listed. -/
structure AccBank where
  state : BankState := .free
  mode : BankMode := .f32x32
  poison : Bool := false
  entries : List (Nat × Word) := []
  deriving DecidableEq, Repr

/-- The last stationary load (R93): opcode, handle, whether the tile has passed through FREE since. -/
structure LastLoad where
  opcode : Nat
  handle : Nat
  passedFree : Bool
  deriving DecidableEq, Repr

/-- An output of an instruction in flight: the handle and the tile it receives at completion (R62). -/
structure OutTile where
  handle : Nat
  tile : Tile
  deriving DecidableEq, Repr

/-- An instruction in flight (R59, R62): its word, whether it completes WITHDRAWN, what its completion writes, and a
token that its HBM requests (R209) and codec blocks (R370) carry; the stationary banks a MAT pass holds (R92) and
whether it loads one; `send` holds what a SEND offers (exact stream or image). -/
structure InFlight where
  token : Nat
  insn : StationInsn
  withdrawn : Bool := false
  outs : List OutTile := []
  readers : List Nat := []
  posts : List Summary := []
  bankWrites : List (Nat × Word) := []
  holdsBanks : Nat := 0
  loads : Bool := false
  send : Option (Bool × List Byte) := none
  deriving DecidableEq, Repr

/-- The control core (R127): whether it runs a step's stream, its program counter, registers, the loaded stream with
the address and CRC it was loaded under (R76). -/
structure Ctl where
  running : Bool := false
  pc : Nat := 0
  regs : List (Nat × DWord) := []
  stream : List QWord := []
  loaded : Option (Nat × Nat) := none
  deriving DecidableEq, Repr

/-- One core. Queues and in-flight lists are keyed by station code (R59); handed-over watches await their comparison
in order (R153). `badAtoms` are the poisoned 64-byte atoms of the scratchpad (R218). `issued` and `drained` are the running cycle of R57: stations that have issued in it, and handles that
these issues have moved to DRAINING (log entry 51). -/
structure Core where
  ttes : List (Nat × TileEntry) := []
  spad : List (Nat × Byte) := []
  queues : List (Nat × List StationInsn) := []
  flights : List (Nat × List InFlight) := []
  stationary : List (Nat × Tile) := []
  nextBank : Nat := 0
  lastLoad : Option LastLoad := none
  accA : AccBank := {}
  accB : AccBank := {}
  summaries : List Summary := []
  sems : List (Nat × Word) := []
  ctl : Ctl := {}
  vecSeq : Nat := 0
  watches : List (BitVec 256) := []
  hung : Bool := false
  badAtoms : List Nat := []
  issued : List Nat := []
  drained : List Nat := []
  deriving DecidableEq, Repr

/-- An increment on its way to a semaphore (R232). -/
structure Increment where
  src : SigSource
  dst : Nat
  sem : Nat
  amount : Nat
  deriving DecidableEq, Repr

/-! ### Job streams -/

/-- What the module keeps of a job stream's step beside its dictionary entries: the cores of the directory (R76,
R78), the program ID (R75), n and the seed of the step (R147, R396), the layout epoch, and the marks of R394 to
R396, R429; records written to STEP_LOG and records that wait for their manifest hash (R395). -/
structure StepInfo where
  cores : List Nat := []
  programId : Nat := 0
  number : Nat := 0
  seed : Nat := 0
  epoch : Nat := 0
  moduleId : Nat := 0
  deterministic : Bool := false
  timingDependent : Bool := false
  replay : Bool := false
  manualWithdraw : Bool := false
  manifest : Option (Nat × Nat) := none
  records : Nat := 0
  waitingRecords : List (BitVec 512 × Option (Nat × Nat)) := []
  roundsUsed : List (Nat × Nat) := []
  starved : List Nat := []
  deriving DecidableEq, Repr

/-! ### Memory side -/

/-- `REG.STATE` of a region that exists (R196). -/
inductive RegionState where
  | active | scrubbing
  deriving DecidableEq, Repr

/-- A region of the region table (R196). -/
structure Region where
  number : Nat
  base : Nat
  size : Nat
  tier : Nat
  js : Nat
  read : Bool
  write : Bool
  land : Bool
  host : Bool
  prefetch : Bool
  state : RegionState
  deriving DecidableEq, Repr

/-- A request of HBM or of a pool (R209): who, and which of the requesters of that name; the instruction's token, address,
length, whether it is a write, and what it writes; whether it takes a slot (another crown's pool, or HBM); whether R210 has
held it. -/
structure HbmReq where
  who : HbmRequester
  unit : Nat := 0
  token : Nat
  addr : Nat
  bytes : Nat
  write : Bool
  slot : Bool := true
  data : List Byte := []
  capped : Bool := false
  deriving DecidableEq, Repr

/-- One entry of a prefetch schedule (R204). -/
structure PfEntry where
  srcBase : Nat
  extBase : Nat
  extLimit : Nat
  dstBase : Nat
  srcStride : Nat
  granules : Nat
  slots : Nat
  count : Nat
  landCore : Nat
  landSem : Nat
  creditCore : Nat
  creditSem : Nat
  deriving DecidableEq, Repr

/-- A chunk of a walk in flight: its entry, number and token, its source, what was read there, and its atoms that are
poisoned (R206, R219). -/
structure PfChunk where
  entry : Nat
  n : Nat
  token : Nat
  addr : Nat
  data : List Byte
  bad : List Nat
  deriving DecidableEq, Repr

/-- A running or ending walk of a cluster's prefetch engine for one job stream (R205 to R207): current entry and
chunk, whether the chunk's credit is taken, chunks in flight, and landed slots not read yet, with the noc count of
their landing. -/
structure PfWalk where
  cluster : Nat
  js : Nat
  scheduleId : Nat
  entries : List PfEntry
  entry : Nat := 0
  chunk : Nat := 0
  credited : Bool := false
  stopped : Bool := false
  inFlight : List PfChunk := []
  unread : List (Nat × Nat × DWord) := []
  deriving DecidableEq, Repr

/-- A block at the codec (R370): its side, its client (0 to 31 the ports, 32 the memory client), what it belongs to
(an instruction's token, or a landing: source module, job stream, identifier, tile), and the lane that holds it. -/
structure CodecJob where
  encoder : Bool
  client : Nat
  token : Nat := 0
  landing : Option (Nat × Nat × Nat × Nat) := none
  lane : Option Nat := none
  deriving DecidableEq, Repr

/-! ### Transfers and schedules -/

/-- A transfer entry of a schedule with its hops as (module, port) (R290). -/
structure Transfer where
  id : Nat
  src : Nat
  dst : Nat
  srcJs : Nat
  dstJs : Nat
  vc : Nat
  exact : Bool
  commit : Bool
  tiles : Nat
  budget : Nat
  base : Nat
  stride : Nat
  hops : List (Nat × Nat)
  deriving DecidableEq, Repr

/-- A reservation entry of a schedule (R290). -/
structure Reservation where
  module : Nat
  port : Nat
  vc : Nat
  units : Nat
  deriving DecidableEq, Repr

/-- A schedule held in a row of SCHEDULE_TABLE (R292, R310): state 1 LOADING, 2 WAITING, 3 ACTIVE, 4 BROKEN; its image's
address; terms received as a source with their senders; sources that sent FIT; whether FIT or NOFIT has gone out; the
round trip of each own port at admission; the admission time of transfers sourced here in 4 ns units. -/
structure Schedule where
  row : Nat
  state : Nat
  addr : Nat
  id : Nat := 0
  routeEpoch : Nat := 0
  transfers : List Transfer := []
  res : List Reservation := []
  terms : List (Nat × AdmitRecord) := []
  fits : List Nat := []
  answered : Bool := false
  portRtts : List (Nat × Nat) := []
  admitted : List (Nat × Nat) := []
  deriving DecidableEq, Repr

/-- An identifier at its issuer (R240): generation, phase 0 IDLE, 1 ACTIVE, 2 QUARANTINE; T0 (R297), tiles whose SEND has
completed, whether a tile was offered late (R302), the latest expiry E, the retirement R and the interval Q (R241). -/
structure IdState where
  gen : Nat := 0
  phase : Nat := 0
  t0 : Option Nat := none
  offered : List Nat := []
  late : Bool := false
  expiry : Nat := 0
  retired : Nat := 0
  interval : Nat := 0
  deriving DecidableEq, Repr

/-- Bytes of a tile received so far, with the port they came on: pieces by offset, the total when the last packet has come, whether they form an
exact stream, the band count at which the tightest packet's budget ends (R298), the blocks given to the codec,
and the lane that has decoded the last one done (R370, R442). -/
structure TilePart where
  tile : Nat
  port : Nat
  exact : Bool
  pieces : List (Nat × List Byte)
  total : Option Nat
  expiry : Option Nat
  given : Nat := 0
  lane : Option Nat := none
  deriving DecidableEq, Repr

/-- A use at its destination (R241, R301): the last generation accepted; phase 0 open, 1 complete, 2 ended without
delivery; whether its source is lost (R282); tiles landed and verified; tiles under way; the local deadline L; a
verified commit tile that waits for its mirror, with its port (R216); of a check transfer, the step whose RECVs have
compared it (R323); of a mirror, whether its commit tile is installed (R216). -/
structure Landing where
  src : Nat
  js : Nat
  id : Nat
  gen : Nat
  phase : Nat := 0
  lost : Bool := false
  landed : List Nat := []
  parts : List TilePart := []
  deadline : Option Nat := none
  commit : Option (Nat × Tile) := none
  round : Option Nat := none
  committed : Bool := false
  deriving DecidableEq, Repr

/-- A sync message (R233). -/
structure Sync where
  kind : Nat
  srcJs : Nat
  dstJs : Nat
  srcCore : Nat
  dstCore : Nat
  sem : Nat
  n : Nat
  epoch : Nat
  firstId : Nat
  gen : Nat
  count : Nat
  lastTiles : Nat
  deriving DecidableEq, Repr

/-- A held signal (R234, R235): its source module, and the job stream of its target core; of covered uses whose identifier has
moved to a later generation meanwhile, those whose covered tiles had landed, and whether one had ended undelivered (R236). -/
structure Held where
  src : Nat
  js : Nat
  msg : Sync
  landed : List Nat := []
  ended : Bool := false
  deriving DecidableEq, Repr

/-- A packet of an exact tile whose bytes wait for decoder lanes and hold their credits (R268, R370): the use and tile, the
receive buffer that holds it, its units, and the end of its bytes in the tile's stream. -/
structure LaneHold where
  src : Nat
  js : Nat
  id : Nat
  gen : Nat
  tile : Nat
  port : Nat
  vc : Nat
  units : Nat
  stop : Nat
  deriving DecidableEq, Repr

/-- A use in flight through the module (R387), with the end of the packet budget most recently seen. -/
structure SeenUse where
  src : Nat
  js : Nat
  id : Nat
  gen : Nat
  expiry : Nat
  deriving DecidableEq, Repr

/-! ### Ports and links -/

/-- A sequenced bolt sent and not acknowledged (R265, R266): its transmit count, its 512 bytes, how often it was sent. -/
structure TxBolt where
  count : Nat
  bytes : List Byte
  sends : Nat
  deriving DecidableEq, Repr

/-- Bytes of one bolt's body, with the band count at which the gap or error that covered the bolt was detected (R298). -/
structure Seg where
  gap : Option Nat
  bytes : List Byte
  deriving DecidableEq, Repr

/-- Bolts received without a gap between them (R253, R266, R267): counts `first` to `next` - 1; whether a packet boundary
has been seen; bytes ahead of the first boundary; bytes of the packet not complete yet; whether either packet has bytes
in a bolt that GAP closed. -/
structure RxRun where
  first : Nat
  next : Nat
  synced : Bool
  head : List Seg := []
  headLost : Bool := false
  tail : List Seg := []
  tailLost : Bool := false
  deriving DecidableEq, Repr

/-- The queue of a port in which a packet waits (R306): VC0, VC1, DELIVERY and WITHDRAW, a reservation (schedule row,
index), or the best-effort queue of a channel. -/
inductive QueueName where
  | vc0 | vc1 | report
  | reservation (row index : Nat)
  | bestEffort (vc : Nat)
  deriving DecidableEq, Repr

/-- A packet queued for output: its queue, when it became the head of it, where it came from (port and channel whose
buffer it holds, R268) and when it arrived (R298). -/
structure Queued where
  pkt : Pkt
  queue : QueueName
  headAt : Option Nat
  origin : Option (Nat × Nat)
  since : Nat
  deriving DecidableEq, Repr

/-- A key-agreement message on its way in through KEY blocks (R458): `KEY.MSG`, `KEY.PHASE`, the fragment due next, its bytes. -/
structure KeyPart where
  msg : Nat
  phase : Nat
  next : Nat
  bytes : List Byte
  deriving DecidableEq, Repr

/-- The key agreement and keys of a port's session (R459 to R461): own HS1 and the ephemeral decapsulation key behind it,
the peer's HS1, own HS2 with the secrets of its encapsulations, the peer's secrets, T, the newest secret S_k with its
k, key material by phase, the phases of the two directions, whether the previous receive phase is still accepted, bolts
sent in the phase, and the re-key exchange under way; KEY blocks of bolts that follow a gap, with the counts of these, the
message being assembled, and messages complete and not yet dealt with (R266, R458). -/
structure Keys where
  hs1 : List Byte := []
  ephKey : List Byte := []
  peerHs1 : List Byte := []
  hs2 : List Byte := []
  ownSecrets : List Byte := []
  transcript : List Byte := []
  confirmSent : Bool := false
  established : Bool := false
  secret : List Byte := []
  secretPhase : Nat := 0
  material : List (Nat × List Byte) := []
  txPhase : Nat := 0
  rxPhase : Nat := 0
  rxPrevious : Bool := false
  phaseBolts : Nat := 0
  rkKey : Option (List Byte) := none
  rkOwn : List Byte := []
  rkPeer : List Byte := []
  due : Bool := false
  behind : List (Nat × List Nat) := []
  part : Option KeyPart := none
  ready : List KeyPart := []
  deriving DecidableEq, Repr

/-- A port's link state beside its dictionary entries: the bring-up step in progress (R261; 0 none; 100 and more: failed,
its bound will be missed), failures in a row, bolts received in a row with none in error, the peer's HELLO, probe results in band cycles; the next probe; sequenced
bolts sent and not acknowledged; the next bolt expected in order, the runs received, whether bolts are discarded after a
NAK, with the end of what was discarded and the moment of its detection; missing bolts with the moment of detection; the
moments of NAKs sent; tag failures of the running 1 ms; control blocks and the packet stream that wait to be sent, with
its packet boundaries; packets queued for output; token buckets (tokens × 512, moment) and deficits of the arbiter
(R306, R307); units by channel sent, credited back and freed (R268); naps sent and received; naps left to send while
CLOSING, plus 1; what the peer's naps announced; keys. -/
structure Link where
  step : Nat := 1
  failures : Nat := 0
  goodBolts : Nat := 0
  hello : Option Hello := none
  results : List Nat := []
  probeId : Nat := 0
  txCount : Nat := 0
  unacked : List TxBolt := []
  rxNext : Nat := 0
  runs : List RxRun := []
  naking : Bool := false
  nakSince : Option (Nat × Nat) := none
  gaps : List (Nat × Nat) := []
  naks : List Nat := []
  tagFails : Nat := 0
  blocks : List Nat := []
  stream : List Byte := []
  heads : List Nat := []
  queue : List Queued := []
  buckets : List (Nat × Nat × Nat) := []
  deficits : List (Nat × Nat) := []
  turn : Nat := 0
  sentUnits : List (Nat × Nat) := []
  credited : List (Nat × Nat) := []
  freed : List (Nat × Nat) := []
  napTx : Nat := 0
  napRx : Option Nat := none
  closingNaps : Nat := 0
  peerDraining : Bool := false
  peerClosing : Bool := false
  keys : Keys := {}
  deriving DecidableEq, Repr

/-- A packet that has reached this module: its port (none: its own), the gap charge in band cycles, and when (R298). -/
structure Arrived where
  port : Option Nat
  pkt : Pkt
  gap : Nat
  since : Nat
  deriving DecidableEq, Repr

/-! ### Collectives and rings -/

/-- A registered collective (R313): its number, the descriptor's address and fields, and its member table. -/
structure Coll where
  number : Nat
  addr : Nat
  js : Nat
  epoch : Nat
  stepOffset : Nat
  idBase : Nat
  rank : Nat
  root : Nat
  chunks : Nat
  vc : Nat
  kind : Nat
  format : Nat
  checkLog : Nat
  rows : Nat
  cols : Nat
  members : List Nat
  deriving DecidableEq, Repr

/-- A registered ring (R338): its number, the descriptor's address and fields, its member table, and the tile counts T
and G of R339. -/
structure Ring where
  number : Nat
  addr : Nat
  js : Nat
  landBase : Nat
  bufferBytes : Nat
  epoch : Nat
  compute : Nat
  bwdCompute : Nat
  offer : Nat
  skew : Nat
  idBase : Nat
  rank : Nat
  context : Nat
  causal : Bool
  buffers : Nat
  shardPages : Nat
  members : List Nat
  chunkTiles : Nat
  gradTiles : Nat
  deriving DecidableEq, Repr

/-- A mapping (R374): the descriptor's address and 64 bytes, and its member table in index order. -/
structure Mapping where
  addr : Nat := 0
  desc : BitVec 512 := 0
  members : List Nat := []
  deriving DecidableEq, Repr

/-! ### The dictionary -/

/-- Bytes of a value staged by a requester (R482). -/
structure Staged where
  who : Nat
  index : Nat
  sub : Nat
  bytes : List Byte
  deriving DecidableEq, Repr

/-- A subscription (R485, R486): its number, requester, target, kind (0 DELTA, 1 LEVEL), minimum interval in ms, threshold,
reference, sequence number of the next NOTIFY, and the windows since the last one (none: none sent yet). -/
structure Subscription where
  number : Nat
  who : Requester
  index : Nat
  sub : Nat
  row : Nat
  kind : Nat
  interval : Nat
  threshold : Nat
  reference : Nat
  sequence : Nat := 0
  elapsed : Option Nat := none
  deriving DecidableEq, Repr

/-! ### The host interface -/

/-- A host command taken from a submission queue (R500 to R502): its 64 bytes, the token of its requests, and, once it has
ended and waits for its CQ entry, status and detail. -/
structure HostCommand where
  entry : BitVec 512
  token : Nat := 0
  done : Option (Nat × Nat) := none
  deriving DecidableEq, Repr

/-- A host queue pair (R497 to R499): registers, doorbells, the phase of the CQ, entries made available and not fetched,
and commands fetched that have no CQ entry yet, oldest first. -/
structure HostQueue where
  sqBase : DWord := 0
  cqBase : DWord := 0
  cfg : Word := 0x00088000
  state : Nat := 0
  error : Nat := 0
  sqHead : Nat := 0
  cqTail : Nat := 0
  sqTail : Nat := 0
  cqHead : Nat := 0
  phase : Bool := true
  avail : List (BitVec 512) := []
  active : List HostCommand := []
  deriving DecidableEq, Repr

/-! ### The lining and its protocols -/

/-- A flash bank: the kinds of released images it was shipped with that are still in it (R528), and the images written
since (R449, R454, R526). -/
structure Bank where
  shipped : List Nat := [1, 2, 3, 4]
  images : List ImageBytes := []
  deriving DecidableEq, Repr

/-- An SPDM requester's connection (R456): how far the version, capability and algorithm exchange has come (0 to 3), a
large request being assembled (handle, next sequence number, bytes), the handle of the last large response, and the one
being fetched (next sequence number, bytes left). -/
structure SpdmConn where
  stage : Nat := 0
  handle : Nat := 0
  request : Option (Nat × Nat × List Byte) := none
  response : Option (Nat × List Byte) := none
  deriving DecidableEq, Repr

/-- An SPDM response that waits for its signature or is being signed (R457): who asked, the response code, what is signed, and
what acknowledges the last chunk of a request that came in chunks. -/
structure SignJob where
  who : Requester
  code : Nat
  body : List Byte
  ack : List Byte := []
  deriving DecidableEq, Repr

/-! ### The whole module -/

/-- What the module sends at its boundary, oldest first in `State.sent` (log entry 8). -/
inductive Sent where
  /-- a dictionary response: requester, tag, status, op, index, subindex, detail or offset, MORE, data (R480) -/
  | response (who : Requester) (op : Nat) (tag : Byte) (status : Nat) (index sub detail : Nat) (more : Bool)
      (data : List Byte)
  /-- a bolt of 512 bytes sent on a port (R252) -/
  | bolt (port : Nat) (bytes : List Byte)
  /-- a schedule admission message to a module: operation, `SCH.SCHEDULE_ID`, records (R487) -/
  | admission (dst op sched : Nat) (records : List AdmitRecord)
  /-- an ADMIT_NOFIT to a module: `SCH.SCHEDULE_ID`, transfer index, reason (R487) -/
  | nofit (dst sched transfer reason : Nat)
  /-- a NOTIFY of a subscription with its data (R486) -/
  | notify (who : Requester) (index sub : Nat) (data : List Byte)
  /-- an MCTP control response on a transport: command and data (R479) -/
  | mctp (tr : Transport) (command : Nat) (data : List Byte)
  /-- an SPDM response: its code and what follows the code (R456) -/
  | spdm (who : Requester) (code : Nat) (body : List Byte)
  /-- an MSI-X message of a vector, from its table entry (R495, R504) -/
  | msix (vector addr data : Nat)
  /-- a CQ entry of a queue written to host memory (R502) -/
  | completion (queue addr : Nat) (entry : BitVec 128)
  /-- bytes that COPY_OUT writes to host memory (R501) -/
  | hostWrite (addr : Nat) (data : List Byte)
  /-- what a host read of BAR0 or BAR2 returns (R495, R506) -/
  | readData (data : List Byte)
  /-- the provisional ID that the I3C port shows in ENTDAA (R516) -/
  | i3cId (id : BitVec 48)
  /-- the WITHDRAWN bolt that a port repeats for 1 ms of a doff (R257, R432) -/
  | withdrawnBolts (port : Nat) (bytes : List Byte)
  /-- the IDLE bolt that fills a port's lanes from here on, until something else is ready or the lanes stop (R253, R283,
  R432) -/
  | idleBolts (port : Nat) (bytes : List Byte)
  deriving DecidableEq, Repr

/-- The state of the module. -/
structure State where
  /-- the commands that wait, first in, first out -/
  pending : List Instr := []
  /-- the model's own: the index of the next free value (log entry 2) -/
  tick : Nat := 0
  /-- the model's own: what has left the module (log entry 8) -/
  sent : List Sent := []
  /-- cycle counters of the domain instances (R32): core 0-3, noc 4-7, hbm 8-23, band 24, pcie 25, mgmt 26 -/
  cycles : List (Nat × DWord) := []
  /-- dictionary values and counters by index, subindex and row, where they differ from their Default (R18 to R20) -/
  dict : List (Nat × Nat) := []
  /-- HBM and pool bytes by module address (R190) -/
  mem : List Host.Cell := []
  /-- poisoned 64-byte atoms by address div 64 (R219) -/
  poison : List (Nat × Bool) := []
  /-- cores by module-wide index (R2) -/
  cores : List (Nat × Core) := []
  /-- increments on their way (R232) -/
  increments : List Increment := []
  /-- steps by job stream -/
  steps : List (Nat × StepInfo) := []
  /-- FAULT_LOG, oldest first (R443) -/
  faultLog : List (BitVec 512) := []
  /-- `FREC.SEQUENCE` of the next record (R441) -/
  frecSeq : Word := 0
  /-- note codes recorded in the running 1 ms window (R443) -/
  notedNow : List Nat := []
  /-- the region table in order of number (R196, R202) -/
  regions : List Region := []
  /-- outstanding requests at the memories, oldest first (R209) -/
  hbm : List HbmReq := []
  /-- requests that wait in their requester without a slot (R209, R210) -/
  hbmWaiting : List HbmReq := []
  /-- the token of the next instruction or chunk in flight -/
  nextToken : Nat := 1
  /-- prefetch walks (R205) -/
  walks : List PfWalk := []
  /-- atoms that the running passes of the patrol have read, by address div 64 (R220) -/
  patrolled : List Nat := []
  /-- blocks at the codec, waiting or in a lane, oldest first (R370) -/
  codec : List CodecJob := []
  /-- packets whose bytes wait for decoder lanes, oldest first (R370) -/
  laneHolds : List LaneHold := []
  /-- the last client served by the decoder and the encoder lanes (R370) -/
  codecLast : Nat × Nat := (32, 32)
  /-- phase of a cluster (8c + k): 16 × phase code + intensity class (R408) -/
  phases : List (Nat × Nat) := []
  /-- crowns that met a phase boundary since the last window boundary (R411) -/
  phaseMet : List Nat := []
  /-- schedules in order of their rows (R292) -/
  schedules : List Schedule := []
  /-- identifiers of this module by 2^20 × job stream + identifier (R240) -/
  ids : List (Nat × IdState) := []
  /-- uses landing here (R301) -/
  landings : List Landing := []
  /-- signals held, oldest first (R234) -/
  held : List Held := []
  /-- signals that wait ahead of a full hold table (R237), with the port they arrived on -/
  heldWaiting : List (Nat × Held) := []
  /-- uses in flight through the module (R387) -/
  seenUses : List SeenUse := []
  /-- packets of this module that wait to enter the switch, oldest first (R276) -/
  toSwitch : List Pkt := []
  /-- next `PKT.SEQ` of a flow by its key (R272) -/
  flowsTx : List (Nat × Nat) := []
  /-- link state by port -/
  links : List (Nat × Link) := []
  /-- packets that wait to enter the switch from a port -/
  arrived : List Arrived := []
  /-- packets for this module that wait to be handed on (R271, R276) -/
  handed : List Arrived := []
  /-- the highest `PKT.SEQ` accepted by flow, least recent first (R272) -/
  flowsRx : List (Nat × Nat) := []
  /-- the active route table, entries other than 0 (R275) -/
  routes : List (Nat × Nat) := []
  /-- the staged route table (R275) -/
  staged : List (Nat × Nat) := []
  /-- registered collectives in order of number (R315) -/
  colls : List Coll := []
  /-- registered rings in order of number (R341) -/
  rings : List Ring := []
  /-- the prepared layout epoch of a job stream that is DRAINING or DRAINED (R332) -/
  prepared : List (Nat × Nat) := []
  /-- context descriptors by number, as registered (R174, R175) -/
  contexts : List (Nat × BitVec 512) := []
  /-- staged values, at most one of a requester (R482) -/
  stagedSets : List Staged := []
  /-- subscriptions in order of number (R485) -/
  subscriptions : List Subscription := []
  /-- maintenance nonces by requester identity (R476) -/
  nonces : List (Nat × BitVec 256) := []
  /-- the management controller is in doubt (R431, R434) -/
  inDoubt : Bool := false
  /-- entries that the running configuration image names: index × 256 + subindex (R450) -/
  pinned : List Nat := []
  /-- seed of the link static key in the flash store; empty: none (R463, R464) -/
  linkSeed : List Byte := []
  /-- address of the route image that is being checked (R278) -/
  routeAddr : Nat := 0
  /-- current mappings by job stream (R376) -/
  maps : List (Nat × Mapping) := []
  /-- prepared mappings by job stream (R376) -/
  mapsNext : List (Nat × Mapping) := []
  /-- job streams whose drain EPOCH_DRAIN_TIMEOUT has forced and that wait for the route condition (R333) -/
  drainForced : List Nat := []
  /-- the record of an armed or running replay by job stream (R396) -/
  replays : List (Nat × BitVec 512) := []
  /-- the cap in force, in W; CAP_W applies from the next window (R406) -/
  capNow : Nat := 4000
  /-- learned power in W at point 4 and its sample count, by (32 × job stream + cluster) × 32 + phase code (R409) -/
  learned : List (Nat × Rat × Nat) := []
  /-- input power in mW and the cap in W of the last nine windows, oldest first (R403) -/
  inputHistory : List (Nat × Nat) := []
  /-- counts at the end of the last window (R411): MAT row cycles by cluster, VEC busy cycles by 32 + cluster, HBM atoms by 64 +
  crown -/
  lastCounts : List (Nat × Nat) := []
  /-- by crown: calibrations of the estimate's coefficients so far (R412) -/
  calibrations : List (Nat × Nat) := []
  /-- the enforced power of each crown in the last window, in W (R411, R412) -/
  enforced : List (Nat × Rat) := []
  /-- by crown: consecutive windows counted for R412 -/
  modelRuns : List (Nat × Nat) := []
  /-- sensors (256 × kind + number) in a throttle episode (R418) -/
  hot : List Nat := []
  /-- sensors that have reached the junction limit and not fallen below 103 °C since (R418) -/
  overheated : List Nat := []
  /-- operating points that crowns change to (R400) -/
  opTarget : List (Nat × Nat) := []
  /-- crowns whose core clock is stretched (R417) -/
  stretched : List Nat := []
  /-- THERMTRIP_N is asserted (R420, R515) -/
  thermTrip : Bool := false
  /-- the step of R432 that a doff has reached: 0 no doff, 3 WITHDRAWN bolts, 4 IDLE bolts, 5 done -/
  doffStep : Nat := 0
  /-- a doff has begun in the running 1 ms window (R420) -/
  doffNow : Bool := false
  /-- what LIFECYCLE_STATE shows until step 5 of R432 -/
  lifeShown : Nat := 0
  /-- the 48 V input meets its turn-on condition (R517) -/
  inputOn : Bool := true
  /-- MRST_N is held low (R525) -/
  mrstLow : Bool := false
  /-- PERST_N is held low (R508) -/
  perstLow : Bool := false
  /-- optical quads that were OFF when MRST_N was asserted; they stay dark until it is released (R525) -/
  darkQuads : List Nat := []
  /-- FL_OWN_N is held low (R526) -/
  flOwnLow : Bool := false
  /-- what power-up finds outside the module: the SLOT_ID strap, the self-tests, the store's tag (R448, R453, R513) -/
  straps : PowerUpInputs := { slotId := 63 }
  /-- power-up waits at the end of its step 2 for FL_OWN_N to rise (R526) -/
  flHold : Bool := false
  /-- failures of step 2 of power-up in a row (R523) -/
  railFailures : Nat := 0
  /-- a RESET has been acknowledged and runs 10 ms later (R525) -/
  resetDue : Bool := false
  /-- flash bank A (R449) -/
  bankA : Bank := {}
  /-- flash bank B (R449) -/
  bankB : Bank := {}
  /-- the 32-byte store salt in flash, under which the flash store is sealed; empty: erased (R453, R463, R465) -/
  storeSalt : List Byte := List.replicate 32 0
  /-- blocks that the running instantiation of the DRBG has given; none: its state is destroyed (R448, R463) -/
  drbg : Option Nat := some 0
  /-- instantiations of the DRBG before the running one (R448) -/
  drbgSeeds : Nat := 0
  /-- RETIRE has been executed (R465) -/
  retired : Bool := false
  /-- measurement register 7: the route images that reached VALID (R455) -/
  routeMeasure : Nat := 0
  /-- the Flash entries of the store as opened at boot, by place in `dict` (R453, R455) -/
  storeOpened : List (Nat × Nat) := []
  /-- the address of the image being staged (R454) -/
  stageAddr : Nat := 0
  /-- SPDM connections by requester identity (R456) -/
  spdm : List (Nat × SpdmConn) := []
  /-- SPDM responses at the signer, the first being signed (R457) -/
  signing : List SignJob := []
  /-- endpoint IDs by transport code, as set since reset (R479) -/
  eids : List (Nat × Nat) := []
  /-- the dynamic address of the I3C port (R516) -/
  i3cAddr : Option Nat := none
  /-- host queue pairs (R497) -/
  queues : List (Nat × HostQueue) := []
  /-- window table entries (R505) -/
  windows : List (Nat × DWord) := []
  /-- MSI-X table entries that differ from their reset value (R494) -/
  msixTable : List (Nat × Nat) := []
  /-- pending bit array (R494) -/
  msixPending : List Nat := []
  /-- vectors whose last message is less than 2 µs old (R504) -/
  msixBusy : List Nat := []
  /-- vectors with CQ entries written since their last message (R504) -/
  msixOwed : List Nat := []
  /-- EVENT_CAUSE (R495) -/
  eventCause : Nat := 0
  /-- EVENT_MASK (R495) -/
  eventMask : Nat := 0
  /-- WINDOW_MISSES (R495) -/
  windowMisses : Nat := 0
  /-- WINDOW_REFUSALS (R495) -/
  windowRefusals : Nat := 0
  /-- log2 of the BAR2 size in force (R505) -/
  bar2Log2 : Nat := 36
  /-- Bus Master Enable (R507) -/
  busMaster : Bool := false
  /-- the function is in D3hot (R508) -/
  d3hot : Bool := false
  /-- the PCI Express link is up (R508) -/
  linkUp : Bool := false
  deriving DecidableEq, Repr

/-- The dictionary values that power-up leaves away from their Defaults: LIFECYCLE_STATE Ready, SLOT_ID with every strap
open, every port TRAINING, LINING_STATE OPERATIONAL (R451, R513, R521). -/
def resetDict : List (Nat × Nat) :=
  [(0x1000 * 2 ^ 24 + 0x07 * 2 ^ 16, 4), (0x1000 * 2 ^ 24 + 0x0A * 2 ^ 16, 63)] ++
    (List.range 32).map (fun p => ((0x3100 + p) * 2 ^ 24 + 0x03 * 2 ^ 16, 2)) ++ [(0x6000 * 2 ^ 24 + 0x01 * 2 ^ 16, 1)]

/-- The module as the power-up sequence leaves it, in Ready: every dictionary entry at its Default but for `resetDict`, memory
zero, nothing waiting (log entry 1). -/
def State.reset : State := { dict := resetDict }

end Sys2Proof.Machine
end

