-- ==== Sys2Proof/Machine/Ops.lean ====
section
/-! DEFINITION. The named operations over the state: dictionary values and counters, free values, cores, memory,
faults and withdrawal. -/
namespace Sys2Proof.Machine

/-! ### Dictionary values (R18 to R20, R439) -/

/-- A cell of a dictionary entry: index, subindex, and row × cells + cell. -/
structure Key where
  index : Nat
  sub : Nat
  row : Nat := 0
  deriving DecidableEq, Repr

/-- The place of a cell in the store. -/
def keyCode (k : Key) : Nat := k.index * 2 ^ 24 + k.sub * 2 ^ 16 + k.row

/-- The stored value of a cell, its Default where none is stored (R20). -/
def State.val (s : State) (k : Key) : Nat := mapGet (dictDefault k.index k.sub k.row) s.dict (keyCode k)

/-- The cell's value replaced. -/
def State.setVal (s : State) (k : Key) (v : Nat) : State :=
  { s with dict := mapSet (dictDefault k.index k.sub k.row) s.dict (keyCode k) v }

/-- The value of a saturated counter as it reads (R439). -/
def satValue : Nat := 0xFFFFFFFFFFFFFFFF

/-- A counter after an increment of `n`: it saturates past 48 bits and stays (R439). -/
def counterAfter (v n : Nat) : Nat :=
  if v = satValue then satValue else if v + n > 0xFFFFFFFFFFFF then satValue else v + n

/-- A counter raised without the note of R439; whether it has just saturated. -/
def State.bumpRaw (s : State) (k : Key) (n : Nat) : State × Bool :=
  let v := s.val k
  let v' := counterAfter v n
  (s.setVal k v', v != satValue && v' == satValue)

/-! ### Free values and output -/

/-- The next free value of `w` bits, and the state with the index advanced (log entry 2). -/
def State.free (s : State) (w : Nat) : Nat × State :=
  ((Config.freeBits s.tick).toNat % 2 ^ w, { s with tick := s.tick + 1 })

/-- Something sent at the module's boundary (log entry 8). -/
def State.emit (s : State) (x : Sent) : State := { s with sent := s.sent ++ [x] }

/-! ### Domains, clocks and life cycle -/

/-- Power domain numbers (R34). -/
def domCluster (core : Nat) : Nat := 16 * (core / 64) + core % 64 / 8
/-- The spine of a crown. -/
def domSpine (c : Nat) : Nat := 16 * c + 14
/-- The die-to-die edge of a crown. -/
def domEdge (c : Nat) : Nat := 16 * c + 15
/-- HBM PHY pair j of a crown. -/
def domPhy (c j : Nat) : Nat := 16 * c + 8 + j
/-- The pool half of cluster k of crown c. -/
def domPool (c k : Nat) : Nat := 16 * c + 12 + k / 4
/-- The codec. -/
def domCodec : Nat := 69

/-- The state code of a power domain (R40). -/
def State.domain (s : State) (d : Nat) : Nat := s.val ⟨0x2200, d + 1, 0⟩
/-- A domain's state written. -/
def State.setDomain (s : State) (d v : Nat) : State := s.setVal ⟨0x2200, d + 1, 0⟩ v
/-- Whether a domain reads ON or HELD_ON. -/
def State.domainOn (s : State) (d : Nat) : Bool := s.domain d == 1 || s.domain d == 3
/-- Whether a domain still works: ON, HELD_ON, or DRAINING, whose work in flight completes (R37). -/
def State.domainWorks (s : State) (d : Nat) : Bool := s.domainOn d || s.domain d == 2

/-- LIFECYCLE_STATE (R473); 0 stands for Off. -/
def State.lifecycle (s : State) : Nat := s.val ⟨0x1000, 7, 0⟩

/-- Cycle-counter places: core c, noc 4 + c, hbm 8 + 4c + j, band 24, pcie 25, mgmt 26 (R32). -/
def clkCore (c : Nat) : Nat := c
/-- The noc counter of a crown. -/
def clkNoc (c : Nat) : Nat := 4 + c
/-- The counter of an HBM controller pair. -/
def clkHbm (pair : Nat) : Nat := 8 + pair
/-- The band counter. -/
def clkBand : Nat := 24
/-- The pcie counter. -/
def clkPcie : Nat := 25
/-- The mgmt counter. -/
def clkMgmt : Nat := 26

/-- A domain instance's 64-bit cycle counter (R32). -/
def State.clock (s : State) (i : Nat) : DWord := mapGet 0 s.cycles i

/-- Whether a domain instance counts cycles: its power domain is ON or DRAINING (R32, R37, R38) and no doff gates it
(R432). -/
def State.clockRuns (s : State) (i : Nat) : Bool :=
  decide (2 ≤ s.lifecycle) && !(s.lifecycle == 6 && decide (i < 24)) &&
    (if i < 4 then s.domainWorks (domSpine i)
     else if i < 8 then s.domainWorks (domSpine (i - 4))
     else if i < 24 then s.domainWorks (domPhy ((i - 8) / 4) (i % 4))
     else true)

/-- Counters of domain instances that return to zero with a reset of their power domain (R32). -/
def State.zeroClocks (s : State) (is : List Nat) : State :=
  { s with cycles := s.cycles.filter fun e => !is.contains e.1 }

/-- The block idles on an empty queue: the counters of the running domains advance by free amounts (log entry 4). -/
def State.idle (s : State) : State :=
  { s with
    tick := s.tick + 1
    cycles := (List.range 27).foldl (fun m i =>
      if s.clockRuns i then mapSet 0 m i (mapGet 0 m i + Config.elapsed s.tick i) else m) s.cycles }

/-! ### Cores -/

/-- A core by its module-wide index. -/
def State.core (s : State) (c : Nat) : Core := mapGet {} s.cores c
/-- A core replaced. -/
def State.setCore (s : State) (c : Nat) (x : Core) : State := { s with cores := mapSet {} s.cores c x }

/-- A station queue (R59). -/
def Core.queue (k : Core) (st : Nat) : List StationInsn := mapGet [] k.queues st
/-- A station queue replaced. -/
def Core.setQueue (k : Core) (st : Nat) (q : List StationInsn) : Core := { k with queues := mapSet [] k.queues st q }
/-- A station's instructions in flight, oldest first (R59). -/
def Core.flight (k : Core) (st : Nat) : List InFlight := mapGet [] k.flights st
/-- A station's instructions in flight replaced. -/
def Core.setFlight (k : Core) (st : Nat) (f : List InFlight) : Core := { k with flights := mapSet [] k.flights st f }
/-- A tile table entry (R53). -/
def Core.tte (k : Core) (h : Nat) : TileEntry := mapGet {} k.ttes (h % 4096)
/-- A tile table entry replaced. -/
def Core.setTte (k : Core) (h : Nat) (t : TileEntry) : Core := { k with ttes := mapSet {} k.ttes (h % 4096) t }
/-- A semaphore's value (R223). -/
def Core.sem (k : Core) (n : Nat) : Word := mapGet 0 k.sems (n % 256)
/-- A semaphore's value replaced. -/
def Core.setSem (k : Core) (n : Nat) (v : Word) : Core := { k with sems := mapSet 0 k.sems (n % 256) v }
/-- A control register; x0 reads as zero (R127). -/
def Core.reg (k : Core) (r : Nat) : DWord := if r = 0 then 0 else mapGet 0 k.ctl.regs r
/-- A control register written; writes to x0 are discarded (R127). -/
def Core.setReg (k : Core) (r : Nat) (v : DWord) : Core :=
  if r = 0 then k else { k with ctl := { k.ctl with regs := mapSet 0 k.ctl.regs r v } }

/-- The code of a station (R59). -/
def stationCode : Station → Nat
  | .load => 0
  | .mat => 1
  | .vec => 2
  | .store => 3
  | .send => 4
  | .recv => 5
  | .sig => 6

/-! ### Job streams -/

/-- STEPS_STARTED (R77). -/
def keyStarted (j : Nat) : Key := ⟨0x9010 + j, 4, 0⟩
/-- STEPS_ENDED (R77). -/
def keyEnded (j : Nat) : Key := ⟨0x9010 + j, 5, 0⟩
/-- PENDING_TRIGGERS (R77). -/
def keyTriggers (j : Nat) : Key := ⟨0x9010 + j, 6, 0⟩
/-- LAYOUT_EPOCH (R335). -/
def keyEpoch (j : Nat) : Key := ⟨0x9030 + j, 1, 0⟩
/-- STEP_WITHDRAWN (R430). -/
def keyWithdrawn (j : Nat) : Key := ⟨0x7010 + j, 1, 0⟩
/-- FIRST_FAULT (R430). -/
def keyFirstFault (j : Nat) : Key := ⟨0x7010 + j, 2, 0⟩
/-- JS_STATE (R438). -/
def keyJsState (j : Nat) : Key := ⟨0x9000, j + 1, 0⟩
/-- JS_LOCK (R490). -/
def keyJsLock (j : Nat) : Key := ⟨0x9001, j + 1, 0⟩
/-- MODULE_ID (R284). -/
def keyModuleId : Key := ⟨0x3000, 1, 0⟩

/-- The 256-bit CORE_MASK of a job stream (R77). -/
def State.coreMask (s : State) (j : Nat) : Nat := s.val ⟨0x9010 + j, 2, 0⟩
/-- Whether a core lies in a job stream's CORE_MASK. -/
def State.inMask (s : State) (j c : Nat) : Bool := (s.coreMask j).testBit c
/-- The job stream whose CORE_MASK holds a core. -/
def State.jsOfCore (s : State) (c : Nat) : Option Nat := (List.range 4).find? fun j => s.inMask j c
/-- Whether a step of the job stream is in progress: STEPS_STARTED exceeds STEPS_ENDED (R200). -/
def State.stepRunning (s : State) (j : Nat) : Bool := decide (s.val (keyEnded j) < s.val (keyStarted j))
/-- The job stream's step. -/
def State.stepOf (s : State) (j : Nat) : StepInfo := mapGet {} s.steps j
/-- The job stream's step replaced. -/
def State.setStep (s : State) (j : Nat) (x : StepInfo) : State := { s with steps := mapSet {} s.steps j x }

/-! ### Interrupts of the host interface (R494, R495, R504) -/

/-- An MSI-X table entry: [63:0] address, [95:64] data, [127:96] vector control; reset to masked (log entry 40). -/
def State.msixEntry (s : State) (v : Nat) : Nat := mapGet (2 ^ 96) s.msixTable v

/-- A message of a vector, or its pending bit where the vector is masked or bus mastering is off (R504, R507). -/
def State.sendVector (s : State) (v : Nat) : State :=
  let e := s.msixEntry v
  if (e >>> 96) % 2 = 1 || !s.busMaster then
    if s.msixPending.contains v then s else { s with msixPending := s.msixPending ++ [v] }
  else s.emit (.msix v (e % 2 ^ 64) (e / 2 ^ 64 % 2 ^ 32))

/-- Bits shared by EVENT_CAUSE and EVENT_MASK. -/
def State.eventBits (s : State) : Nat := s.eventCause &&& s.eventMask

/-- A cause set in EVENT_CAUSE: 0 WITHDRAWAL, 1 NOTE, 2 QUEUE_ERROR, 3 STATE, 4 WINDOW (R495); vector 0 sends when the
masked causes become non-zero. -/
def State.event (s : State) (bit : Nat) : State :=
  let s' := { s with eventCause := s.eventCause ||| 2 ^ bit }
  if s.eventBits = 0 && s'.eventBits != 0 then s'.sendVector 0 else s'

/-- The life-cycle state changed, an event of the host (R474, R495). -/
def State.setLifecycle (s : State) (v : Nat) : State :=
  if s.lifecycle = v then s else (s.setVal ⟨0x1000, 7, 0⟩ v).event 3

/-! ### Faults (R425 to R428, R439 to R445) -/

/-- What a fault record names beside its code (R441): domain and instance, location, the job stream charged, source
ID, peer, transfer and detail. -/
structure FaultAt where
  domain : Nat := 5
  instanceNo : Nat := 0
  clock : Nat := 26
  locKind : Nat := 0
  location : Nat := 0
  js : Option Nat := none
  sourceId : Option Nat := none
  peer : Nat := 0
  transfer : Option (Nat × Nat) := none
  detail : Nat := 0
  deriving DecidableEq, Repr

/-- The 64-byte record of a fault (R441). -/
def faultRecord (s : State) (code : Nat) (a : FaultAt) (after : Bool) : BitVec 512 :=
  let j := a.js.getD 0
  let r := setf (0 : BitVec 512) 496 16 code
  let r := setf r 432 64 (s.clock a.clock).toNat
  let r := setf r 428 4 a.domain
  let r := setf r 420 8 a.instanceNo
  let r := setf r 416 4 a.locKind
  let r := setf r 384 32 a.location
  let r := setf r 336 48 (if a.js.isSome then s.val (keyStarted j) else 0)
  let r := setf r 304 32 (a.sourceId.getD (if a.js.isSome && s.stepRunning j then (s.stepOf j).programId else 0))
  let r := setf r 288 16 a.peer
  let r := setf r 268 20 ((a.transfer.map (·.1)).getD 0)
  let r := setf r 260 8 ((a.transfer.map (·.2)).getD 0)
  let r := setf r 258 2 j
  let r := setf r 257 1 (if a.js.isSome then 1 else 0)
  let r := setf r 256 1 (if a.transfer.isSome then 1 else 0)
  let r := setf r 255 1 (if after then 1 else 0)
  let r := setf r 128 64 a.detail
  setf r 96 32 s.frecSeq.toNat

/-- The row of a cell's table: a row of several counters holds one after another (R439, R442). -/
def keyRow (k : Key) : Nat := k.row / (match entryOf k.index k.sub with | some e => max 1 e.cells | none => 1)

/-- Where COUNTER_SAT is recorded: the entry, with its row in FREC.DETAIL (R439, R442). -/
def satFaultAt (k : Key) : FaultAt := { locKind := 7, location := k.index * 2 ^ 16 + k.sub * 2 ^ 8, detail := keyRow k }

/-- A counter raised by `n`, added to a list where it has just saturated. -/
def bumpSat (p : State × List Key) (k : Key) (n : Nat) : State × List Key :=
  let r := p.1.bumpRaw k n
  (r.1, if r.2 then p.2 ++ [k] else p.2)

/-- A record appended to FAULT_LOG, which keeps the last 1,024; FAULT_RECORDS and FAULT_RECORDS_LOST count (R443,
R444). With it the counters that this has saturated. -/
def appendFault (s : State) (r : BitVec 512) : State × List Key :=
  let p := bumpSat ({ s with frecSeq := s.frecSeq + 1 }, []) ⟨0x7000, 2, 0⟩ 1
  if p.1.faultLog.length < 1024 then ({ p.1 with faultLog := p.1.faultLog ++ [r] }, p.2)
  else
    let q := bumpSat p ⟨0x7000, 3, 0⟩ 1
    ({ q.1 with faultLog := q.1.faultLog.drop 1 ++ [r] }, q.2)

/-- A note counted, and recorded once in a 1 ms window (R443); with the counters that this has saturated. -/
def appendNote (s : State) (code : Nat) (a : FaultAt) : State × List Key :=
  let p := bumpSat (s, []) ⟨0x7000, 4, 16 * (code / 256 % 16) + code % 16⟩ 1
  if p.1.notedNow.contains code then bumpSat p ⟨0x7000, 5, 0⟩ 1
  else
    let q := appendFault p.1 (faultRecord p.1 code a false)
    ({ (q.1.event 1) with notedNow := q.1.notedNow ++ [code] }, p.2 ++ q.2)

/-- COUNTER_SAT for each counter that has saturated, those of the notes themselves among them (R439). A counter saturates
once, and a note moves four counters: at most six saturate together. -/
def noteSaturated : Nat → List Key → State → State
  | 0, _, s => s
  | _ + 1, [], s => s
  | n + 1, k :: ks, s =>
    let p := appendNote s 0x1801 (satFaultAt k)
    noteSaturated n (ks ++ p.2) p.1

/-- A record appended to FAULT_LOG (R443, R444). -/
def State.logRecord (s : State) (r : BitVec 512) : State :=
  let p := appendFault s r
  noteSaturated 6 p.2 p.1

/-- The note of a code (R443). -/
def State.note (s : State) (code : Nat) (a : FaultAt) : State :=
  let p := appendNote s code a
  noteSaturated 6 p.2 p.1

/-- A statistics counter raised by `n`; note COUNTER_SAT once when it saturates, naming entry and row (R439). -/
def State.bump (s : State) (k : Key) (n : Nat) : State :=
  let p := s.bumpRaw k n
  if p.2 then p.1.note 0x1801 (satFaultAt k) else p.1

/-- A counter of cycles, or of what the memory controllers choose, raised by a free amount while it counts (log entry 13). -/
def State.countCycles (s : State) (k : Key) (on : Bool) : State :=
  if on then
    let f := s.free 32
    f.2.bump k f.1
  else s

/-- STEP_LOG's last record marked withdrawn with its first fault (R426). -/
def markStepLog (v code : Nat) : Nat :=
  let r := BitVec.ofNat 512 v
  let r := setf r 47 1 1
  (if getf r 64 16 = 0 then setf r 64 16 code else r).toNat

/-- A fault of class withdrawal (R426, R428): recorded; the first one charged to a job stream withdraws its step in
progress, or its last ended step. -/
def State.withdrawal (s : State) (code : Nat) (a : FaultAt) : State :=
  let s := s.event 0
  match a.js with
  | none => s.logRecord (faultRecord s code a false)
  | some j =>
    if s.val (keyWithdrawn j) = 1 then s.logRecord (faultRecord s code a true)
    else
      let s := s.logRecord (faultRecord s code a false)
      let s := (s.setVal (keyWithdrawn j) 1).setVal (keyFirstFault j) code
      let s := s.bump ⟨0x7010 + j, 3, 0⟩ 1
      if s.stepRunning j then s
      else
        let st := s.stepOf j
        let w := st.waitingRecords.length
        if 0 < w then
          let last := st.waitingRecords.getD (w - 1) (0, none)
          s.setStep j { st with waitingRecords :=
            st.waitingRecords.set (w - 1) (BitVec.ofNat 512 (markStepLog last.1.toNat code), last.2) }
        else if st.records = 0 then s
        else
          let k : Key := ⟨0x9060 + j, 6, st.records - 1⟩
          s.setVal k (markStepLog (s.val k) code)

/-- A fault of class note or withdrawal by its code (R445). -/
def State.raise (s : State) (code : Nat) (a : FaultAt) : State :=
  if code / 0x1000 = 1 then s.note code a else s.withdrawal code a

/-- A fault of a core's station or control core (R441, R442): core domain of the crown, location kind 1, charged to
the job stream whose CORE_MASK holds the core. -/
def coreFaultAt (s : State) (c st handle detail : Nat) : FaultAt :=
  { domain := 0, instanceNo := c / 64, clock := clkCore (c / 64), locKind := 1,
    location := c + st * 2 ^ 8 + handle * 2 ^ 12, js := s.jsOfCore c, detail := detail }

/-- A fault raised at a core's station. -/
def State.coreFault (s : State) (code c st handle detail : Nat) : State :=
  s.raise code (coreFaultAt s c st handle detail)

/-- A poisoned input read (R49): TILE_POISON, unless the job stream is already withdrawn for the step. -/
def State.poisonFault (s : State) (c st handle : Nat) : State :=
  match s.jsOfCore c with
  | some j => if s.val (keyWithdrawn j) = 1 then s else s.coreFault 0x2007 c st handle handle
  | none => s.coreFault 0x2007 c st handle handle

/-! ### Semaphores (R223 to R225) -/

/-- An increment applied to a semaphore: held at 0xFFFF_FFFF with SEM_OVERFLOW past it (R225). -/
def State.semAdd (s : State) (c sem amount : Nat) : State :=
  let k := s.core c
  let v := (k.sem sem).toNat + amount
  if v > 0xFFFFFFFF then
    (s.setCore c (k.setSem sem 0xFFFFFFFF#32)).coreFault 0x2201 c 15 0xFFF sem
  else s.setCore c (k.setSem sem (BitVec.ofNat 32 v))

/-- An increment sent on its way to a semaphore (R232). -/
def State.sendIncrement (s : State) (src : SigSource) (dst sem amount : Nat) : State :=
  { s with increments := s.increments ++ [{ src := src, dst := dst, sem := sem, amount := amount }] }

end Sys2Proof.Machine
end

