-- ==== Sys2Proof/Machine/Operands.lean ====
section
/-! DEFINITION. Tiles as operands: header fields (R41), formats and layouts (R42, R43, R87, R88), reading a tile's
elements into FP32 (R116, R140), transposition (R68), the tile table (R53 to R56) and the form of a poisoned tile
(R73, R74). -/
namespace Sys2Proof.Machine

/-- A tile header (R41). -/
abbrev Hdr := BitVec 512

def hFormat (h : Hdr) : Nat := getf h 0 8
def hLayout (h : Hdr) : Nat := getf h 8 4
def hAllzero (h : Hdr) : Bool := bitf h 12
def hSparse (h : Hdr) : Bool := bitf h 13
def hCompressed (h : Hdr) : Bool := bitf h 14
def hPoison (h : Hdr) : Bool := bitf h 15
def hRows (h : Hdr) : Nat := getf h 16 16
def hCols (h : Hdr) : Nat := getf h 32 16
def hGranules (h : Hdr) : Nat := getf h 48 8
def hScaleHandle (h : Hdr) : Nat := getf h 64 12
def hScaleKind (h : Hdr) : Nat := getf h 76 2
def hScaleValue (h : Hdr) : Word := BitVec.ofNat 32 (getf h 80 32)
def hEpoch (h : Hdr) : Nat := getf h 128 32
def hCrc (h : Hdr) : Nat := getf h 480 32

/-- The header of 64 bytes (R5). -/
def hdrOfBytes (bs : List Byte) : Hdr := BitVec.ofNat 512 (leAt bs 0 64)
/-- The 64 bytes of a header. -/
def hdrBytes (h : Hdr) : List Byte := natLe 64 h.toNat

/-- The image of a tile: header, then payload (R65). -/
def tileImage (t : Tile) : List Byte := hdrBytes t.header ++ t.payload

/-- The CRC-32C of a tile (R41, R44). -/
def tileCrc (h : Hdr) (payload : List Byte) : Nat := crc32c ((hdrBytes h).take 60 ++ payload)

/-- A tile with its checksum written (R45). -/
def sealTile (h : Hdr) (payload : List Byte) : Tile := { header := setf h 480 32 (tileCrc h payload), payload := payload }

/-- Whether the tile passes its checksum (R45). -/
def tileCrcOk (t : Tile) : Bool := hCrc t.header == tileCrc t.header t.payload

/-- A tile with ALLZERO set as its payload is (R48), sealed. -/
def sealProduced (h : Hdr) (payload : List Byte) : Tile :=
  sealTile (setf h 12 1 (if payload.all (· == 0) then 1 else 0)) payload

/-! ### Formats (R42, R43, R87, R88, R355) -/

/-- Bits of an element code (R42); fulling codes without their exponent byte. -/
def elemBits : Nat → Nat
  | 0x00 => 8
  | 0x01 => 32
  | 0x02 => 16
  | 0x03 => 16
  | 0x04 => 8
  | 0x05 => 8
  | 0x06 => 8
  | 0x07 => 8
  | 0x08 => 6
  | 0x09 => 6
  | 0x0A => 4
  | 0x0B => 8
  | 0x0C => 32
  | 0x0D => 32
  | 0x0E => 1
  | 0x10 => 4
  | 0x11 => 6
  | 0x12 => 8
  | _ => 0

/-- Whether a format is one of the MX formats (R42). -/
def isMx (f : Nat) : Bool := decide (0x06 ≤ f) && decide (f ≤ 0x0A)
/-- Whether a format is a fixed-rate fulling format (R355). -/
def isFulling (f : Nat) : Bool := decide (0x10 ≤ f) && decide (f ≤ 0x12)
/-- Whether a format is FP8 (R42). -/
def isFp8 (f : Nat) : Bool := f == 0x04 || f == 0x05

/-- The layouts that a format permits (R42). -/
def layoutOk (f l : Nat) : Bool :=
  match f with
  | 0x00 => l == 0
  | 0x01 => l == 0 || l == 1
  | 0x02 => l == 0 || l == 1
  | 0x03 => l == 0 || l == 1
  | 0x04 => l == 0 || l == 1 || l == 2
  | 0x05 => l == 0 || l == 1 || l == 2
  | 0x06 => l == 3
  | 0x07 => l == 3
  | 0x08 => l == 3
  | 0x09 => l == 3
  | 0x0A => l == 2 || l == 3
  | 0x0B => l == 0 || l == 1
  | 0x0C => l == 0 || l == 1
  | 0x0D => l == 0
  | 0x0E => l == 0
  | 0x10 => l == 0
  | 0x11 => l == 0
  | 0x12 => l == 0
  | 0x13 => l == 0
  | _ => false

/-- a / b rounded up. -/
def ceilDiv (a b : Nat) : Nat := (a + b - 1) / b

/-- Payload bytes that a shape needs (R43, R87, R88, R355). -/
def needBytes (f l rows cols : Nat) : Nat :=
  let n := rows * cols
  if isFulling f then
    let m := ceilDiv n 32
    m * (32 * elemBits f / 8) + m
  else if l = 3 then ceilDiv (n * elemBits f) 8 + rows * (cols / 32)
  else if l = 2 then
    ceilDiv (n / 2 * elemBits f) 8 + ceilDiv n 8 + (if f = 0x0A then rows * (cols / 32) else 0)
  else ceilDiv (n * elemBits f) 8

/-- A header that is well-formed (R43) with every reserved field zero (R7); `payload` bytes are held. Format 0x13
stands in memory images only and is checked by the codec. -/
def headerOk (h : Hdr) (payload : Nat) : Bool :=
  let f := hFormat h
  layoutOk f (hLayout h) && f != 0x13 &&
  (hCompressed h == isFulling f) && (hSparse h == (hLayout h == 2)) &&
  (isFp8 f || hScaleKind h == 0 || (isMx f && decide (hScaleKind h ≤ 1))) &&
  decide (1 ≤ hRows h) && decide (1 ≤ hCols h) &&
  (!isMx f || hCols h % 32 == 0) &&
  getf h 56 8 == 0 && getf h 78 2 == 0 && getf h 112 16 == 0 && getf h 188 4 == 0 && getf h 220 260 == 0 &&
  decide (needBytes f (hLayout h) (hRows h) (hCols h) ≤ payload)

/-! ### Bit planes -/

/-- Element codes of `b` bits read from bytes, from bit 0 of byte 0 on; `acc` holds `n` bits not used yet. -/
def unpackCodes (b : Nat) : List Byte → Nat → Nat → List Nat
  | [], _, _ => []
  | x :: xs, acc, n =>
    let acc := acc + (x.toNat <<< n)
    let k := (n + 8) / b
    ((List.range k).map fun i => (acc >>> (b * i)) % 2 ^ b) ++ unpackCodes b xs (acc >>> (b * k)) (n + 8 - b * k)

/-- Bytes from element codes of `b` bits; the unused bits of the last byte are zero. -/
def packCodes (b : Nat) : List Nat → Nat → Nat → List Byte
  | [], acc, n => if n = 0 then [] else [BitVec.ofNat 8 acc]
  | c :: cs, acc, n =>
    let acc := acc + ((c % 2 ^ b) <<< n)
    let k := (n + b) / 8
    natLe k acc ++ packCodes b cs (acc >>> (8 * k)) (n + b - 8 * k)

/-- The matrix of `rows × cols` in row-major order from column-major order. -/
def fromColumnMajor {α : Type} (rows cols : Nat) (d : α) (xs : List α) : List α :=
  (List.range (rows * cols)).map fun i => xs.getD (i % cols * rows + i / cols) d

/-- The transpose of a row-major `rows × cols` matrix, row-major. -/
def transposeList {α : Type} (rows cols : Nat) (d : α) (xs : List α) : List α :=
  (List.range (cols * rows)).map fun i => xs.getD (i % rows * cols + i / rows) d

/-- Bytes padded with zeros to whole granules of 256 bytes, at least one. -/
def padGranules (bs : List Byte) : List Byte := sliceBytes bs 0 (256 * max 1 (ceilDiv bs.length 256))

/-- Element codes of a tile in logical row-major order, layouts 0, 1 and 3, and fulling (without exponents). -/
def tileCodes (t : Tile) : List Nat :=
  let h := t.header
  let n := hRows h * hCols h
  let b := elemBits (hFormat h)
  let cs := (unpackCodes b (t.payload.take (ceilDiv (n * b) 8)) 0 0).take n
  if hLayout h = 1 then fromColumnMajor (hRows h) (hCols h) 0 cs else cs

/-- The block scales of a layout-3 tile, row after row (R87). -/
def tileScales (t : Tile) : List Nat :=
  let h := t.header
  let off := hRows h * hCols h * elemBits (hFormat h) / 8
  (sliceBytes t.payload off (hRows h * (hCols h / 32))).map (·.toNat)

/-- The index plane of a layout-2 tile as positions of kept values, row after row (R88). Where COLS ÷ 8 is no whole number
of bytes the positions of all rows form one bit string without padding (DESIGN CHOICE, log entry 52). -/
def tilePositions (t : Tile) : List Nat :=
  let h := t.header
  let n := hRows h * hCols h
  let off := ceilDiv (n / 2 * elemBits (hFormat h)) 8
  (unpackCodes 2 (sliceBytes t.payload off (ceilDiv n 8)) 0 0).take (n / 2)

/-- Whether the positions of every group of two are strictly increasing (R88). -/
def positionsOk : List Nat → Bool
  | a :: b :: r => decide (a < b) && positionsOk r
  | _ => true

/-- The dense codes of a layout-2 tile: zero where no value is kept (R88). -/
def sparseCodes (t : Tile) : List Nat :=
  let h := t.header
  let n := hRows h * hCols h
  let b := elemBits (hFormat h)
  let kept := (unpackCodes b (t.payload.take (ceilDiv (n / 2 * b) 8)) 0 0).take (n / 2)
  let pos := tilePositions t
  (List.range (n / 4)).flatMap fun g => (List.range 4).map fun p =>
    if pos.getD (2 * g) 4 = p then kept.getD (2 * g) 0
    else if pos.getD (2 * g + 1) 4 = p then kept.getD (2 * g + 1) 0 else 0

/-- The block scales of a layout-2 MXFP4 tile (R88). -/
def sparseScales (t : Tile) : List Nat :=
  let h := t.header
  let n := hRows h * hCols h
  let off := ceilDiv (n / 2 * elemBits (hFormat h)) 8 + ceilDiv n 8
  (sliceBytes t.payload off (hRows h * (hCols h / 32))).map (·.toNat)

/-! ### Elements as exact values (R116, R138 to R140, R356) -/

/-- The value of an element code in a format without block or tile scales; integers by their value. -/
def codeNum (f c : Nat) : Num :=
  match fmtOfCode f with
  | some fm => fmtDecode fm c
  | none =>
    if f = 0x0B then numOfInt (signedOf 8 c)
    else if f = 0x0C then numOfInt (signedOf 32 c)
    else numOfInt (c : Int)

/-- An element times its E8M0 block scale (R140). -/
def mxNum (f c x : Nat) : Num :=
  match e8m0 x with
  | none => .nan
  | some k => numScale k (codeNum f c)

/-- k and the code width of a fulling format (R355). -/
def fullK : Nat → Nat
  | 0x10 => 2
  | 0x11 => 4
  | _ => 6

/-- The exponent bytes of a fulling tile (R355). -/
def fullExponents (t : Tile) : List Nat :=
  let h := t.header
  let m := ceilDiv (hRows h * hCols h) 32
  (sliceBytes t.payload (m * (32 * elemBits (hFormat h) / 8)) m).map (·.toNat)

/-- All codes of a fulling tile's code plane, the padding of the last block included. -/
def fullCodes (t : Tile) : List Nat :=
  let h := t.header
  let b := elemBits (hFormat h)
  let m := ceilDiv (hRows h * hCols h) 32
  (unpackCodes b (t.payload.take (m * (32 * b / 8))) 0 0).take (32 * m)

/-- Whether block `j` of a fulling tile is poisoned: X 0xFF, or a reserved code in it (R356). -/
def fullBlockBad (b : Nat) (x : Nat) (codes : List Nat) : Bool := x == 0xFF || codes.any (· == 2 ^ (b - 1))

/-- Poisoned blocks of a fulling tile, block by block (R356). -/
def fullBad (t : Tile) : List Bool :=
  let cs := fullCodes t
  let xs := fullExponents t
  (List.range xs.length).map fun j => fullBlockBad (elemBits (hFormat t.header)) (xs.getD j 0) ((cs.drop (32 * j)).take 32)

/-- Whether a fulling tile holds a poisoned block (R358). -/
def fullPoisoned (t : Tile) : Bool :=
  (fullBad t).any id

/-- The value of a fulling code under its exponent byte, rounded to FP32 with RNE where it is no multiple of 2^-149; a zero code
is +0, and every element of a poisoned block is NaN (R356). -/
def fullNum (f c x : Nat) (bad : Bool) : Num :=
  let v := signedOf (elemBits f) c
  let e := (x : Int) - 149 - (fullK f : Int)
  if bad then .nan
  else if -149 ≤ e then .fin (decide (v < 0)) v.natAbs 1 e
  else ofF32 (toF32 (.fin (decide (v < 0)) v.natAbs 1 e))

/-- A tile's elements as exact values in row-major order, without tile scales: layouts 0, 1, 3, layout 2 and
fulling. -/
def tileNums (t : Tile) : List Num :=
  let h := t.header
  let f := hFormat h
  let cols := hCols h
  if isFulling f then
    let xs := fullExponents t
    let cs := tileCodes t
    let bad := fullBad t
    (List.range cs.length).map fun i => fullNum f (cs.getD i 0) (xs.getD (i / 32) 0) (bad.getD (i / 32) false)
  else if hLayout h = 3 then
    let xs := tileScales t
    let cs := tileCodes t
    (List.range cs.length).map fun i => mxNum f (cs.getD i 0) (xs.getD (i / cols * (cols / 32) + i % cols / 32) 0)
  else if hLayout h = 2 then
    let cs := sparseCodes t
    if f = 0x0A then
      let xs := sparseScales t
      (List.range cs.length).map fun i => mxNum f (cs.getD i 0) (xs.getD (i / cols * (cols / 32) + i % cols / 32) 0)
    else cs.map (codeNum f)
  else (tileCodes t).map (codeNum f)

/-- A tile read into FP32 (R116): elements rounded once where the table says so, then the tile's scale of kind 1, 2 or
3 applied with RNE; `scale` holds the FP32 elements of the scale tile. -/
def tileF32 (t : Tile) (scale : List Word) : List Word :=
  let h := t.header
  let base := (tileNums t).map toF32
  match hScaleKind h with
  | 1 => base.map fun x => mulF32 x (hScaleValue h)
  | 2 => (List.range base.length).map fun i => mulF32 (base.getD i 0) (scale.getD (i / hCols h) 0)
  | 3 => (List.range base.length).map fun i => mulF32 (base.getD i 0) (scale.getD (i % hCols h) 0)
  | _ => base

/-- Whether VEC reads a tile of this header as an FP32 operand (R116): not RAW, not compressed; MX in layout 3. -/
def vecReads (h : Hdr) : Bool :=
  let f := hFormat h
  f != 0 && !hCompressed h && (!isMx f || hLayout h == 3)

/-! ### Transposition (R68) -/

/-- Whether a transposition of the tile is permitted. -/
def transposeOk (h : Hdr) : Bool :=
  let b := elemBits (hFormat h)
  decide (hLayout h ≤ 1) && !hCompressed h && (b == 8 || b == 16 || b == 32) &&
    hRows h % 16 == 0 && hCols h * (b / 8) % 16 == 0

/-- Codes stored in a tile's layout 0 or 1. -/
def storeCodes (f l rows cols : Nat) (cs : List Nat) : List Byte :=
  packCodes (elemBits f) (if l = 1 then transposeList rows cols 0 cs else cs) 0 0

/-- The transposed tile: ROWS and COLS exchanged, the layout and the flags kept, resealed (R46, R68). ALLZERO is the source's:
R48 does not say whether a transposition, which moves the same bytes, sets it anew (DESIGN CHOICE, log entry 52). -/
def transposeTile (t : Tile) : Tile :=
  let h := t.header
  let r := hRows h
  let c := hCols h
  let cs := transposeList r c 0 (tileCodes t)
  let h' := setf (setf h 16 16 c) 32 16 r
  sealTile h' (sliceBytes (storeCodes (hFormat h) (hLayout h) c r cs) 0 t.payload.length)

/-! ### The tile table (R53 to R56) -/

/-- Granules of an entry's extent: the header granule and the payload capacity (R54). -/
def extentLen (t : TileEntry) : Nat := t.capacity.toNat + 2

/-- Whether two extents share a granule. -/
def extentsMeet (a b : TileEntry) : Bool :=
  decide (a.base.toNat < b.base.toNat + extentLen b) && decide (b.base.toNat < a.base.toNat + extentLen a)

/-- Whether a granule of the entry's extent is occupied: an entry that is not FREE covers it (R55). -/
def extentOccupied (k : Core) (t : TileEntry) : Bool :=
  k.ttes.any fun e => e.2.bound && e.2.state != .free && extentsMeet t e.2

/-- Whether a handle can take an output: bound, FREE, no granule occupied (R60). -/
def outputFree (k : Core) (h : Nat) : Bool :=
  let t := k.tte h
  t.bound && t.state == .free && !extentOccupied k t

/-- The tile at a handle: the header, and the payload that it announces (R41, R54). -/
def readTile (k : Core) (h : Nat) : Tile :=
  let t := k.tte h
  let hd := hdrOfBytes (bytesGet k.spad (256 * t.base.toNat) 64)
  { header := hd, payload := bytesGet k.spad (256 * (t.base.toNat + 1)) (256 * (hGranules hd + 1)) }

/-- The header at a handle. -/
def readHeader (k : Core) (h : Nat) : Hdr := hdrOfBytes (bytesGet k.spad (256 * (k.tte h).base.toNat) 64)

/-- Whether a scratchpad atom holds part of a tile of `n` payload bytes in a handle's extent: its header or its payload. -/
def atomOfTile (k : Core) (h n atom : Nat) : Bool :=
  let b := 4 * (k.tte h).base.toNat
  atom == b || (decide (b + 4 ≤ atom) && decide (atom < b + 4 + n / 64))

/-- A tile written into a handle's extent; the atoms that it covers lose their poison (R219). -/
def writeTile (k : Core) (h : Nat) (t : Tile) : Core :=
  let e := k.tte h
  let m := bytesSet k.spad (256 * e.base.toNat) (hdrBytes t.header)
  { k with
    spad := bytesSet m (256 * (e.base.toNat + 1)) t.payload
    badAtoms := k.badAtoms.filter fun a => !atomOfTile k h t.payload.length a }

/-- Whether a scratchpad atom belongs to the tile at a handle. -/
def inTile (k : Core) (h atom : Nat) : Bool := atomOfTile k h (256 * (hGranules (readHeader k h) + 1)) atom

/-- Payload bytes of a handle's capacity. -/
def capacityBytes (k : Core) (h : Nat) : Nat := 256 * ((k.tte h).capacity.toNat + 1)

/-- A reader of a PRESENT entry issues, perhaps with a release (R56); what drains with it stays readable for the other
issues of the cycle (R57). -/
def readerIssues (k : Core) (h : Nat) (release : Bool) : Core :=
  let t := k.tte h
  let t := { t with readers := t.readers + 1 }
  if release then
    if t.released.toNat + 1 ≥ t.releases.toNat then { k.setTte h { t with state := .draining } with drained := k.drained ++ [h] }
    else k.setTte h { t with released := t.released + 1 }
  else k.setTte h t

/-- A new cycle (core) begins: its issues see the tile table as it stands now (R57). -/
def Core.newCycle (k : Core) : Core := { k with issued := [], drained := [] }

/-- The running cycle as a station that issues next finds it: a station issues at most once in a cycle (R60). -/
def Core.cycleFor (k : Core) (st : Nat) : Core := if k.issued.contains st then k.newCycle else k

/-- Whether an input is PRESENT at the start of the running cycle: one that an issue of the cycle has drained still is (R57). -/
def inputPresent (k : Core) (h : Nat) : Bool :=
  (k.tte h).state == .present || ((k.tte h).state == .draining && k.drained.contains h)

/-- A reader completes (R56): a DRAINING entry without readers becomes FREE. A stationary load remembers that its
tile has passed through FREE (R93). -/
def readerCompletes (k : Core) (h : Nat) : Core :=
  let t := k.tte h
  let n := t.readers - 1
  if t.state = .draining && n = 0 then
    let k := k.setTte h { t with readers := 0, state := .free }
    match k.lastLoad with
    | some l => if l.handle = h then { k with lastLoad := some { l with passedFree := true } } else k
    | none => k
  else k.setTte h { t with readers := n }

/-- An output entry starts filling (R56). -/
def outputFills (k : Core) (h : Nat) : Core := k.setTte h { k.tte h with state := .filling }

/-- An output entry becomes PRESENT with its tile (R56, R62). -/
def outputPresent (k : Core) (o : OutTile) : Core :=
  let k := writeTile k o.handle o.tile
  k.setTte o.handle { k.tte o.handle with state := .present, released := 0 }

/-- The copy of a tile that carries POISON: a tile with the flag as it stands, another one with the flag set and resealed
(R46, R49). -/
def flaggedCopy (t : Tile) : Tile := if hPoison t.header then t else sealTile (setf t.header 15 1 1) t.payload

/-- The producer fields and epoch of a tile produced by a core's station (R41, R52). A core in no CORE_MASK has no job
stream to take the epoch from: it writes 0 (DESIGN CHOICE, log entry 52). -/
def producedHeader (s : State) (c st : Nat) (h : Hdr) : Hdr :=
  let h := setf h 204 16 (s.val keyModuleId)
  let h := setf h 196 8 c
  let h := setf h 192 4 st
  setf h 128 32 (match s.jsOfCore c with | some j => s.val (keyEpoch j) | none => 0)

/-- The poisoned tile that fills a handle (R73, R74): zero RAW payload, POISON and ALLZERO set. -/
def poisonTile (s : State) (c st h xfer gen : Nat) : Tile :=
  let cap := ((s.core c).tte h).capacity.toNat
  let hd : Hdr := setf (setf (setf 0 16 16 (cap + 1)) 32 16 256) 48 8 cap
  let hd := setf (setf hd 15 1 1) 12 1 1
  let hd := setf (setf hd 168 20 xfer) 160 8 gen
  sealTile (producedHeader s c st hd) (List.replicate (256 * (cap + 1)) 0)

end Sys2Proof.Machine
end

