-- ==== Sys2Proof/Machine/Memory.lean ====
section
/-! DEFINITION. Module memory: the address map (R190 to R192), reads and writes with poison (R195, R219), regions and
their checks (R196, R199), and the requests of the HBM controllers (R209, R210, R221). -/
namespace Sys2Proof.Machine

/-- End of the HBM range (R190). -/
def hbmEnd : Nat := 0xC000000000
/-- Bytes of one crown's HBM (R190). -/
def crownSpan : Nat := 0x3000000000
/-- First byte of the cluster pools (R190). -/
def poolBase : Nat := 0xF00000000000
/-- Bytes of all cluster pools. -/
def poolSpan : Nat := 0x80000000
/-- Bytes of one cluster's pool. -/
def poolOne : Nat := 0x4000000

/-- Whether an address lies in HBM (R190). -/
def inHbm (a : Nat) : Bool := decide (a < hbmEnd)
/-- Whether an address lies in a cluster pool (R190). -/
def inPool (a : Nat) : Bool := decide (poolBase ≤ a) && decide (a < poolBase + poolSpan)
/-- Whether a byte is mapped for requests: HBM or pool (R190). -/
def mapped (a : Nat) : Bool := inHbm a || inPool a
/-- The crown of an HBM address. -/
def hbmCrown (a : Nat) : Nat := a / crownSpan
/-- The cluster 8c + k of a pool address. -/
def poolCluster (a : Nat) : Nat := (a - poolBase) / poolOne
/-- Whether an HBM address lies in the 2 GiB reserve of its crown, span 0 (R191). -/
def inReserve (a : Nat) : Bool :=
  let o := a % crownSpan
  inHbm a && decide (0x2C00000000 ≤ o) && decide (o < 0x2C80000000)

/-- Where an HBM address lies (R192): stack, pseudo-channel within the stack as 2h + p, bank, row. -/
structure HbmPlace where
  stack : Nat
  pseudo : Nat
  bank : Nat
  row : Nat
  deriving DecidableEq, Repr

/-- The stack, channel, pseudo-channel, bank and row of an HBM address (R192). -/
def hbmPlace (a : Nat) : HbmPlace :=
  let c := hbmCrown a
  let o := a % crownSpan
  if o < 0x2C00000000 then
    let u := o / 512
    let i := (u ^^^ (u >>> 8) ^^^ (u >>> 16)) % 256
    let f := (u >>> 8) * 512 + o % 512
    { stack := 8 * c + i % 8, pseudo := 2 * (i / 8 % 16) + i / 128, bank := f / 1024 % 16, row := f / 16384 }
  else
    let x := (o - 0x2C00000000) % 0x80000000
    let j := (o - 0x2C00000000) / 0x80000000
    let u := x / 512
    let i := (u ^^^ (u >>> 5) ^^^ (u >>> 10)) % 32
    let f := 704 * 2 ^ 20 + (u >>> 5) * 512 + x % 512
    { stack := 8 * c + j, pseudo := 2 * (i % 16) + i / 16, bank := f / 1024 % 16, row := f / 16384 }

/-- The address of an atom, by its stack, pseudo-channel (as 2h + p), row, and atom `cell` of the 256 of the row's 16 banks, which
R192 places there: the interleaved space below 704 MiB of the pseudo-channel, the stack-local span from there. -/
def hbmAddress (stack pseudo row cell : Nat) : Nat :=
  let f := row * 16384 + cell * 64
  let base := stack / 8 * crownSpan
  if f < 704 * 2 ^ 20 then
    let g := f / 512
    let i := stack % 8 + 8 * (pseudo / 2) + 128 * (pseudo % 2)
    base + (g * 256 + (i ^^^ (g % 256) ^^^ (g / 256 % 256))) * 512 + f % 512
  else
    let g := (f - 704 * 2 ^ 20) / 512
    let i := pseudo / 2 + 16 * (pseudo % 2)
    base + (0x2C00000000 + stack % 8 * 0x80000000) + (g * 32 + (i ^^^ (g % 32) ^^^ (g / 32 % 32))) * 512 + f % 512

/-! ### Bytes -/

/-- A byte of module memory; a byte that nothing has written reads as 0 (R521, log entry 3). -/
def State.readByte (s : State) (a : Nat) : Byte := mapGet 0 s.mem a
/-- Bytes of module memory. -/
def State.readMem (s : State) (a n : Nat) : List Byte := bytesGet s.mem a n
/-- Whether a 64-byte atom is poisoned (R219). -/
def State.atomPoisoned (s : State) (atom : Nat) : Bool := mapGet false s.poison atom
/-- Whether a span touches a poisoned atom. -/
def State.spanPoisoned (s : State) (a n : Nat) : Bool :=
  s.poison.any fun e => e.2 && decide (a / 64 ≤ e.1) && decide (e.1 * 64 < a + n)
/-- An atom poisoned (R219). -/
def State.poisonAtom (s : State) (atom : Nat) : State := { s with poison := mapSet false s.poison atom true }

/-- Bytes written: an atom that the write covers whole loses its poison (R219). -/
def State.writeMem (s : State) (a : Nat) (bs : List Byte) : State :=
  { s with
    mem := bytesSet s.mem a bs
    poison := s.poison.filter fun e => !(decide (a ≤ 64 * e.1) && decide (64 * e.1 + 64 ≤ a + bs.length)) }

/-- A span set to zero with its poison cleared: scrubs (R200) and lost pools (R38). -/
def State.clearMem (s : State) (a n : Nat) : State :=
  { s with mem := spanClear s.mem a n, poison := s.poison.filter fun e =>
      !(decide (a ≤ 64 * e.1) && decide (64 * e.1 + 64 ≤ a + n)) }

/-! ### Regions (R196, R199) -/

/-- Rights of a region (R196). -/
inductive Right where
  | read | write | land | host | prefetch
  deriving DecidableEq, Repr

/-- Whether a region grants a right. -/
def Region.grants (r : Region) : Right → Bool
  | .read => r.read
  | .write => r.write
  | .land => r.land
  | .host => r.host
  | .prefetch => r.prefetch

/-- Whether a region holds a whole span. -/
def Region.holds (r : Region) (a n : Nat) : Bool := decide (r.base ≤ a) && decide (a + n ≤ r.base + r.size)

/-- The ACTIVE region of tier 1 or 2 that holds a span. -/
def State.regionAt (s : State) (a n : Nat) : Option Region :=
  s.regions.find? fun r => r.state == .active && decide (r.tier ≤ 2) && r.holds a n

/-- Whether a span lies within one region of a job stream with a right (R199). -/
def State.access (s : State) (js : Option Nat) (a n : Nat) (right : Right) : Bool :=
  match s.regionAt a n with
  | some r => js == some r.js && r.grants right
  | none => false

/-- Bytes that a job stream's regions of a tier use, ACTIVE or SCRUBBING (R201). -/
def State.usedBytes (s : State) (j tier : Nat) : Nat :=
  (s.regions.filter fun r => r.js == j && r.tier == tier).foldl (fun n r => n + r.size) 0

/-! ### Requests (R209, R210) -/

/-- Whether a request of this requester takes a slot: HBM, or the pool of another crown (R209). -/
def takesSlot (crown : Nat) (a : Nat) : Bool := inHbm a || (inPool a && poolCluster a / 8 != crown)

/-- The 512-byte units that a span touches, as (address, bytes) pieces; `n` bounds their number (R209). -/
def splitUnits : Nat → Nat → Nat → List (Nat × Nat)
  | 0, _, _ => []
  | k + 1, a, n =>
    if n = 0 then [] else
      let m := min n (512 - a % 512)
      (a, m) :: splitUnits k (a + m) (n - m)

/-- Whether two requests use one bank of one pseudo-channel. -/
def sameBank (a b : HbmReq) : Bool :=
  inHbm a.addr && inHbm b.addr && { hbmPlace a.addr with row := 0 } == { hbmPlace b.addr with row := 0 }

/-- How many requesters present themselves under one name: eight of a prefetch engine, four of PCI Express, one
otherwise (R209). -/
def requesterCount : HbmRequester → Nat
  | .prefetch _ => 8
  | .pcie => 4
  | _ => 1

/-- The slots that a request's requester holds. -/
def slotsOf (held : List HbmReq) (q : HbmReq) : List HbmReq := held.filter fun x => x.slot && x.who == q.who && x.unit == q.unit

/-- Whether a requester holds as many slots on a request's bank as it may (R210). -/
def bankFull (held : List HbmReq) (q : HbmReq) : Bool := decide (8 ≤ ((slotsOf held q).filter (sameBank q)).length)

/-- Whether a request that takes a slot finds one: fewer than 64 held by its requester, fewer than 8 of them on the bank
(R209, R210). -/
def slotFree (held : List HbmReq) (q : HbmReq) : Bool := !q.slot || (decide ((slotsOf held q).length < 64) && !bankFull held q)

/-- The crown whose own memories a requester reaches without an edge; PCI Express and firmware have none (R27, R209). -/
def requesterCrown : HbmRequester → Option Nat
  | .core c => some (c.val / 64)
  | .prefetch k => some (k.val / 8)
  | .dispatcher c => some c.val
  | _ => none

/-- The crown that a module address lies in. -/
def addrCrown (a : Nat) : Nat := if inHbm a then hbmCrown a else poolCluster a / 8

/-- The crowns whose die-to-die edges a request crosses (R27). -/
def edgesOf (q : HbmReq) : List Nat :=
  match requesterCrown q.who with
  | some c => if c = addrCrown q.addr then [] else [c, addrCrown q.addr]
  | none => [addrCrown q.addr]

/-- Whether every edge that a request crosses admits it (R27, R37). -/
def pathOpen (s : State) (q : HbmReq) : Bool := (edgesOf q).all fun c => s.domainOn (domEdge c)

/-- Waiting requests given slots in order; those that find none wait on, marked where R210 holds them, and so do those whose
path is closed. -/
def admitRequests (isOpen : HbmReq → Bool) : List HbmReq → List HbmReq → List HbmReq × List HbmReq
  | held, [] => (held, [])
  | held, q :: qs =>
    if slotFree held q && isOpen q then admitRequests isOpen (held ++ [q]) qs
    else
      let r := admitRequests isOpen held qs
      (r.1, { q with capped := q.capped || bankFull held q } :: r.2)

/-- The counter of a stack (R221). -/
def stackKey (stack sub : Nat) : Key := ⟨0x4100 + stack, sub, 0⟩

/-- Requests given slots, those in `waiting` in order after the ones outstanding; each that R210 now holds counts once in
BANK_CAP_WAITS (R221). -/
def State.seatRequests (s : State) (held waiting : List HbmReq) : State :=
  let r := admitRequests (pathOpen s) held waiting
  (r.2.filter fun q => q.capped && !waiting.contains q).foldl (fun s q => s.bump (stackKey (hbmPlace q.addr).stack 9) 1)
    { s with hbm := r.1, hbmWaiting := r.2 }

/-- The requests of a span, one for each 512-byte unit, of one of the requesters that share the name: which of them is free
(R209, log entry 56). `data` are the bytes that a write brings. -/
def spanRequests (who : HbmRequester) (crown token a : Nat) (data : Option (List Byte)) : List (Nat × Nat) → State →
    List HbmReq × State
  | [], s => ([], s)
  | p :: ps, s =>
    let f := if requesterCount who = 1 then (0, s) else s.free 3
    let r := spanRequests who crown token a data ps f.2
    ({ who := who, unit := f.1 % requesterCount who, token := token, addr := p.1, bytes := p.2, write := data.isSome
       slot := takesSlot crown p.1, data := (((data.getD []).drop (p.1 - a)).take p.2) } :: r.1, r.2)

/-- Requests for a span presented by a requester of a crown (4: of none); those that find no slot wait (R209, R210). -/
def State.request (s : State) (who : HbmRequester) (crown token a n : Nat) (data : Option (List Byte)) : State :=
  let r := spanRequests who crown token a data (splitUnits (n / 512 + 2) a n) s
  r.2.seatRequests r.2.hbm (r.2.hbmWaiting ++ r.1)

/-- Whether a token still has a request outstanding or waiting. -/
def State.tokenBusy (s : State) (token : Nat) : Bool :=
  s.hbm.any (·.token == token) || s.hbmWaiting.any (·.token == token)

/-- A fresh token. -/
def State.newToken (s : State) : Nat × State := (s.nextToken, { s with nextToken := s.nextToken + 1 })

/-- A request under a token of its own, which no instruction waits for. -/
def State.requestAlone (s : State) (who : HbmRequester) (crown a n : Nat) (data : Option (List Byte)) : State :=
  s.newToken.2.request who crown s.newToken.1 a n data

/-- A span read by firmware: descriptors, member tables, manifests and images (R209). -/
def State.firmwareReads (s : State) (a n : Nat) : State := s.requestAlone .firmware 4 a n none

/-- Memory as a read of a requester finds it: the writes at the controllers, and those that the requester itself holds back,
come before the read (R210, R211). -/
def State.seen (s : State) (who : HbmRequester) : State :=
  ((s.hbm ++ s.hbmWaiting.filter (·.who == who)).filter (·.write)).foldl (fun s q => s.writeMem q.addr q.data) s

/-- Where a fault of HBM or of a pool is recorded (R529): by the atom's address. -/
def memFaultAt (a : Nat) : FaultAt :=
  if inHbm a then
    let p := hbmPlace a
    { domain := 2, instanceNo := p.stack / 2, clock := clkHbm (p.stack / 2), locKind := 3,
      location := 32 * p.stack + p.pseudo, detail := a / 64 * 64 }
  else
    { domain := 1, instanceNo := poolCluster a / 8, clock := clkNoc (poolCluster a / 8), locKind := 2,
      location := poolCluster a, detail := a / 64 * 64 }

/-- The module address of a core's scratchpad byte (R190). -/
def spadAddr (c o : Nat) : Nat := 0xF00100000000 + c * 0x800000 + o

/-- Where a fault of a scratchpad's atom is recorded, read by a station or, as 15, by the control core or a peek (R529). -/
def spadFaultAt (c st atom : Nat) : FaultAt :=
  { domain := 0, instanceNo := c / 64, clock := clkCore (c / 64), locKind := 1, location := c + st * 2 ^ 8 + 0xFFF * 2 ^ 12
    detail := spadAddr c (64 * atom) }

/-- Whether an increment comes from another crown over the edge of crown `c` (R27). -/
def crossesEdge (x : Increment) (c : Nat) : Bool :=
  match x.src with
  | .core q => q.val / 64 != x.dst / 64 && (q.val / 64 == c || x.dst / 64 == c)
  | _ => false

/-- Whether the edges that an increment crosses still work (R27, R37). -/
def incrementPath (s : State) (x : Increment) : Bool :=
  (List.range 4).all fun c => !crossesEdge x c || s.domainWorks (domEdge c)

end Sys2Proof.Machine
end

