-- ==== Sys2Proof/Machine/Codec.lean ====
section
/-! DEFINITION. Fulling: the fixed-rate encoder (R357) and the exact mode's streams (R362 to R369). -/
namespace Sys2Proof.Machine

/-! ### The fixed-rate encoder (R357) -/

/-- A block of at most 32 FP32 values encoded: exponent byte, codes, and whether it counts as non-finite or as
saturated. -/
structure FullBlock where
  x : Nat
  codes : List Nat
  nonfin : Bool := false
  sat : Bool := false
  deriving DecidableEq, Repr

/-- cmax of a fulling format (R357). -/
def fullMax : Nat → Nat
  | 0x10 => 7
  | 0x11 => 31
  | _ => 127

/-- R357: one block; `rs` gives each element's rounding. -/
def fullEncode (f : Nat) (rs : Nat → Rounding) (xs : List Num) : FullBlock :=
  let zero := xs.map fun _ => 0
  if xs.any (fun x => match x with | .fin _ _ _ _ => false | _ => true) then
    { x := 0xFF, codes := zero, nonfin := true }
  else
    let logs := xs.filterMap fun x => match x with
      | .fin _ n d e => if n = 0 then none else some (ratLog2 n d e)
      | _ => none
    match logs with
    | [] => { x := 0, codes := zero }
    | l :: ls =>
      let e := ls.foldl max l
      if e > 105 then { x := 0xFF, codes := zero, sat := true }
      else
        { x := (e + 149).toNat
          codes := (List.range xs.length).map fun i =>
            match xs.getD i .nan with
            | .fin neg n d ex =>
              let q := scaleTo n d ex (e - (fullK f : Int))
              let m := min (fullMax f) (roundQuot (rs i) q.1 q.2)
              if neg then (2 ^ elemBits f - m) % 2 ^ elemBits f else m
            | _ => 0 }

/-! ### Bit streams of the exact mode -/

/-- Bits of bytes, bit 0 of byte 0 first. -/
def bitsOfBytes (bs : List Byte) : List Bool := bs.flatMap fun b => (List.range 8).map fun i => b.toNat.testBit i

/-- Bytes of bits, bit 0 of byte 0 first, padded with zeros; `n` bounds the number of bytes. -/
def bytesOfBits : Nat → List Bool → List Byte
  | 0, _ => []
  | n + 1, bits =>
    if bits = [] then [] else
      BitVec.ofNat 8 ((bits.take 8).foldr (fun b v => 2 * v + (if b then 1 else 0)) 0) :: bytesOfBits n (bits.drop 8)

/-- A value's `n` bits, least significant first. -/
def bitsLsb (n v : Nat) : List Bool := (List.range n).map fun i => v.testBit i
/-- A value's `n` bits, most significant first. -/
def bitsMsb (n v : Nat) : List Bool := (bitsLsb n v).reverse
/-- The value of bits, least significant first. -/
def natOfBits (bits : List Bool) : Nat := bits.foldr (fun b v => 2 * v + (if b then 1 else 0)) 0

/-- Element class of R365: class number, element bits w, low bit and width x of the exponent field. -/
structure ExactClass where
  cls : Nat
  w : Nat
  lo : Nat
  x : Nat
  deriving DecidableEq, Repr

/-- The class of a format and layout (R365). -/
def exactClass (f l : Nat) : ExactClass :=
  if 2 ≤ l then ⟨0, 8, 0, 8⟩ else
    match f with
    | 0x01 => ⟨3, 32, 23, 8⟩
    | 0x02 => ⟨2, 16, 7, 8⟩
    | 0x03 => ⟨2, 16, 10, 5⟩
    | 0x04 => ⟨1, 8, 3, 4⟩
    | 0x05 => ⟨1, 8, 2, 5⟩
    | _ => ⟨0, 8, 0, 8⟩

/-- The canonical codes of R366: for each entry 0 to 16 its length and code. -/
def canonicalCodes (lengths : List Nat) : List (Nat × Nat) :=
  let count := fun len => (lengths.filter (· == len)).length
  -- the first code of a length
  let first := fun len => (List.range len).foldl (fun code l => if l = 0 then code else (code + count l) * 2) 0
  (List.range 17).map fun j =>
    let len := lengths.getD j 0
    if len = 0 then (0, 0)
    else (len, first len + ((lengths.take j).filter (· == len)).length)

/-- Whether lengths and palette keep R366: Kraft's sum at most 1, an entry used, palette symbols below 2^x. -/
def lengthsOk (cl : ExactClass) (palette lengths : List Nat) : Bool :=
  let used := lengths.filter (· != 0)
  lengths.all (fun l => decide (l ≤ 12)) && used != [] &&
    decide ((used.map fun l => 2 ^ (12 - l)).foldl (· + ·) 0 ≤ 2 ^ 12) &&
    (List.range 16).all fun j => lengths.getD j 0 == 0 || decide (palette.getD j 0 < 2 ^ cl.x)

/-- Elements of a block as numbers of w bits. -/
def blockElems (cl : ExactClass) (bs : List Byte) : List Nat := unpackCodes cl.w bs 0 0

/-- Bits of an element outside its exponent field, from the least significant upwards (R365). -/
def restBits (cl : ExactClass) (v : Nat) : List Bool :=
  bitsLsb cl.lo v ++ bitsLsb (cl.w - cl.lo - cl.x) (v >>> (cl.lo + cl.x))

/-- The symbol of an element. -/
def exactSymbol (cl : ExactClass) (v : Nat) : Nat := (v >>> cl.lo) % 2 ^ cl.x

/-- The coded bits of one symbol: a palette entry's code, or the escape and the symbol's bits (R366). -/
def symbolBits (cl : ExactClass) (palette : List Nat) (codes : List (Nat × Nat)) (sym : Nat) : List Bool :=
  match (List.range 16).find? fun j => (codes.getD j (0, 0)).1 != 0 && palette.getD j 0 == sym with
  | some j => let c := codes.getD j (0, 0); bitsMsb c.1 c.2
  | none => let c := codes.getD 16 (0, 0); bitsMsb c.1 c.2 ++ bitsLsb cl.x sym

/-- Whether every symbol of a block can be coded. -/
def codable (palette : List Nat) (codes : List (Nat × Nat)) (syms : List Nat) : Bool :=
  (codes.getD 16 (0, 0)).1 != 0 || syms.all fun s =>
    (List.range 16).any fun j => (codes.getD j (0, 0)).1 != 0 && palette.getD j 0 == s

/-- A block encoded in the codec's form (R364, R367). The palette and lengths are the codec's free choice; a choice
that breaks R366, or cannot code the block, stores the block (log entry 10). -/
def encodeBlock (cl : ExactClass) (bs : List Byte) : List Byte :=
  if bs.all (· == 0) then [0x00#8] else
    let ch := Config.codecChoice bs
    let palette := (List.range 16).map fun j => ch.1.getD j 0 % 256
    let lengths := (List.range 17).map fun j => ch.2.getD j 0
    let codes := canonicalCodes lengths
    let elems := blockElems cl bs
    let syms := elems.map (exactSymbol cl)
    let stored := natLe 64 1 ++ bs
    if lengthsOk cl palette lengths && codable palette codes syms then
      let cbits := syms.flatMap (symbolBits cl palette codes)
      let coded := bytesOfBits (ceilDiv cbits.length 8) cbits
      let rbits := elems.flatMap (restBits cl)
      let rest := bytesOfBits (ceilDiv rbits.length 8) rbits
      let lenField := (List.range 17).foldl (fun v j => v + lengths.getD j 0 * 2 ^ (4 * j)) 0
      let palField := (List.range 16).foldl (fun v j => v + palette.getD j 0 * 2 ^ (8 * j)) 0
      let hdr := 2 + cl.cls * 2 ^ 8 + elems.length * 2 ^ 31 + coded.length * 2 ^ 44 + rest.length * 2 ^ 60 +
        palField * 2 ^ 76 + lenField * 2 ^ 204
      let out := natLe 64 hdr ++ coded ++ rest
      if out.length < stored.length then out else stored
    else stored

/-- Chunks of 4,096 bytes. -/
def chunks4k : Nat → List Byte → List (List Byte)
  | 0, _ => []
  | n + 1, bs => if bs = [] then [] else bs.take 4096 :: chunks4k n (bs.drop 4096)

/-- The offsets of blocks from the first one. -/
def blockOffsets : Nat → List (List Byte) → List Nat
  | _, [] => []
  | o, b :: bs => o :: blockOffsets (o + b.length) bs

/-- The exact stream of a tile (R362, R363, R367). -/
def exactEncode (t : Tile) : List Byte :=
  let cl := exactClass (hFormat t.header) (hLayout t.header)
  let blocks := (chunks4k (t.payload.length / 4096 + 1) t.payload).map (encodeBlock cl)
  let out := hdrBytes t.header ++ (blockOffsets 0 blocks).flatMap (natLe 4) ++ blocks.flatten
  if out.length < 64 + t.payload.length + 4 then out
  else hdrBytes t.header ++ natLe 4 0xFFFFFFFF ++ t.payload

/-- How a stream's blocks were written: zero, stored, coded; or plain (R372). -/
def exactForms (t : Tile) : Bool × List Nat :=
  let cl := exactClass (hFormat t.header) (hLayout t.header)
  let blocks := (chunks4k (t.payload.length / 4096 + 1) t.payload).map (encodeBlock cl)
  let len := 64 + 4 * blocks.length + blocks.flatten.length
  (decide (64 + t.payload.length + 4 ≤ len), blocks.map fun b => (b.getD 0 0).toNat)

/-- One code read, most significant bit first: the entry and the bits left; `n` is the bits read so far. -/
def readCode (codes : List (Nat × Nat)) : Nat → Nat → Nat → List Bool → Option (Nat × List Bool)
  | 0, _, _, _ => none
  | _ + 1, _, _, [] => none
  | fuel + 1, n, v, b :: bs =>
    let v := 2 * v + (if b then 1 else 0)
    match (List.range 17).find? fun j => codes.getD j (0, 0) == (n + 1, v) with
    | some j => some (j, bs)
    | none => readCode codes fuel (n + 1) v bs

/-- Symbols of a coded exponent plane, with the bits left over (R366). -/
def readSymbols (cl : ExactClass) (palette : List Nat) (codes : List (Nat × Nat)) :
    Nat → List Bool → Option (List Nat × List Bool)
  | 0, bits => some ([], bits)
  | n + 1, bits =>
    match readCode codes 12 0 0 bits with
    | none => none
    | some (j, bits) =>
      if j < 16 then
        (readSymbols cl palette codes n bits).map fun r => (palette.getD j 0 :: r.1, r.2)
      else if bits.length < cl.x then none
      else (readSymbols cl palette codes n (bits.drop cl.x)).map fun r => (natOfBits (bits.take cl.x) :: r.1, r.2)

/-- Elements from symbols and the rest plane's bits. -/
def joinElems (cl : ExactClass) : List Nat → List Bool → List Nat
  | [], _ => []
  | sym :: syms, bits =>
    let low := natOfBits (bits.take cl.lo)
    let hi := natOfBits ((bits.drop cl.lo).take (cl.w - cl.lo - cl.x))
    (low + sym * 2 ^ cl.lo + hi * 2 ^ (cl.lo + cl.x)) :: joinElems cl syms (bits.drop (cl.w - cl.x))

/-- A block of `n` payload bytes decoded; none when it is malformed (R364 to R366, R369). -/
def decodeBlock (cl : ExactClass) (n : Nat) (bs : List Byte) : Option (List Byte) :=
  let h := BitVec.ofNat 512 (leAt bs 0 64)
  match (bs.getD 0 0xFF#8).toNat with
  | 0x00 => if bs.length = 1 then some (List.replicate n 0) else none
  | 0x01 =>
    if bs.length = 64 + n ∧ getf h 8 504 = 0 then some (bs.drop 64) else none
  | 0x02 =>
    let coded := getf h 44 16
    let rest := getf h 60 16
    let palette := (List.range 16).map fun j => getf h (76 + 8 * j) 8
    let lengths := (List.range 17).map fun j => getf h (204 + 4 * j) 4
    let syms := getf h 31 13
    if bs.length ≠ 64 + coded + rest ∨ getf h 272 240 ≠ 0 ∨ getf h 10 21 ≠ 0 ∨ getf h 8 2 ≠ cl.cls ∨
        syms ≠ 8 * n / cl.w ∨ lengthsOk cl palette lengths = false ∨
        rest ≠ ceilDiv (syms * (cl.w - cl.x)) 8 then none
    else
      match readSymbols cl palette (canonicalCodes lengths) syms (bitsOfBytes ((bs.drop 64).take coded)) with
      | none => none
      | some (ss, left) =>
        let rbits := bitsOfBytes (bs.drop (64 + coded))
        let spare := rbits.drop (syms * (cl.w - cl.x))
        if decide (8 ≤ left.length) || left.any id || spare.any id then none
        else some ((packCodes cl.w (joinElems cl ss rbits) 0 0).take n)
  | _ => none

/-- Blocks decoded one after another, each as long as the next offset says. -/
def decodeBlocks (cl : ExactClass) : List (Nat × Nat × Nat) → List Byte → Option (List Byte)
  | [], _ => some []
  | (off, len, n) :: r, bs =>
    match decodeBlock cl n ((bs.drop off).take len), decodeBlocks cl r bs with
    | some a, some b => some (a ++ b)
    | _, _ => none

/-- What the size of a block is from its first bytes: its tag and the sizes of its planes (R364). -/
def blockSize (n : Nat) (bs : List Byte) : Nat :=
  let h := BitVec.ofNat 512 (leAt bs 0 64)
  match (bs.getD 0 0xFF#8).toNat with
  | 0x00 => 1
  | 0x01 => 64 + n
  | _ => 64 + getf h 44 16 + getf h 60 16

/-- An exact stream decoded into its tile (R362 to R369): none when malformed. Bytes past the stream's end are not
looked at; the inner checksum is the caller's check. -/
def exactDecode (bs : List Byte) : Option Tile :=
  let hd := hdrOfBytes bs
  let p := 256 * (hGranules hd + 1)
  if bs.length < 68 || !headerOk hd p then none
  else if leAt bs 64 4 = 0xFFFFFFFF then
    if bs.length < 68 + p then none else some { header := hd, payload := (bs.drop 68).take p }
  else
    let n := ceilDiv p 4096
    let body := bs.drop (64 + 4 * n)
    let size := fun i => if i + 1 < n then 4096 else p - 4096 * (n - 1)
    let offs := (List.range n).map fun i => leAt bs (64 + 4 * i) 4
    let lens := (List.range n).map fun i => blockSize (size i) (body.drop (offs.getD i 0))
    let good := (List.range n).all fun i =>
      offs.getD i 0 == (lens.take i).foldl (· + ·) 0
    if bs.length < 64 + 4 * n || !good then none
    else
      (decodeBlocks (exactClass (hFormat hd) (hLayout hd))
        ((List.range n).map fun i => (offs.getD i 0, lens.getD i 0, size i)) body).map
        fun pl => { header := hd, payload := pl }

/-- The memory image of a tile in exact form, format 0x13 (R368); the producer fields name the STORE's core. -/
def exactImage (s : State) (c : Nat) (t : Tile) : Tile :=
  let st := exactEncode t
  let hd : Hdr := setf (setf (setf 0 0 8 0x13) 14 1 1) 16 16 1
  let hd := setf hd 32 16 (ceilDiv st.length 64)
  sealTile (producedHeader s c 3 hd) (sliceBytes st 0 (256 * ceilDiv st.length 256))

/-- Payload bytes that an image's header announces, format 0x13 by its COLS (R41, R368). -/
def imagePayload (h : Hdr) : Nat :=
  if hFormat h = 0x13 then 256 * ceilDiv (hCols h) 4 else 256 * (hGranules h + 1)

/-- Whether the outer header of a 0x13 image is well-formed: what R43 and R7 ask of it, seen at issue. -/
def exactOuterOk (h : Hdr) : Bool :=
  hFormat h == 0x13 && hLayout h == 0 && hCompressed h && !hSparse h && hScaleKind h == 0 &&
    decide (1 ≤ hRows h) && decide (1 ≤ hCols h) &&
    getf h 56 8 == 0 && getf h 78 2 == 0 && getf h 112 16 == 0 && getf h 188 4 == 0 && getf h 220 260 == 0

/-- Whether the other fields of the outer header are as R368 gives them, seen once its checksum holds (R369). -/
def exactOuterFields (h : Hdr) : Bool := hRows h == 1 && hGranules h == 0 && hScaleHandle h == 0

/-- Blocks of an exact stream that occupy lanes: none of a PLAIN one (R362, R370). -/
def laneBlocks (bs : List Byte) : Nat :=
  if leAt bs 64 4 = 0xFFFFFFFF then 0 else ceilDiv (256 * (hGranules (hdrOfBytes bs) + 1)) 4096

/-! ### Lanes (R370) -/

/-- The next client to serve: from the one after `last` on, in the order P0 to P31 and then the memory client, the first
with a block waiting and fewer than four lanes. -/
def nextClient (jobs : List CodecJob) (encoder : Bool) (last : Nat) : Option Nat :=
  let mine := jobs.filter fun j => j.encoder == encoder
  ((List.range 33).map fun i => (last + 1 + i) % 33).find? fun c =>
    mine.any (fun j => j.client == c && j.lane.isNone) &&
      decide ((mine.filter fun j => j.client == c && j.lane.isSome).length < 4)

/-- The oldest waiting block of a client put into a lane. -/
def placeBlock (encoder : Bool) (client lane : Nat) : List CodecJob → List CodecJob
  | [] => []
  | j :: js =>
    if j.encoder == encoder && j.client == client && j.lane.isNone then { j with lane := some lane } :: js
    else j :: placeBlock encoder client lane js

/-- Free lanes granted to waiting blocks (R370), for at most `n` blocks. -/
def grantLanes : Nat → Bool → State → State
  | 0, _, s => s
  | n + 1, enc, s =>
    let used := (s.codec.filter fun j => j.encoder == enc).filterMap (·.lane)
    match (List.range 128).find? fun l => !used.contains l with
    | none => s
    | some l =>
      let last := if enc then s.codecLast.2 else s.codecLast.1
      match nextClient s.codec enc last with
      | none => s
      | some c =>
        let s := { s with codec := placeBlock enc c l s.codec
                          codecLast := if enc then (s.codecLast.1, c) else (c, s.codecLast.2) }
        grantLanes n enc s

/-- Blocks given to the codec; lanes that are free are granted at once (R370). -/
def State.addBlocks (s : State) (enc : Bool) (client token : Nat) (landing : Option (Nat × Nat × Nat × Nat)) (n : Nat) :
    State :=
  let j : CodecJob := { encoder := enc, client := client, token := token, landing := landing }
  grantLanes 128 enc { s with codec := s.codec ++ List.replicate n j }

/-- A lane's block done: the block leaves, and the lane goes to the next client (R370). -/
def State.blockDone (s : State) (enc : Bool) (lane : Nat) : State :=
  grantLanes 128 enc { s with codec := s.codec.filter fun j => !(j.encoder == enc && j.lane == some lane) }

/-- Whether the codec takes work: its domain ON (R437). -/
def State.codecOn (s : State) : Bool := s.domain domCodec == 1

/-- Whether an instruction still has requests outstanding or blocks at the codec. -/
def State.insnBusy (s : State) (token : Nat) : Bool :=
  s.tokenBusy token || s.codec.any fun j => j.landing.isNone && j.token == token

/-- A counter of the codec (R372). -/
def codecKey (sub : Nat) : Key := ⟨0x8015, sub, 0⟩

/-- The counters of one stream encoded (R372). -/
def countEncoded (s : State) (t : Tile) (streamBytes : Nat) : State :=
  let f := exactForms t
  let s := ((s.bump (codecKey 1) 1).bump (codecKey 2) (64 + t.payload.length)).bump (codecKey 3) streamBytes
  if f.1 then s.bump (codecKey 4) 1
  else
    let n := fun tag => (f.2.filter (· == tag)).length
    ((s.bump (codecKey 5) (n 0)).bump (codecKey 6) (n 1)).bump (codecKey 7) (n 2)

end Sys2Proof.Machine
end

