-- ==== Sys2Proof/Machine/Stations.lean ====
section
/-! DEFINITION. What every station shares: the fields of instruction words (R63), the handles each opcode names, the
checks at the head of a queue (R63, R74), the issue rule (R60, R56) and refusals (R74, R97, R125, R427). -/
namespace Sys2Proof.Machine

/-! ### Instruction words (R63) -/

def iOpcode (w : QWord) : Nat := getf w 120 8
def iStation (w : QWord) : Nat := getf w 116 4
def iH0 (w : QWord) : Nat := getf w 104 12
def iH1 (w : QWord) : Nat := getf w 92 12
def iH2 (w : QWord) : Nat := getf w 80 12
def iH3 (w : QWord) : Nat := getf w 68 12
def iSignals (w : QWord) : Bool := bitf w 67
def iRelease (w : QWord) : Nat := getf w 64 3
def iSem (w : QWord) : Nat := getf w 56 8
def iOperands (w : QWord) : Nat := getf w 0 56
/-- An operand field of the first word. -/
def iField (w : QWord) (lo len : Nat) : Nat := getf w lo len

/-- Bank B is named: `MMA.ACC_BANK`, `EPI.ACC_BANK` and `VOP.ACC_BANK` stand at one place (R84, R96, R107, R113). -/
def iBankB (w : QWord) : Bool := bitf w 55
/-- RELEASE_BANK of a VEC instruction (R96). -/
def iReleaseBank (w : QWord) : Bool := bitf w 53
/-- `MMA.CLOSE` (R84). -/
def iClose (w : QWord) : Bool := bitf w 52
/-- Whether an opcode is a MAT operation (R83). -/
def isMma (op : Nat) : Bool := (decide (0xA0 ≤ op) && decide (op ≤ 0xA8)) || op == 0xB0 || op == 0xB1
/-- Whether an opcode is in the VEC range 0x40 to 0x9F (R147). -/
def isVecRange (op : Nat) : Bool := decide (0x40 ≤ op) && decide (op ≤ 0x9F)

/-- The input handle fields (1 to 3) that an opcode names, whether it has an output H0, its words and its home
station; none for a reserved opcode. -/
structure Form where
  ins : List Nat
  out : Bool
  words : Nat
  station : Nat
  deriving DecidableEq, Repr

/-- `VOP.ACC_USE` (R113). -/
def vAccUse (w : QWord) : Nat := iField w 51 2
/-- `VOP.OUT_FORMAT` (R113). -/
def vOutFormat (w : QWord) : Nat := iField w 43 8
/-- `VOP.FUNC` (R113). -/
def vFunc (w : QWord) : Nat := iField w 0 15

/-- The form of a VEC opcode with a bank: the bank replaces input `b`, and takes the output with ACC_USE 2. -/
def bankForm (w : QWord) (ins : List Nat) (b : Nat) : Form :=
  { ins := if vAccUse w = 0 then ins else ins.filter (· != b), out := vAccUse w != 2, words := 1, station := 2 }

/-- The forms of R64, R65, R70, R84, R107, R118, R153, R188, R227. -/
def insnForm (w : QWord) : Option Form :=
  match iOpcode w with
  | 0x10 => some ⟨[], true, 1, 0⟩
  | 0x11 => some ⟨[], true, 2, 0⟩
  | 0x18 => some ⟨[1], false, 1, 3⟩
  | 0x19 => some ⟨[1], false, 2, 3⟩
  | 0x20 => some ⟨[1], false, 1, 4⟩
  | 0x28 => some ⟨[], true, 1, 5⟩
  | 0x30 => some ⟨[], false, 1, 6⟩
  | 0x31 => some ⟨[], false, 2, 6⟩
  | 0x32 => some ⟨[], false, 1, 6⟩
  | 0x33 => some ⟨[], false, 1, 6⟩
  | 0x3E => some ⟨[], false, 1, 6⟩
  | 0x3F => some ⟨[], false, 1, 6⟩
  | 0x40 =>
    let f := iField w 38 8
    some ⟨(if iField w 51 2 = 0 then [] else [1]) ++ (if iField w 49 2 = 0 then [] else [2]) ++
      (if isFp8 f then [3] else []), true, 1, 2⟩
  | 0x41 => some (bankForm w [1, 2] 1)
  | 0x42 => some (bankForm w [1, 2] 1)
  | 0x43 => some (bankForm w [1, 2] 1)
  | 0x44 => some (bankForm w [1, 2, 3] 1)
  | 0x45 => some (bankForm w [1, 2] 1)
  | 0x46 => some (bankForm w [1, 2] 1)
  | 0x47 => some (bankForm w [1, 2] 1)
  | 0x48 => some (bankForm w [1, 2, 3] 2)
  | 0x49 => some (bankForm w [1] 1)
  | 0x50 => some (bankForm w [1, 2] 1)
  | 0x51 => some (bankForm w (if vFunc w % 4 = 0 then [1, 2] else [1]) 1)
  | 0x58 => some (bankForm w (if vFunc w % 4 = 0 && isFp8 (vOutFormat w) then [1, 3] else [1]) 1)
  | 0x59 => some ⟨[1], true, 1, 2⟩
  | 0x60 => some (bankForm w [1] 1)
  | 0x61 => some (bankForm w [1] 1)
  | 0x62 => some ⟨[1], true, 1, 2⟩
  | 0x63 => some ⟨[1, 2], true, 1, 2⟩
  | 0x68 => some { bankForm w [1] 1 with out := false }
  | 0x69 => some (bankForm w (if iH2 w = 0 then [1] else [1, 2]) 1)
  | 0x70 => some ⟨[1], true, 1, 2⟩
  | 0x78 => some ⟨[1, 2, 3], true, 1, 2⟩
  | 0x80 => some ⟨[1, 2, 3], true, 1, 2⟩
  | op => if isMma op then some ⟨[1, 2], false, 1, 1⟩ else none

/-- The operand bits of the first word that an opcode leaves reserved (R63 to R66, R70, R84, R107, R113, R118, R153,
R179, R188, R227 to R231); the second word's are checked beside them. STOCHASTIC is used where an opcode converts (R121),
POST and TAG where it posts (R118). -/
def operandMask (w : QWord) : Nat :=
  let vop := fun (funcBits : Nat) (bank sto : Bool) (outf : Bool) =>
    -- reserved bits of R113 for an opcode
    (if bank then 0 else 3 * 2 ^ 51) +
    (if bank && vAccUse w != 0 then 0 else (2 ^ 18 - 1) * 2 ^ 15) +
    (if sto then 0 else 2 ^ 42) + (if outf then 0 else 0xFF * 2 ^ 43) + (2 ^ 15 - 2 ^ funcBits)
  -- POST and TAG of an opcode that posts nothing (S = 0 in R118)
  let noPost := 2 ^ 41 + 0xFF * 2 ^ 33
  let silent := fun (funcBits : Nat) (bank sto : Bool) => vop funcBits bank sto true + noPost
  match iOpcode w with
  | 0x10 => 0x7F * 2 ^ 48
  | 0x11 => 0x7F * 2 ^ 48
  | 0x18 => 0x3F * 2 ^ 48
  | 0x19 => 0x7F * 2 ^ 48
  | 0x20 => 2 ^ 11 - 1
  | 0x28 => 2 ^ 12 - 1
  | 0x30 => 0xFF * 2 ^ 32
  | 0x31 => 0xFF * 2 ^ 16
  | 0x32 => 2 ^ 38 - 1
  | 0x33 => (2 ^ 24 - 1) * 2 ^ 32
  | 0x3E => 0xFFF * 2 ^ 32
  | 0x3F => 31 * 2 ^ 51
  | 0x40 => 2 ^ 19 - 1
  | 0x41 => silent 0 true true
  | 0x42 => silent 0 true true
  | 0x43 => silent 0 true true
  | 0x44 => silent 0 true true
  | 0x45 => silent 0 true true
  | 0x46 => silent 0 true true
  | 0x47 => silent 3 true false
  | 0x48 => silent 0 true true
  | 0x49 => silent 4 true true
  | 0x50 => silent 0 true true
  | 0x51 => silent 6 true true
  | 0x58 => silent (if vFunc w % 4 = 2 then 8 else 2) true (vFunc w % 4 != 2)
  | 0x59 => silent (if vFunc w % 4 = 2 then 9 else 2) false (vFunc w % 4 != 2)
  | 0x60 => vop 3 true false true
  | 0x61 => vop 11 true false true
  | 0x62 => vop 15 false false true
  | 0x63 => vop 15 false false true
  | 0x68 => vop 2 true false false
  | 0x69 => vop 0 true false true
  | 0x70 => silent 1 false false
  | 0x78 => silent 0 false true
  | 0x80 => silent 15 false false
  | op =>
    if op = 0xB0 || op = 0xB1 then 0
    else if isMma op then 2 ^ 17 - 1 else 0

/-- The handle in field 1, 2 or 3. -/
def handleField (w : QWord) (i : Nat) : Nat := if i = 1 then iH1 w else if i = 2 then iH2 w else iH3 w

/-- Whether reserved parts of the common fields are zero for a form: handles it does not use, releases of inputs it does
not have (R63). -/
def commonOk (w : QWord) (f : Form) : Bool :=
  (f.out || iH0 w == 0) &&
  [1, 2, 3].all fun i => f.ins.contains i || (handleField w i == 0 && !(iRelease w).testBit (i - 1))

/-- The number of words an instruction stands in. -/
def wordCount (i : StationInsn) : Nat := if i.w1.isSome then 2 else 1

/-- Bytes of one row of a raw transfer (R66). -/
def rowBytes (f cols : Nat) : Nat := ceilDiv (cols * elemBits f) 8

/-- The address and second-word checks of LOAD and STORE at the head of the queue (R65, R66, R74). The pitch of
STORE.RAW is compared with the row of its input tile once that is PRESENT and not poisoned. -/
def moverHeadOk (k : Core) (i : StationInsn) : Bool :=
  let a := iField i.w0 0 48
  let w1 := i.w1.getD 0
  match iOpcode i.w0 with
  | 0x10 => a % 64 == 0
  | 0x18 => a % 64 == 0
  | 0x11 =>
    let pitch := getf w1 48 32
    a % 16 == 0 && getf w1 112 4 == 0 && getf w1 0 48 == 0 && pitch % 16 == 0 &&
      decide (rowBytes (getf w1 120 8) (getf w1 80 16) ≤ pitch)
  | 0x19 =>
    let pitch := getf w1 48 32
    let h := readHeader k (iH1 i.w0)
    let known := (k.tte (iH1 i.w0)).state == .present && !hPoison h
    a % 16 == 0 && getf w1 80 48 == 0 && getf w1 0 48 == 0 && pitch % 16 == 0 &&
      (!known || decide (rowBytes (hFormat h) (if bitf i.w0 55 then hRows h else hCols h) ≤ pitch))
  | _ => true

/-- Bank rows of a MAT shape (R89). -/
def mmaBankRows (op : Nat) : Nat := if op = 0xA1 then 512 else if op = 0xA8 || op = 0xB0 || op = 0xB1 then 128 else 256

/-- Codes of single fields that are reserved in an opcode (R84, R107, R110, R113, R118, R119, R153, R229). -/
def codesOk (i : StationInsn) : Bool :=
  let w := i.w0
  let op := iOpcode w
  if isMma op then
    decide (iField w 53 2 ≤ 1) && decide (iField w 42 9 + iField w 33 9 + 1 ≤ mmaBankRows op)
  else if op = 0x40 then decide (iField w 51 2 ≤ 2) && decide (iField w 49 2 ≤ 2) && decide (iField w 46 3 ≤ 3)
  else if op = 0x80 then true
  else if isVecRange op then vAccUse w != 3
  else if op = 0x31 then getf (i.w1.getD 0) 0 76 == 0
  else if op = 0x3F then decide (iField w 48 2 ≤ 1)
  else true

/-- The whole check of an instruction at the head of station `st`'s queue, handles apart (R63, R74, R110). -/
def headOk (k : Core) (st : Nat) (i : StationInsn) : Bool :=
  match insnForm i.w0 with
  | none => false
  | some f =>
    iStation i.w0 == st && f.station == st && wordCount i == f.words && commonOk i.w0 f &&
      (iOperands i.w0 &&& operandMask i.w0) == 0 && codesOk i && moverHeadOk k i

/-- Input handles of an instruction, without repeats, each with whether it is released. -/
def inputHandles (w : QWord) (f : Form) : List (Nat × Bool) :=
  let hs := f.ins.map fun i => (handleField w i, (iRelease w).testBit (i - 1))
  hs.foldl (fun acc h =>
    if acc.any (·.1 == h.1) then acc.map fun e => if e.1 = h.1 then (e.1, e.2 || h.2) else e
    else acc ++ [h]) []

/-- Inputs whose scale fields an instruction examines: SCATTER WRITE leaves H1's alone (R180). -/
def scaledInputs (w : QWord) (hs : List Nat) : List Nat :=
  if iOpcode w = 0x80 && !bitf w 0 then hs.filter fun h => h != iH1 w || h == iH2 w || h == iH3 w else hs

/-- Scale tiles that PRESENT, unpoisoned inputs name (R51), without those that are inputs already. -/
def scaleHandles (k : Core) (w : QWord) (hs : List Nat) : List Nat :=
  (scaledInputs w hs).foldl (fun acc h =>
    let hd := readHeader k h
    if (k.tte h).bound && inputPresent k h && !hPoison hd && decide (2 ≤ hScaleKind hd) &&
        !hs.contains (hScaleHandle hd) && !acc.contains (hScaleHandle hd)
    then acc ++ [hScaleHandle hd] else acc) []

/-- The first unbound handle that an instruction names (R60). -/
def unboundHandle (k : Core) (w : QWord) (f : Form) : Option Nat :=
  let hs := (inputHandles w f).map (·.1)
  (hs ++ (if f.out then [iH0 w] else []) ++ scaleHandles k w hs).find? fun h => !(k.tte h).bound

/-! ### Banks and summaries at the queue (R94 to R97, R124, R125) -/

/-- An accumulator bank of a core. -/
def Core.bank (k : Core) (b : Bool) : AccBank := if b then k.accB else k.accA
/-- An accumulator bank replaced. -/
def Core.setBank (k : Core) (b : Bool) (x : AccBank) : Core := if b then { k with accB := x } else { k with accA := x }

/-- MAT operations in flight on a bank. -/
def matOnBank (k : Core) (b : Bool) : Nat :=
  ((k.flight 1).filter fun x => isMma (iOpcode x.insn.w0) && iBankB x.insn.w0 == b).length

/-- Whether a VEC instruction touches a bank (R96, R113). -/
def vecTouches (w : QWord) : Bool :=
  let op := iOpcode w
  isVecRange op && (op == 0x40 || iReleaseBank w || (vAccUse w != 0 && op != 0x80))

/-- Whether a VEC instruction writes its bank (R115). -/
def vecWrites (w : QWord) : Bool := isVecRange (iOpcode w) && iOpcode w != 0x40 && iOpcode w != 0x80 && vAccUse w == 2

/-- VEC instructions in flight that meet a test on a bank. -/
def vecOnBank (k : Core) (b : Bool) (p : QWord → Bool) : Bool :=
  (k.flight 2).any fun x => vecTouches x.insn.w0 && iBankB x.insn.w0 == b && p x.insn.w0

/-- Summaries that a VEC instruction posts (R118, R125). -/
def postCount (w : QWord) : Nat :=
  if !bitf w 41 then 0 else
    match iOpcode w with
    | 0x60 => 1
    | 0x61 => 1
    | 0x62 => vFunc w % 16 + 1
    | 0x63 => 1
    | 0x68 => 1
    | 0x69 => 1
    | _ => 0

/-- The kind of an opcode's summaries (R123). -/
def postKind (w : QWord) : Nat :=
  match iOpcode w with
  | 0x61 => 1
  | 0x62 => 2
  | 0x63 => 3
  | 0x68 => 4 + vFunc w % 4
  | 0x69 => 8
  | _ => 0

/-- Summary entries from values, tagged from `VOP.TAG` on, modulo 256. -/
def summariesOf (w : QWord) (poison : Bool) (vs : List Word) : List Summary :=
  (List.range vs.length).map fun i =>
    { value := vs.getD i 0, tag := BitVec.ofNat 8 (iField w 33 8 + i), kind := BitVec.ofNat 4 (postKind w), poison := poison }

/-- The poisoned entries of a withdrawn instruction (R125). -/
def poisonPosts (w : QWord) : List Summary := summariesOf w true (List.replicate (postCount w) 0)

/-- Entries of the summary queue that are reserved by instructions in flight (R124). -/
def summariesReserved (k : Core) : Nat := ((k.flight 2).map fun x => x.posts.length).foldl (· + ·) 0

/-- Whether the summary queue has room for `n` more entries (R124). -/
def summaryRoom (k : Core) (n : Nat) : Bool := decide (k.summaries.length + summariesReserved k + n ≤ 16)

/-- RELEASE_BANK at a completion (R94, R97): the bank becomes FREE from CLOSED, or from OPEN with no MAT on it. -/
def releaseBank (k : Core) (b : Bool) : Core :=
  let x := k.bank b
  if x.state = .closed || (x.state = .opened && matOnBank k b == 0) then k.setBank b {} else k

/-- `MMA.CLOSE` at a completion (R94). -/
def closeBank (k : Core) (b : Bool) : Core :=
  let x := k.bank b
  if x.state = .opened then k.setBank b { x with state := .closed } else k

/-- What the completion of a word does to a bank (R94, R97). -/
def bankAtCompletion (k : Core) (w : QWord) : Core :=
  if isMma (iOpcode w) then (if iClose w then closeBank k (iBankB w) else k)
  else if vecTouches w && iReleaseBank w then releaseBank k (iBankB w)
  else k

/-- A MAT operation marks its bank poisoned, in whichever queue its word is refused (R97). A reserved opcode names no MAT
operation, also at the head of the MAT queue: it marks no bank (DESIGN CHOICE, log entry 52). -/
def poisonBank (k : Core) (w : QWord) : Core :=
  if isMma (iOpcode w) then k.setBank (iBankB w) { k.bank (iBankB w) with poison := true } else k

/-! ### The queue -/

/-- The queue's head taken; a VEC opcode that leaves the head advances seq (R147). -/
def popHead (k : Core) (st : Nat) : Core :=
  match k.queue st with
  | [] => k
  | i :: r =>
    let k := k.setQueue st r
    let k := { k with hung := false }
    if st = 2 && isVecRange (iOpcode i.w0) then { k with vecSeq := k.vecSeq + 1 } else k

/-- Whether a core's crown holds for the whole of the window: hold 16/16 (R415). At a lower hold the cores hold for a span of the
window that no command marks: issues stand outside it (log entry 59). -/
def State.holds (s : State) (c : Nat) : Bool := s.val ⟨0x2000, 0x0D, c / 64⟩ == 16

/-- Whether any core of a core's cluster has an instruction in flight. -/
def State.clusterFlies (s : State) (c : Nat) : Bool :=
  (List.range 8).any fun i => (List.range 7).any fun st => !((s.core (c / 8 * 8 + i)).flight st).isEmpty

/-- Whether a core's clock runs: its cluster domain is ON or draining, the module is not doffed, and no hold gates the cluster,
whose instructions in flight complete first (R415). -/
def State.clocked (s : State) (c : Nat) : Bool :=
  let d := s.domain (domCluster c)
  (d == 1 || d == 2) && (s.lifecycle == 3 || s.lifecycle == 4 || s.lifecycle == 5) && (!s.holds c || s.clusterFlies c)

/-- Whether a core's stations may issue: its clock runs, and it does not hold (R415). -/
def State.issues (s : State) (c : Nat) : Bool := s.clocked c && !s.holds c

/-- Whether a core is disabled: its CORE_ENABLE bit is clear, or its job stream is DRAINING or DISABLED (R437, R438). -/
def State.coreDisabled (s : State) (c : Nat) : Bool :=
  !(s.val ⟨0x5001, 1, 0⟩).testBit c ||
    (match s.jsOfCore c with | some j => s.val (keyJsState j) != 1 | none => false)

/-- The completion signal of R62. -/
def State.signalDone (s : State) (c : Nat) (w : QWord) : State :=
  if iSignals w then s.sendIncrement (.core (Fin.ofNat 256 c)) c (iSem w) 1 else s

/-- The output handles of an instruction that can take a poisoned tile now (R74). -/
def refusableOuts (k : Core) (w : QWord) : List Nat :=
  match insnForm w with
  | some f => if f.out && outputFree k (iH0 w) then [iH0 w] else []
  | none => []

/-- Poisoned entries of a refused VEC instruction (R125): posted behind those of the instructions still in flight, with the
youngest of them (R123). -/
def postRefused (k : Core) (w : QWord) : Core :=
  match (k.flight 2).reverse with
  | [] => { k with summaries := k.summaries ++ poisonPosts w }
  | f :: r => k.setFlight 2 (({ f with posts := f.posts ++ poisonPosts w } :: r).reverse)

/-- An instruction refused at the head of the queue (R74): popped; outputs that are free become PRESENT with the poisoned
tile; a MAT marks its bank; bank effects and the signal as usual; a posting VEC posts poisoned entries (R125). -/
def refuseHead (s : State) (c st : Nat) (i : StationInsn) : State :=
  let k := s.core c
  let outs := refusableOuts k i.w0
  let k1 := popHead k st
  let k2 := outs.foldl (fun k h => outputPresent k { handle := h, tile := poisonTile s c st h 0 0 }) k1
  let k3 := bankAtCompletion (poisonBank k2 i.w0) i.w0
  let k4 := if st = 2 then postRefused k3 i.w0 else k3
  (s.setCore c k4).signalDone c i.w0

/-- Instructions a station may have in flight (R59). -/
def stationLimit (st : Nat) : Nat := if st ≤ 3 then (if st = 0 || st = 3 then 4 else 2) else if st = 6 then 1 else 8

/-- Instructions in flight that count against the limit: for MAT, stationary banks held (R92). -/
def inFlightCount (k : Core) (st : Nat) : Nat :=
  if st = 1 then ((k.flight 1).map (·.holdsBanks)).foldl (· + ·) 0 else (k.flight st).length

/-- What an instruction that passed the common checks does. -/
inductive Issue where
  /-- it waits at the head -/
  | stall
  /-- refused at the head after all: fault code, handle, detail (R72 to R74) -/
  | refuse (code handle detail : Nat)
  /-- it issues with this record, on this state -/
  | go (f : InFlight) (s : State)

/-- The record put in flight: readers and releases count, outputs fill, the queue moves on (R56, R60); the station has
issued in the running cycle (R57). -/
def putInFlight (s : State) (c st : Nat) (i : StationInsn) (hs : List (Nat × Bool)) (scales : List Nat)
    (f : InFlight) : State :=
  let k := popHead ((s.core c).cycleFor st) st
  let k := { k with issued := k.issued ++ [st] }
  let k := hs.foldl (fun k h => readerIssues k h.1 h.2) k
  let k := scales.foldl (fun k h => readerIssues k h false) k
  let k := f.outs.foldl (fun k o => outputFills k o.handle) k
  let f := { f with insn := i, readers := hs.map (·.1) ++ scales }
  s.setCore c (k.setFlight st (k.flight st ++ [f]))

/-- Whether the head of a station's queue meets the conditions of R60 that all opcodes share, in the running cycle: its word,
its form, its inputs and its output. -/
def readyHead (s : State) (c st : Nat) : Option (StationInsn × Form) :=
  let k := s.core c
  match k.queue st with
  | [] => none
  | i :: _ =>
    match insnForm i.w0 with
    | none => none
    | some f =>
      let hs := (inputHandles i.w0 f).map (·.1)
      if !k.issued.contains st && !s.coreDisabled c && headOk k st i && (unboundHandle k i.w0 f).isNone &&
          decide (inFlightCount k st < stationLimit st) && (hs ++ scaleHandles k i.w0 hs).all (inputPresent k) &&
          (!f.out || outputFree k (iH0 i.w0)) then some (i, f)
      else none

/-- Whether a VEC instruction finds its bank as R96 and R115 ask. -/
def vecBankReady (k : Core) (w : QWord) : Bool :=
  let b := iBankB w
  let bk := k.bank b
  let openOk := bitf w 54 && bk.state == .opened && matOnBank k b == 0
  !vecTouches w || ((bk.state == .closed || openOk) && !vecOnBank k b vecWrites && !(vecWrites w && vecOnBank k b fun _ => true))

/-- Whether LOAD, or VEC for RECV, issues in the same cycle with an output that overlaps the one of handle `h`: the lower
station code goes first (R57). -/
def lowerClaims (s : State) (c st h : Nat) : Bool :=
  let k := s.core c
  [0, 2].any fun st' => decide (st' < st) &&
    match readyHead s c st' with
    | some (i, f) => f.out && extentsMeet (k.tte h) (k.tte (iH0 i.w0)) &&
        (st' != 2 || (vecBankReady k i.w0 && summaryRoom k (postCount i.w0)))
    | none => false

/-- The issue rule of R60 for one opcode of a station: refusals at the head, waits, and the instruction's own part
`body`, which is given the token of the record. -/
def issueStation (s : State) (c st op : Nat) (body : State → StationInsn → Nat → Issue) : State :=
  let k := s.core c
  match k.queue st with
  | [] => s
  | i :: _ =>
    if !s.issues c || iOpcode i.w0 != op then s
    else if st = 2 && (s.coreDisabled c || !headOk k st i) && !summaryRoom k (postCount i.w0) then s
    else if s.coreDisabled c then refuseHead s c st i
    else if !headOk k st i then refuseHead (s.coreFault 0x2001 c st 0xFFF 0) c st i
    else
      match insnForm i.w0 with
      | none => s
      | some f =>
        match unboundHandle k i.w0 f with
        | some h =>
          if st = 2 && !summaryRoom k (postCount i.w0) then s
          else refuseHead (s.coreFault 0x2002 c st h h) c st i
        | none =>
          let hs := inputHandles i.w0 f
          let scales := scaleHandles k i.w0 (hs.map (·.1))
          if decide (stationLimit st ≤ inFlightCount k st) ||
              !((hs.map (·.1)) ++ scales).all (inputPresent (k.cycleFor st)) ||
              !(!f.out || outputFree k (iH0 i.w0)) || (f.out && lowerClaims s c st (iH0 i.w0)) then s
          else
            match body s i s.nextToken with
            | .stall => s
            | .refuse code h d => refuseHead (s.coreFault code c st h d) c st i
            | .go fl s' => putInFlight { s' with nextToken := s.nextToken + 1 } c st i hs scales fl

/-- The record of an instruction refused at issue (R74): it completes WITHDRAWN with poisoned outputs; a MAT marks its
bank. -/
def refusedFlight (s : State) (c st : Nat) (i : StationInsn) (token : Nat) : InFlight :=
  { token := token, insn := i, withdrawn := true
    outs := (refusableOuts (s.core c) i.w0).map fun h => { handle := h, tile := poisonTile s c st h 0 0 }
    posts := poisonPosts i.w0 }

/-- A fault found at issue or at use: raised, and the instruction completes WITHDRAWN. -/
def withdrawnIssue (s : State) (c st : Nat) (i : StationInsn) (token code handle detail : Nat) : Issue :=
  let s1 := s.coreFault code c st handle detail
  .go (refusedFlight s c st i token) (s1.setCore c (poisonBank (s1.core c) i.w0))

/-- An instruction with a poisoned input that does not copy (R49): outputs poisoned, nothing computed. -/
def poisonedIssue (s : State) (c st : Nat) (i : StationInsn) (token handle : Nat) : Issue :=
  let s1 := s.poisonFault c st handle
  .go { refusedFlight s c st i token with withdrawn := false } (s1.setCore c (poisonBank (s1.core c) i.w0))

/-- The first input or scale tile that is poisoned: flagged (R49), or read across a poisoned atom of the scratchpad, whose
reader receives poison (R218, R219). -/
def poisonedInput (k : Core) (hs : List Nat) : Option Nat :=
  hs.find? fun h => hPoison (readHeader k h) || k.badAtoms.any (inTile k h)

/-- The first tile among handles that fails its checksum (R45). -/
def crcFailure (k : Core) (hs : List Nat) : Option Nat := hs.find? fun h => !tileCrcOk (readTile k h)

/-- Whether a scaled tile's scale tile is as R51 asks: FP32, layout 0, enough elements. -/
def scaleTileOk (k : Core) (h : Hdr) : Bool :=
  if hScaleKind h < 2 then true else
    let sh := readHeader k (hScaleHandle h)
    hPoison sh || (headerOk sh (256 * (hGranules sh + 1)) && hFormat sh == 0x01 && hLayout sh == 0 &&
      decide ((if hScaleKind h = 2 then hRows h else hCols h) ≤ hRows sh * hCols sh))

/-- The elements of a tile's scale tile, empty without one. -/
def scaleElems (k : Core) (h : Hdr) : List Word :=
  if hScaleKind h < 2 then [] else (tileNums (readTile k (hScaleHandle h))).map toF32

/-- The one-cycle instruction in flight of NOP and SIG. -/
def plainFlight (i : StationInsn) (token : Nat) : InFlight := { token := token, insn := i }

/-- NOP at the head of a queue (R64): reserved fields zero; it issues when the station has room. -/
def issueNop (s : State) (c st : Nat) : State :=
  let k := s.core c
  match k.queue st with
  | [] => s
  | i :: _ =>
    if !s.issues c || iOpcode i.w0 != 0 then s
    else if s.coreDisabled c then refuseHead s c st i
    else if iStation i.w0 != st || wordCount i != 1 || getf i.w0 68 48 != 0 || iRelease i.w0 != 0 || iOperands i.w0 != 0
    then refuseHead (s.coreFault 0x2001 c st 0xFFF 0) c st i
    else if stationLimit st ≤ inFlightCount k st then s
    else putInFlight { s with nextToken := s.nextToken + 1 } c st i [] [] (plainFlight i s.nextToken)

/-- WAIT (`sub` false) or WAITSUB at the head of a queue (R64, R224). -/
def passWait (s : State) (c st : Nat) (sub : Bool) : State :=
  let k := s.core c
  match k.queue st with
  | [] => s
  | i :: _ =>
    if !s.issues c || iOpcode i.w0 != (if sub then 2 else 1) then s
    else if s.coreDisabled c then refuseHead s c st i
    else if iStation i.w0 != st || wordCount i != 1 || getf i.w0 56 60 != 0 || iField i.w0 32 16 != 0
    then refuseHead (s.coreFault 0x2001 c st 0xFFF 0) c st i
    else
      let sem := iField i.w0 48 8
      let v := iField i.w0 0 32
      if (k.sem sem).toNat < v then s
      else
        let k := popHead k st
        s.setCore c (if sub then k.setSem sem (BitVec.ofNat 32 ((k.sem sem).toNat - v)) else k)

end Sys2Proof.Machine
end

