-- ==== Sys2Proof/Machine/Control.lean ====
section
/-! DEFINITION. The control core: control words (R127 to R131), PUSH (R132, R133), CTL_MALFORMED (R135), HINT.PHASE
(R408) and the mark of SUMCOUNT (R394). -/
namespace Sys2Proof.Machine

/-- `CTL.OPCODE` (R128). -/
def cOpcode (w : QWord) : Nat := getf w 120 8
/-- `CTL.RD`. -/
def cRd (w : QWord) : Nat := getf w 115 5
/-- `CTL.RA`. -/
def cRa (w : QWord) : Nat := getf w 110 5
/-- `CTL.RB`. -/
def cRb (w : QWord) : Nat := getf w 105 5
/-- `CTL.IMM`. -/
def cImm (w : QWord) : Nat := getf w 0 64

/-- The control opcodes of R129. -/
def ctlKnown (op : Nat) : Bool :=
  decide (op ≤ 0x02) || (decide (0x10 ≤ op) && decide (op ≤ 0x1A)) || (decide (0x20 ≤ op) && decide (op ≤ 0x27)) ||
    op == 0x30 || op == 0x31 || op == 0x38 || op == 0x40 || op == 0x48 || op == 0x49

/-- Whether the fields that an opcode does not use are zero (R128, R129, R135). -/
def ctlFieldsOk (w : QWord) : Bool :=
  let op := cOpcode w
  let ok := fun (rd ra rb : Bool) (imm : Nat) =>
    getf w 64 41 == 0 && (rd || cRd w == 0) && (ra || cRa w == 0) && (rb || cRb w == 0) &&
      (cImm w &&& (2 ^ 64 - 1 - imm)) == 0
  if op ≤ 0x01 then ok false false false 0
  else if op = 0x02 then ok false false false 0xFFF
  else if 0x10 ≤ op && op ≤ 0x1A then ok true true true (2 ^ 64 - 1)
  else if 0x20 ≤ op && op ≤ 0x25 then ok false true true 0x7FF
  else if op = 0x26 then ok false false false 0x7FF
  else if op = 0x27 then ok false true false 0x7FF
  else if op = 0x30 then ok true true false 0
  else if op = 0x31 then ok true false false 0
  else if op = 0x38 then ok true true true (0xFFF * 2 ^ 52 + 0xFFFFFFFF)
  else if op = 0x40 then getf w 66 14 == 0 && getf w 0 64 == 0
  else if op = 0x48 then ok false true true (0xFFF * 2 ^ 52 + 0x3FFFFFF)
  else ok false true false (0xFFF * 2 ^ 52)

/-- The core's control stream ended for the step (R78, R129). -/
def endStream (s : State) (c : Nat) : State :=
  let k := s.core c
  s.setCore c { k with ctl := { k.ctl with running := false }, hung := false }

/-- CTL_MALFORMED: the core acts as if it had executed END (R135). -/
def ctlMalformed (s : State) (c : Nat) : State := endStream (s.coreFault 0x200A c 15 0xFFF (s.core c).ctl.pc) c

/-- The program counter set to a word; outside the stream it is CTL_MALFORMED (R135). -/
def jumpTo (s : State) (c target : Nat) : State :=
  let k := s.core c
  if k.ctl.stream.length ≤ target then ctlMalformed s c
  else s.setCore c { k with ctl := { k.ctl with pc := target }, hung := false }

/-- The next word. -/
def advance (s : State) (c : Nat) : State := jumpTo s c ((s.core c).ctl.pc + 1)

/-- The control word at the program counter, if its opcode is `op`, executed (R127, R135). A disabled core executes
END instead (R437). -/
def ctlStep (s : State) (c op : Nat) (body : State → QWord → State) : State :=
  let k := s.core c
  if !k.ctl.running || !s.clocked c then s
  else
    match k.ctl.stream[k.ctl.pc]? with
    | none => if op = 0 then ctlMalformed s c else s
    | some w =>
      if cOpcode w != op && !(op == 0 && !ctlKnown (cOpcode w)) then s
      else if s.coreDisabled c then endStream s c
      else if !ctlKnown (cOpcode w) || !ctlFieldsOk w then ctlMalformed s c
      else body s w

/-- A register written, and the next word. -/
def writeReg (s : State) (c rd : Nat) (v : DWord) : State := advance (s.setCore c ((s.core c).setReg rd v)) c

/-- The second operand B = x[RB] + IMM (R128). -/
def operandB (k : Core) (w : QWord) : DWord := k.reg (cRb w) + BitVec.ofNat 64 (cImm w)

/-- An arithmetic control word (R129). -/
def ctlAlu (c : Nat) (f : DWord → DWord → DWord) (s : State) (w : QWord) : State :=
  let k := s.core c
  writeReg s c (cRd w) (f (k.reg (cRa w)) (operandB k w))

/-- A branch (R129, R135). -/
def ctlBranch (c : Nat) (p : DWord → DWord → Bool) (s : State) (w : QWord) : State :=
  let k := s.core c
  if p (k.reg (cRa w)) (k.reg (cRb w)) then jumpTo s c (cImm w) else advance s c

/-- CNOP. -/
def execCnop (c : CoreId) (s : State) : Host.Outcome State Fault Refusal :=
  .next (ctlStep s c.val 0x00 fun s _ => advance s c.val)

/-- END. -/
def execCtlEnd (c : CoreId) (s : State) : Host.Outcome State Fault Refusal :=
  .next (ctlStep s c.val 0x01 fun s _ => endStream s c.val)

/-- HINT.PHASE's effect (R408): codes above 31 count as 31; a change of code is a phase boundary of the crown (R411). -/
def hintPhase (c : Nat) (s : State) (w : QWord) : State :=
  let code := min 31 (cImm w % 256)
  let cl := c / 8
  let changed := mapGet 0 s.phases cl / 16 != code
  let met := if changed && !s.phaseMet.contains (c / 64) then s.phaseMet ++ [c / 64] else s.phaseMet
  advance { s with phases := mapSet 0 s.phases cl (16 * code + cImm w / 256 % 16), phaseMet := met } c

/-- HINT.PHASE. -/
def execHintPhase (c : CoreId) (s : State) : Host.Outcome State Fault Refusal :=
  .next (ctlStep s c.val 0x02 (hintPhase c.val))

/-- ADD. -/
def execCtlAdd (c : CoreId) (s : State) : Host.Outcome State Fault Refusal :=
  .next (ctlStep s c.val 0x10 (ctlAlu c.val (· + ·)))

/-- SUB. -/
def execCtlSub (c : CoreId) (s : State) : Host.Outcome State Fault Refusal :=
  .next (ctlStep s c.val 0x11 (ctlAlu c.val (· - ·)))

/-- MUL, the low 64 bits. -/
def execCtlMul (c : CoreId) (s : State) : Host.Outcome State Fault Refusal :=
  .next (ctlStep s c.val 0x12 (ctlAlu c.val (· * ·)))

/-- AND. -/
def execCtlAnd (c : CoreId) (s : State) : Host.Outcome State Fault Refusal :=
  .next (ctlStep s c.val 0x13 (ctlAlu c.val (· &&& ·)))

/-- OR. -/
def execCtlOr (c : CoreId) (s : State) : Host.Outcome State Fault Refusal :=
  .next (ctlStep s c.val 0x14 (ctlAlu c.val (· ||| ·)))

/-- XOR. -/
def execCtlXor (c : CoreId) (s : State) : Host.Outcome State Fault Refusal :=
  .next (ctlStep s c.val 0x15 (ctlAlu c.val (· ^^^ ·)))

/-- SHL, by B mod 64. -/
def execCtlShl (c : CoreId) (s : State) : Host.Outcome State Fault Refusal :=
  .next (ctlStep s c.val 0x16 (ctlAlu c.val fun a b => a <<< (b.toNat % 64)))

/-- SHR, logical, by B mod 64. -/
def execCtlShr (c : CoreId) (s : State) : Host.Outcome State Fault Refusal :=
  .next (ctlStep s c.val 0x17 (ctlAlu c.val fun a b => a >>> (b.toNat % 64)))

/-- SRA, arithmetic, by B mod 64. -/
def execCtlSra (c : CoreId) (s : State) : Host.Outcome State Fault Refusal :=
  .next (ctlStep s c.val 0x18 (ctlAlu c.val fun a b => a.sshiftRight (b.toNat % 64)))

/-- SLTU. -/
def execSltu (c : CoreId) (s : State) : Host.Outcome State Fault Refusal :=
  .next (ctlStep s c.val 0x19 (ctlAlu c.val fun a b => if a.toNat < b.toNat then 1 else 0))

/-- SLT. -/
def execSlt (c : CoreId) (s : State) : Host.Outcome State Fault Refusal :=
  .next (ctlStep s c.val 0x1A (ctlAlu c.val fun a b => if a.toInt < b.toInt then 1 else 0))

/-- BEQ. -/
def execBeq (c : CoreId) (s : State) : Host.Outcome State Fault Refusal :=
  .next (ctlStep s c.val 0x20 (ctlBranch c.val fun a b => a == b))

/-- BNE. -/
def execBne (c : CoreId) (s : State) : Host.Outcome State Fault Refusal :=
  .next (ctlStep s c.val 0x21 (ctlBranch c.val fun a b => a != b))

/-- BLTU. -/
def execBltu (c : CoreId) (s : State) : Host.Outcome State Fault Refusal :=
  .next (ctlStep s c.val 0x22 (ctlBranch c.val fun a b => decide (a.toNat < b.toNat)))

/-- BGEU. -/
def execBgeu (c : CoreId) (s : State) : Host.Outcome State Fault Refusal :=
  .next (ctlStep s c.val 0x23 (ctlBranch c.val fun a b => decide (b.toNat ≤ a.toNat)))

/-- BLT. -/
def execBlt (c : CoreId) (s : State) : Host.Outcome State Fault Refusal :=
  .next (ctlStep s c.val 0x24 (ctlBranch c.val fun a b => decide (a.toInt < b.toInt)))

/-- BGE. -/
def execBge (c : CoreId) (s : State) : Host.Outcome State Fault Refusal :=
  .next (ctlStep s c.val 0x25 (ctlBranch c.val fun a b => decide (b.toInt ≤ a.toInt)))

/-- JUMP. -/
def execJump (c : CoreId) (s : State) : Host.Outcome State Fault Refusal :=
  .next (ctlStep s c.val 0x26 fun s w => jumpTo s c.val (cImm w))

/-- LOOP's effect: the jump looks at the decremented value. -/
def ctlLoop (c : Nat) (s : State) (w : QWord) : State :=
  let k := s.core c
  let v := k.reg (cRa w) - 1
  let s := s.setCore c (k.setReg (cRa w) v)
  if v = 0 then advance s c else jumpTo s c (cImm w)

/-- LOOP. -/
def execLoop (c : CoreId) (s : State) : Host.Outcome State Fault Refusal :=
  .next (ctlStep s c.val 0x27 (ctlLoop c.val))

/-- The metadata of a summary entry (R129): tag, kind, poison. -/
def summaryMeta (e : Summary) : DWord :=
  BitVec.ofNat 64 (e.tag.toNat + e.kind.toNat * 2 ^ 8 + (if e.poison then 2 ^ 12 else 0))

/-- SUMPOP's effect; it waits on an empty queue. -/
def ctlSumpop (c : Nat) (s : State) (w : QWord) : State :=
  let k := s.core c
  match k.summaries with
  | [] => s
  | e :: r =>
    let k := ({ k with summaries := r } : Core).setReg (cRd w) (BitVec.ofNat 64 e.value.toNat)
    let k := if cRa w = 0 then k else k.setReg (cRa w) (summaryMeta e)
    advance (s.setCore c k) c

/-- SUMPOP. -/
def execSumpop (c : CoreId) (s : State) : Host.Outcome State Fault Refusal :=
  .next (ctlStep s c.val 0x30 (ctlSumpop c.val))

/-- DETERMINISTIC of a job stream (R397). -/
def State.deterministic (s : State) (j : Nat) : Bool := s.val ⟨0x9060 + j, 4, 0⟩ == 1

/-- The mark that SUMCOUNT leaves in deterministic mode (R394): every one is noted and counted (log entry 17). -/
def timingMark (s : State) (c : Nat) : State :=
  match s.jsOfCore c with
  | none => s
  | some j =>
    if !s.deterministic j || !s.stepRunning j then s
    else
      let s := s.coreFault 0x1602 c 15 0xFFF 0
      (s.setStep j { s.stepOf j with timingDependent := true }).bump ⟨0x9060 + j, 8, 0⟩ 1

/-- SUMCOUNT's effect (R129, R394). -/
def ctlSumcount (c : Nat) (s : State) (w : QWord) : State :=
  let n := (s.core c).summaries.length
  writeReg (timingMark s c) c (cRd w) (BitVec.ofNat 64 n)

/-- SUMCOUNT. -/
def execSumcount (c : CoreId) (s : State) : Host.Outcome State Fault Refusal :=
  .next (ctlStep s c.val 0x31 (ctlSumcount c.val))

/-- The handle (x[RA] + IMM[63:52]) mod 4,096 (R129). -/
def ctlHandle (k : Core) (w : QWord) : Nat := ((k.reg (cRa w)).toNat + getf w 52 12) % 4096

/-- CTLD's effect (R129, R130, R135); it waits until the tile is PRESENT. -/
def ctlCtld (c : Nat) (s : State) (w : QWord) : State :=
  let k := s.core c
  let h := ctlHandle k w
  let off := (k.reg (cRb w) + BitVec.ofNat 64 (getf w 0 32)).toNat
  if off % 8 != 0 then ctlMalformed s c
  else if (k.tte h).state != .present then s
  else
    let t := readTile k h
    if t.payload.length < off + 8 then ctlMalformed s c
    else writeReg s c (cRd w) (BitVec.ofNat 64 (leAt t.payload off 8))

/-- CTLD. -/
def execCtld (c : CoreId) (s : State) : Host.Outcome State Fault Refusal :=
  .next (ctlStep s c.val 0x38 (ctlCtld c.val))

/-- Whether a patch is malformed (R133). -/
def patchBad (lsb width : Nat) : Bool := decide (48 < width) || (width != 0 && decide (116 < lsb + width))

/-- A patch applied: the register added to the field, modulo its width (R133). -/
def patchWord (k : Core) (t : QWord) (reg lsb width : Nat) : QWord :=
  if width = 0 then t else setf t lsb width (getf t lsb width + (k.reg reg).toNat)

/-- Words that stand in a station queue (R59). -/
def queueWords (q : List StationInsn) : Nat := (q.map wordCount).foldl (· + ·) 0

/-- PUSH's effect (R132, R133, R61, R135); it waits on a full queue. -/
def ctlPush (c : Nat) (s : State) (w : QWord) : State :=
  let k := s.core c
  let st := getf w 116 4
  let n := getf w 64 2
  let pc := k.ctl.pc
  let p0 := getf w 104 7
  let w0 := getf w 98 6
  let p1 := getf w 86 7
  let w1 := getf w 80 6
  if 7 ≤ st || n = 0 || n = 3 || patchBad p0 w0 || patchBad p1 w1 then ctlMalformed s c
  else
    match k.ctl.stream[pc + 1]?, k.ctl.stream[pc + 2]? with
    | none, _ => ctlMalformed s c
    | some t, second =>
      if n = 2 && second.isNone then ctlMalformed s c
      else if 64 < queueWords (k.queue st) + n then s
      else
        let t := patchWord k (patchWord k t (getf w 111 5) p0 w0) (getf w 93 5) p1 w1
        let i : StationInsn := { w0 := t, w1 := if n = 2 then second else none }
        jumpTo (s.setCore c (k.setQueue st (k.queue st ++ [i]))) c (pc + 1 + n)

/-- PUSH. -/
def execPush (c : CoreId) (s : State) : Host.Outcome State Fault Refusal :=
  .next (ctlStep s c.val 0x40 (ctlPush c.val))

/-- BIND's effect (R54, R129, R131). -/
def ctlBind (c : Nat) (s : State) (w : QWord) : State :=
  let k := s.core c
  let h := ctlHandle k w
  let base := (k.reg (cRb w) + BitVec.ofNat 64 (getf w 0 15)).toNat
  let cap := getf w 15 8
  let rel := getf w 23 3
  if (k.tte h).state != .free || decide (24576 < base + cap + 2) || rel = 0 then
    advance (s.coreFault 0x200B c 15 h h) c
  else
    let t : TileEntry := { bound := true, base := BitVec.ofNat 15 base, capacity := BitVec.ofNat 8 cap
                           releases := BitVec.ofNat 3 rel }
    advance (s.setCore c (k.setTte h t)) c

/-- BIND. -/
def execBind (c : CoreId) (s : State) : Host.Outcome State Fault Refusal :=
  .next (ctlStep s c.val 0x48 (ctlBind c.val))

/-- UNBIND's effect (R129, R131); it waits until the entry is FREE. -/
def ctlUnbind (c : Nat) (s : State) (w : QWord) : State :=
  let k := s.core c
  let h := ctlHandle k w
  if (k.tte h).state != .free then s
  else advance (s.setCore c (k.setTte h {})) c

/-- UNBIND. -/
def execUnbind (c : CoreId) (s : State) : Host.Outcome State Fault Refusal :=
  .next (ctlStep s c.val 0x49 (ctlUnbind c.val))

end Sys2Proof.Machine
end

