-- ==== Sys2Proof/Machine/Movers.lean ====
section
/-! DEFINITION. NOP, WAIT and WAITSUB of every station (R64), and the LOAD and STORE stations (R65 to R68). -/
namespace Sys2Proof.Machine

/-- NOP (R64). -/
def execNop (c : CoreId) (st : Station) (s : State) : Host.Outcome State Fault Refusal :=
  .next (issueNop s c.val (stationCode st))

/-- WAIT (R64, R224). -/
def execWait (c : CoreId) (st : Station) (s : State) : Host.Outcome State Fault Refusal :=
  .next (passWait s c.val (stationCode st) false)

/-- WAITSUB (R64, R224). -/
def execWaitsub (c : CoreId) (st : Station) (s : State) : Host.Outcome State Fault Refusal :=
  .next (passWait s c.val (stationCode st) true)

/-! ### LOAD -/

/-- A record that installs one tile at the output handle. -/
def installFlight (i : StationInsn) (token : Nat) (withdrawn : Bool) (t : Tile) : InFlight :=
  { token := token, insn := i, withdrawn := withdrawn, outs := [{ handle := iH0 i.w0, tile := t }] }

/-- A core as a requester (R209). -/
def coreRequester (c : Nat) : HbmRequester := .core (Fin.ofNat 256 c)

/-- The requests of a core that reads a span (R209). -/
def State.coreRead (s : State) (c token a n : Nat) : State := s.request (coreRequester c) (c / 64) token a n none

/-- The requests of a core that writes bytes; they are visible as each request is done (R194, R209). -/
def State.coreWrite (s : State) (c token a : Nat) (bs : List Byte) : State :=
  s.request (coreRequester c) (c / 64) token a bs.length (some bs)

/-- A counter of a cluster's prefetch (R208). -/
def pfKey (sub cluster : Nat) : Key := ⟨0x8013, sub, cluster⟩

/-- The bin of an arrival margin (R207). -/
def marginBin (m : Nat) : Nat := if m < 64 then 0 else min 15 (Nat.log2 m - 5)

/-- A LOAD reads a span: landed slots that it touches for the first time count as used, with their margin (R207). -/
def State.readSlots (s : State) (a n : Nat) : State :=
  let hit := fun (e : Nat × Nat × DWord) => decide (a < e.1 + e.2.1) && decide (e.1 < a + n)
  let used := s.walks.flatMap fun w => (w.unread.filter hit).map fun e => (w.cluster, e.2.2)
  if used.isEmpty then s
  else
    used.foldl (fun s u =>
      let m := (s.clock (clkNoc (u.1 / 8)) - u.2).toNat
      (s.bump (pfKey 2 u.1) 1).bump ⟨0x8013, 7, 16 * u.1 + marginBin m⟩ 1)
      { s with walks := s.walks.map fun w => { w with unread := w.unread.filter fun e => !hit e } }

/-- The request of a LOAD for a span (R207, R209). -/
def State.loadRequest (s : State) (c token a n : Nat) : State := (s.coreRead c token a n).readSlots a n

/-- An image whose poison flag is set, copied as it stands where it fits, and in the form of R73 where it does not or
where it is a 0x13 image (R49). -/
def copyPoisoned (s : State) (c st h : Nat) (hd : Hdr) (payload : List Byte) : Tile :=
  if hFormat hd = 0x13 || decide (capacityBytes (s.core c) h < payload.length) then poisonTile s c st h 0 0
  else { header := hd, payload := payload }

/-- An image in plain form, its checksum not yet looked at: conditions at issue, then the copy (R43, R67, R68, R74). -/
def loadPlain (s : State) (c : Nat) (i : StationInsn) (token : Nat) (t : Tile) (crcOk : Bool) : Issue :=
  let h0 := iH0 i.w0
  let tr := bitf i.w0 55
  if !headerOk t.header t.payload.length || (tr && !transposeOk t.header) then
    withdrawnIssue s c 0 i token 0x2003 h0 h0
  else if capacityBytes (s.core c) h0 < t.payload.length then withdrawnIssue s c 0 i token 0x2002 h0 h0
  else if !crcOk then withdrawnIssue s c 0 i token 0x2006 h0 h0
  else .go (installFlight i token false (if tr then transposeTile t else t)) s

/-- A 0x13 image: outer header, codec, outer checksum, stream, then the inner tile (R67, R369, R437). -/
def loadExact (s : State) (c : Nat) (i : StationInsn) (token : Nat) (img : Tile) : Issue :=
  let h0 := iH0 i.w0
  if !exactOuterOk img.header then withdrawnIssue s c 0 i token 0x2003 h0 h0
  else if !s.codecOn then withdrawnIssue s c 0 i token 0x2801 h0 h0
  else if !tileCrcOk img then withdrawnIssue s c 0 i token 0x2006 h0 h0
  else if !exactOuterFields img.header then withdrawnIssue s c 0 i token 0x2003 h0 h0
  else
    match exactDecode img.payload with
    | none => withdrawnIssue (s.bump (codecKey 9) 1) c 0 i token 0x2003 h0 h0
    | some t =>
      let s := (s.bump (codecKey 8) 1).addBlocks false 32 token none (laneBlocks img.payload)
      if hPoison t.header then
        let s1 := s.poisonFault c 0 h0
        .go (installFlight i token false (copyPoisoned s c 0 h0 t.header t.payload)) s1
      else loadPlain s c i token t (tileCrcOk t)

/-- A LOAD across an uncorrectable error: the output is poisoned without TILE_POISON (R49). The spec says only that POISON is
set: the tile takes the RAW zero form of R73 (DESIGN CHOICE, log entry 52). -/
def loadAcrossError (s : State) (c : Nat) (i : StationInsn) (token : Nat) : Issue :=
  .go (installFlight i token false (poisonTile s c 0 (iH0 i.w0) 0 0)) s

/-- An image whose POISON flag a LOAD reads: TILE_POISON alone (R49). What the job stream may not read, or an uncorrectable
error spoils, of its payload is not copied: the output then takes the form of R73. -/
def loadPoisoned (s : State) (c : Nat) (i : StationInsn) (token : Nat) (img : Tile) (whole : Bool) : Issue :=
  let h0 := iH0 i.w0
  .go (installFlight i token false (if whole then copyPoisoned s c 0 h0 img.header img.payload else poisonTile s c 0 h0 0 0))
    (s.poisonFault c 0 h0)

/-- LOAD.IMG's own part (R49, R67, R68, R74): the image's header is read where the job stream may, and its POISON flag is
looked at before anything else. -/
def loadImage (c : Nat) (s : State) (i : StationInsn) (token : Nat) : Issue :=
  let js := s.jsOfCore c
  let a := iField i.w0 0 48
  let h0 := iH0 i.w0
  let m := s.seen (coreRequester c)
  let hd := hdrOfBytes (m.readMem a 64)
  let n := imagePayload hd
  let img : Tile := { header := hd, payload := m.readMem (a + 64) n }
  let open' := s.access js a (64 + n) .read
  let spoilt := m.spanPoisoned a (64 + n)
  if !s.access js a 64 .read then withdrawnIssue s c 0 i token 0x2004 h0 h0
  else if m.spanPoisoned a 64 then loadAcrossError (s.loadRequest c token a 64) c i token
  else if hPoison hd then
    loadPoisoned (s.loadRequest c token a (if open' then 64 + n else 64)) c i token img (open' && !spoilt)
  else if !open' then withdrawnIssue s c 0 i token 0x2004 h0 h0
  else
    let s := s.loadRequest c token a (64 + n)
    if spoilt then loadAcrossError s c i token
    else if hFormat hd = 0x13 then loadExact s c i token img
    else loadPlain s c i token img (tileCrcOk img)

/-- LOAD.IMG (R67). -/
def execLoadImg (c : CoreId) (s : State) : Host.Outcome State Fault Refusal :=
  .next (issueStation s c.val 0 0x10 (loadImage c.val))

/-- `n` free bytes (log entry 2). -/
def freeByteList : Nat → State → List Byte × State
  | 0, s => ([], s)
  | n + 1, s =>
    let f := s.free 8
    let r := freeByteList n f.2
    (BitVec.ofNat 8 f.1 :: r.1, r.2)

/-- The rows of a raw transfer: addresses and bytes. -/
def rawRows (a pitch rows bytes : Nat) : List (Nat × Nat) := (List.range rows).map fun r => (a + r * pitch, bytes)

/-- Requests of a raw load: row by row, in one span where the rows touch (R209). -/
def State.rawRead (s : State) (c token a pitch rows bytes : Nat) : State :=
  if pitch = bytes then s.loadRequest c token a (rows * bytes)
  else (rawRows a pitch rows bytes).foldl (fun s r => s.loadRequest c token r.1 r.2) s

/-- Requests of a raw store, in the same way (R209). -/
def State.rawWrite (s : State) (c token a pitch bytes : Nat) (rows : List (List Byte)) : State :=
  if pitch = bytes then s.coreWrite c token a rows.flatten
  else (rows.zipIdx).foldl (fun s r => s.coreWrite c token (a + r.2 * pitch) r.1) s

/-- The payload that LOAD.RAW builds from row-major codes; `scales` are the bytes of the second plane of an MX or
fulling tile. -/
def rawPayload (f l rows cols : Nat) (codes : List Nat) (scales : List Byte) : List Byte :=
  let cs := if isFulling f then codes ++ List.replicate (32 * ceilDiv (rows * cols) 32 - rows * cols) 0 else codes
  padGranules (storeCodes f l rows cols cs ++ scales)

/-- Bytes of the scale plane (R87) or exponent plane (R355) of a format. -/
def scalePlaneBytes (f rows cols : Nat) : Nat :=
  if isFulling f then ceilDiv (rows * cols) 32 else if isMx f then rows * (cols / 32) else 0

/-- The header that LOAD.RAW builds (R66). -/
def rawHeader (s : State) (c f l rows cols : Nat) : Hdr :=
  let h : Hdr := setf (setf (setf (setf 0 0 8 f) 8 4 l) 16 16 rows) 32 16 cols
  let h := setf h 14 1 (if isFulling f then 1 else 0)
  producedHeader s c 0 (setf h 48 8 (ceilDiv (needBytes f l rows cols) 256 - 1))

/-- LOAD.RAW's own part (R66, R68, R74). The bytes in memory are the rows' elements; the scale or exponent plane of an MX
or fulling tile is free (log entry 15). -/
def loadRaw (c : Nat) (s : State) (i : StationInsn) (token : Nat) : Issue :=
  let js := s.jsOfCore c
  let a := iField i.w0 0 48
  let h0 := iH0 i.w0
  let w1 := i.w1.getD 0
  let f := getf w1 120 8
  let l := getf w1 116 4
  let rows := getf w1 96 16
  let cols := getf w1 80 16
  let pitch := getf w1 48 32
  let n := rowBytes f cols
  let tr := bitf i.w0 55
  let hd := rawHeader s c f l rows cols
  if l = 2 || !headerOk hd 65536 || (tr && !transposeOk hd) then withdrawnIssue s c 0 i token 0x2003 h0 h0
  else if !s.access js a ((rows - 1) * pitch + n) .read then withdrawnIssue s c 0 i token 0x2004 h0 h0
  else if capacityBytes (s.core c) h0 < 256 * (hGranules hd + 1) then withdrawnIssue s c 0 i token 0x2002 h0 h0
  else
    let m := s.seen (coreRequester c)
    let s := s.rawRead c token a pitch rows n
    if (rawRows a pitch rows n).any fun r => m.spanPoisoned r.1 r.2 then loadAcrossError s c i token
    else
      let codes := (rawRows a pitch rows n).flatMap fun r =>
        (unpackCodes (elemBits f) (m.readMem r.1 r.2) 0 0).take cols
      let sc := freeByteList (scalePlaneBytes f rows cols) s
      let t := sealProduced hd (rawPayload f l rows cols codes sc.1)
      .go (installFlight i token false (if tr then transposeTile t else t)) sc.2

/-- LOAD.RAW (R66). -/
def execLoadRaw (c : CoreId) (s : State) : Host.Outcome State Fault Refusal :=
  .next (issueStation s c.val 0 0x11 (loadRaw c.val))

/-! ### STORE -/

/-- A record of a store: it completes when its requests are done, every byte visible (R194). -/
def storeFlight (i : StationInsn) (token : Nat) : InFlight := { token := token, insn := i }

/-- The header conditions of an input that STORE or SEND reads (R43, R51, R68): whether they hold. -/
def moverInputOk (k : Core) (t : Tile) (transpose : Bool) : Bool :=
  headerOk t.header t.payload.length && scaleTileOk k t.header && (!transpose || transposeOk t.header)

/-- What STORE.IMG writes of a tile: its image, or its exact image (R67, R368). -/
def storeBytes (s : State) (c : Nat) (exact : Bool) (t : Tile) : List Byte := tileImage (if exact then exactImage s c t else t)

/-- A store of a tile's image put on its way; an exact one passes the codec and counts there (R370, R372). -/
def storeGoes (s : State) (c : Nat) (i : StationInsn) (token : Nat) (exact : Bool) (t : Tile) : Issue :=
  let a := iField i.w0 0 48
  let out := storeBytes s c exact t
  let s1 := if exact then (countEncoded s t (exactEncode t).length).addBlocks true 32 token none (laneBlocks (exactEncode t)) else s
  .go (storeFlight i token) (s1.coreWrite c token a out)

/-- STORE.IMG with a poisoned input, its tile or its scale tile (R49, R51): TILE_POISON alone; a copy with the flag set, where
the job stream may write and the codec that the copy needs is ON; else no byte (log entry 53). -/
def storePoisoned (s : State) (c : Nat) (i : StationInsn) (token : Nat) (exact : Bool) (t : Tile) (h : Nat) : Issue :=
  let s1 := s.poisonFault c 3 h
  let x := flaggedCopy t
  if (!exact || s.codecOn) && s.access (s.jsOfCore c) (iField i.w0 0 48) (storeBytes s c exact x).length .write then
    storeGoes s1 c i token exact x
  else .go { storeFlight i token with withdrawn := true } s1

/-- STORE.IMG's own part (R49, R67, R68, R74, R437). -/
def storeImage (c : Nat) (s : State) (i : StationInsn) (token : Nat) : Issue :=
  let h1 := iH1 i.w0
  let tr := bitf i.w0 55
  let exact := bitf i.w0 54
  let k := s.core c
  let t := readTile k h1
  match poisonedInput k (h1 :: scaleHandles k i.w0 [h1]) with
  | some h => storePoisoned s c i token exact t h
  | none =>
    let x := if tr then transposeTile t else t
    if exact && !s.codecOn then withdrawnIssue s c 3 i token 0x2801 h1 h1
    else if !moverInputOk k t tr then withdrawnIssue s c 3 i token 0x2003 h1 h1
    else if !s.access (s.jsOfCore c) (iField i.w0 0 48) (storeBytes s c exact x).length .write then
      withdrawnIssue s c 3 i token 0x2004 h1 h1
    else if !tileCrcOk t then withdrawnIssue s c 3 i token 0x2006 h1 h1
    else storeGoes s c i token exact x

/-- STORE.IMG (R67). -/
def execStoreImg (c : CoreId) (s : State) : Host.Outcome State Fault Refusal :=
  .next (issueStation s c.val 3 0x18 (storeImage c.val))

/-- The logical rows of a tile as bytes, elements only (R66, log entry 15). -/
def tileRows (t : Tile) : List (List Byte) :=
  let h := t.header
  let cs := if hLayout h = 2 then sparseCodes t else tileCodes t
  (List.range (hRows h)).map fun r => packCodes (elemBits (hFormat h)) ((cs.drop (r * hCols h)).take (hCols h)) 0 0

/-- STORE.RAW's own part (R47, R66, R74). -/
def storeRaw (c : Nat) (s : State) (i : StationInsn) (token : Nat) : Issue :=
  let h1 := iH1 i.w0
  let a := iField i.w0 0 48
  let tr := bitf i.w0 55
  let pitch := getf (i.w1.getD 0) 48 32
  let k := s.core c
  let t := readTile k h1
  match poisonedInput k (h1 :: scaleHandles k i.w0 [h1]) with
  | some h => .go { storeFlight i token with withdrawn := true } (s.poisonFault c 3 h)
  | none =>
  if !moverInputOk k t tr then withdrawnIssue s c 3 i token 0x2003 h1 h1
  else
    let x := if tr then transposeTile t else t
    let rows := hRows x.header
    let n := rowBytes (hFormat x.header) (hCols x.header)
    if !s.access (s.jsOfCore c) a ((rows - 1) * pitch + n) .write then withdrawnIssue s c 3 i token 0x2004 h1 h1
    else if !tileCrcOk t then withdrawnIssue s c 3 i token 0x2006 h1 h1
    else
      .go (storeFlight i token) (s.rawWrite c token a pitch n (tileRows x))

/-- STORE.RAW (R47, R66). -/
def execStoreRaw (c : CoreId) (s : State) : Host.Outcome State Fault Refusal :=
  .next (issueStation s c.val 3 0x19 (storeRaw c.val))

end Sys2Proof.Machine
end

