-- ==== Sys2Proof/Machine/Transfers.lean ====
section
/-! DEFINITION. Schedules as data (R289 to R291), identifiers and their quarantine (R240, R241), SEND and RECV (R70 to
R73), the end of uses at source and destination (R301 to R303, R427), and what a signal or a packet looks up. -/
namespace Sys2Proof.Machine

/-- MODULE_ID (R284). -/
def State.moduleId (s : State) : Nat := s.val keyModuleId
/-- ROUTE_ACTIVE_EPOCH (R284). -/
def State.routeEpoch (s : State) : Nat := s.val ⟨0x3000, 5, 0⟩
/-- The band counter as a number (R32). -/
def State.bandNow (s : State) : Nat := (s.clock clkBand).toNat

/-- Band cycles of a number of 4 ns units, rounded down: 6.4 cycles each (R10). -/
def cyclesOfUnits (u : Nat) : Nat := u * 32 / 5
/-- 4 ns units of a number of band cycles, rounded up (R298). -/
def unitsOfCycles (c : Nat) : Nat := ceilDiv (c * 5) 32

/-! ### Schedules -/

/-- Whether a schedule is ACTIVE and LIVE (R295). -/
def Schedule.usable (x : Schedule) (s : State) : Bool := x.state == 3 && x.routeEpoch == s.routeEpoch

/-- The first transfer of the held schedules that meets a test, with its schedule and index. -/
def State.findTransfer (s : State) (p : Schedule → Transfer → Bool) : Option (Schedule × Nat × Transfer) :=
  s.schedules.findSome? fun x =>
    match findIdxOpt (p x) x.transfers with
    | some i => (x.transfers[i]?).map fun t => (x, i, t)
    | none => none

/-- The transfer of an ACTIVE, LIVE schedule that a job stream of this module sources under an identifier. -/
def State.sourced (s : State) (j id : Nat) : Option (Schedule × Nat × Transfer) :=
  s.findTransfer fun x t => x.usable s && t.src == s.moduleId && t.srcJs == j && t.id == id

/-- A transfer that this module sources under an identifier, in any schedule that has been admitted. -/
def State.sourcedAny (s : State) (j id : Nat) : Option (Schedule × Nat × Transfer) :=
  s.findTransfer fun x t => decide (3 ≤ x.state) && t.src == s.moduleId && t.srcJs == j && t.id == id

/-- The admitted landing of a transfer at this module. -/
def State.landingOf (s : State) (src j id : Nat) : Option (Schedule × Nat × Transfer) :=
  s.findTransfer fun x t => decide (3 ≤ x.state) && t.dst == s.moduleId && t.src == src && t.srcJs == j && t.id == id

/-- The address and size of tile `i`'s slot (R291). -/
def tileSlot (t : Transfer) (i : Nat) : Nat × Nat :=
  if t.commit then
    if i + 1 = t.tiles then (t.base, 512) else (t.base + 512 + i * t.stride, t.stride)
  else (t.base + i * t.stride, t.stride)

/-! ### Identifiers (R240, R241) -/

/-- The state of an identifier. -/
def State.idState (s : State) (j id : Nat) : IdState := mapGet {} s.ids (j * 2 ^ 20 + id)
/-- The state of an identifier replaced. -/
def State.setId (s : State) (j id : Nat) (x : IdState) : State := { s with ids := mapSet {} s.ids (j * 2 ^ 20 + id) x }

/-- The current generation (R240). -/
def IdState.current (x : IdState) : Nat := if x.phase = 2 then (x.gen + 1) % 256 else x.gen

/-- 2P of R241 in tenths of a nanosecond: round trips and allowances of the transfer's hops as the admission terms gave
them. -/
def pathRoundTrip (x : Schedule) (idx : Nat) : Nat :=
  (((x.terms.map (·.2)).filter fun r => r.transfer.toNat == idx).map fun r =>
    10 * r.rttNs.toNat + 20 * r.asymNs.toNat).foldl (· + ·) 0

/-- The quarantine interval Q in band cycles (R241): `rest` is E − R in cycles, `trip` 2P in tenths of a nanosecond. -/
def quarantineCycles (rest trip : Nat) : Nat := ceilDiv ((rest * 100 + trip * 16) * 10001) 1000000

/-- A use ends at its source: QUARANTINE from now on (R240, R241); `noExpiry` takes E as R (R427). -/
def State.retire (s : State) (j id : Nat) (noExpiry : Bool) : State :=
  let x := s.idState j id
  let now := s.bandNow
  let trip := match s.sourcedAny j id with | some (sc, i, _) => pathRoundTrip sc i | none => 0
  let rest := if noExpiry then 0 else x.expiry - now
  let s := { s with seenUses := s.seenUses.filter fun u => !(u.src == s.moduleId && u.js == j && u.id == id) }
  s.setId j id { x with phase := 2, retired := now, interval := quarantineCycles rest trip }

/-- The key of a flow (R272). -/
def flowKey (src j dst vc : Nat) : Nat := ((src * 4 + j) * 65536 + dst) * 16 + vc

/-- A packet of this module numbered in its flow and queued for the switch (R272). -/
def State.inject (s : State) (p : Pkt) : State :=
  let k := flowKey p.src.toNat p.js.toNat p.dst.toNat p.origVc.toNat
  let n := mapGet 0 s.flowsTx k
  { s with flowsTx := mapSet 0 s.flowsTx k ((n + 1) % 2 ^ 24), toSwitch := s.toSwitch ++ [{ p with seq := BitVec.ofNat 24 n }] }

/-- A packet of a transfer without payload: DELIVERY back to the source, WITHDRAW on to the destination (R301, R302,
R304). -/
def transferPacket (s : State) (kind : Nat) (t : Transfer) (gen : Nat) : Pkt :=
  { dst := BitVec.ofNat 16 (if kind = 4 then t.src else t.dst)
    src := BitVec.ofNat 16 s.moduleId
    vc := BitVec.ofNat 4 t.vc, origVc := BitVec.ofNat 4 t.vc, kind := BitVec.ofNat 4 kind
    js := BitVec.ofNat 2 t.srcJs, id := BitVec.ofNat 20 t.id, gen := BitVec.ofNat 8 gen
    epoch := BitVec.ofNat 32 (s.val (keyEpoch t.srcJs)) }

/-- The WITHDRAW of a use sent along its path (R302, R427). -/
def State.sendWithdraw (s : State) (t : Transfer) (gen : Nat) : State := s.inject (transferPacket s 3 t gen)

/-- Where a fault of a use is recorded: the band, its transfer, the peer (R441). -/
def useFaultAt (j : Nat) (peer id gen : Nat) : FaultAt :=
  { domain := 3, clock := clkBand, js := some j, peer := peer, transfer := some (id, gen) }

/-- As `useFaultAt`, with the schedule that holds the transfer (R441). -/
def State.useAt (s : State) (j : Nat) (t : Transfer) (peer gen : Nat) : FaultAt :=
  { useFaultAt j peer t.id gen with sourceId := (s.schedules.find? fun x => x.transfers.contains t).map (·.id) }

/-! ### Collectives and rings that own an identifier (R314, R340) -/

/-- P of R314: the period of the check. -/
def Coll.period (x : Coll) : Nat := 2 ^ x.checkLog
/-- S of R314: bound slots of a forward transfer. -/
def Coll.slots (x : Coll) : Nat :=
  if x.kind = 0 && x.checkLog != 0 && decide (3 ≤ x.members.length) then ceilDiv x.chunks x.period else 0
/-- Identifiers that a collective uses (R314). -/
def Coll.idCount (x : Coll) : Nat :=
  let n := x.members.length
  if x.kind = 2 then 1 else (n - 1) + (if x.slots = 0 then 0 else n - 1)
/-- Identifiers that a ring uses (R340). -/
def Ring.idCount (x : Ring) : Nat := if x.members.length < 2 then 0 else 3 * x.members.length - 2
/-- Whether an identifier lies in a range, modulo 2^20. -/
def inIds (base count id : Nat) : Bool := decide ((id + 2 ^ 20 - base) % 2 ^ 20 < count)

/-- The registered collective of a job stream whose range holds an identifier. -/
def State.collOf (s : State) (j id : Nat) : Option Coll :=
  s.colls.find? fun x => x.js == j && inIds x.idBase x.idCount id
/-- The registered ring of a job stream whose range holds an identifier. -/
def State.ringOf (s : State) (j id : Nat) : Option Ring :=
  s.rings.find? fun x => x.js == j && inIds x.idBase x.idCount id

/-- A collective or ring counts as used in the job stream's step (R316, R342): (0, number) or (1, number). -/
def State.markRound (s : State) (j id : Nat) : State :=
  let mark := fun (s : State) (e : Nat × Nat) =>
    let st := s.stepOf j
    if st.roundsUsed.contains e then s else s.setStep j { st with roundsUsed := st.roundsUsed ++ [e] }
  let s := match s.collOf j id with | some x => mark s (0, x.number) | none => s
  match s.ringOf j id with | some x => mark s (1, x.number) | none => s

/-! ### SEND (R71, R72, R291, R312) -/

/-- `TRANSFER_ID` of SEND and RECV (R70). -/
def iTransfer (w : QWord) : Nat := iField w 36 20
/-- `GENERATION`. -/
def iGeneration (w : QWord) : Nat := iField w 28 8
/-- `TILE_INDEX`. -/
def iTile (w : QWord) : Nat := iField w 12 16

/-- A SEND that completes WITHDRAWN without sending (R427): a use ended at once, and a WITHDRAW. -/
def sendWithdrawn (s : State) (c : Nat) (w : QWord) : State :=
  match s.jsOfCore c with
  | none => s
  | some j =>
    match s.sourced j (iTransfer w) with
    | none => s
    | some (_, _, t) =>
      let x := s.idState j t.id
      if x.current != iGeneration w || x.phase = 2 then s
      else (s.retire j t.id true).sendWithdraw t (iGeneration w)

/-- The copy that SEND sends: transfer and generation written, rechecksummed (R46, R71). -/
def sendCopy (t : Tile) (id gen : Nat) : Tile := sealTile (setf (setf t.header 168 20 id) 160 8 gen) t.payload

/-- A copy put on its way to the transmit queue: the use is ACTIVE from here on (R71, R240); an exact one passes the codec of
its first port (R370, R372). -/
def sendGoes (s : State) (j : Nat) (i : StationInsn) (token : Nat) (x : Transfer) (exact : Bool) (t : Tile) : Issue :=
  let copy := sendCopy t x.id (iGeneration i.w0)
  let client := match x.hops with | (_, p) :: _ => p | [] => 0
  let s := s.setId j x.id { s.idState j x.id with phase := 1, gen := iGeneration i.w0 }
  let out := if exact then exactEncode copy else tileImage copy
  let s := if exact then (countEncoded s copy out.length).addBlocks true client token none (laneBlocks out) else s
  .go { plainFlight i token with send := some (exact, out) } s

/-- The transfer that a SEND of a job stream names, where R72 does not refuse it. -/
def sendTransfer (s : State) (j : Nat) (w : QWord) : Option Transfer :=
  match s.sourced j (iTransfer w) with
  | some (_, _, x) => if decide (iTile w < x.tiles) && (s.idState j x.id).current == iGeneration w then some x else none
  | none => none

/-- The conditions on the transfer of a SEND beside R72, in order, with their faults: its collective's channel (R312), the slot
and the exact flag (R291), the codec (R437). -/
def sendRefusal (s : State) (j : Nat) (w : QWord) (x : Transfer) (t : Tile) : Option Nat :=
  let exact := bitf w 11
  if (match s.collOf j x.id with | some g => g.vc != x.vc | none => false) then some 0x2501
  else if (exact && !x.exact) || decide ((tileSlot x (iTile w)).2 < 64 + t.payload.length) then some 0x2401
  else if exact && !s.codecOn then some 0x2801
  else none

/-- SEND's own part (R49, R71, R72): POISON of the tile and of its scale tile is looked at before anything else; a poisoned
tile is sent with the flag set where the transfer can carry it, and nothing is sent otherwise (log entry 53). A SEND on an
identifier in QUARANTINE waits (R240), and so does one whose crown's edge admits nothing (R27, R37). -/
def sendIssue (c : Nat) (s : State) (i : StationInsn) (token : Nat) : Issue :=
  let w := i.w0
  let h1 := iH1 w
  let k := s.core c
  let t := readTile k h1
  let poison := poisonedInput k (h1 :: scaleHandles k w [h1])
  let named := match s.jsOfCore c with | some j => (sendTransfer s j w).map fun x => (j, x) | none => none
  let nothing := fun (h : Nat) => Issue.go { plainFlight i token with withdrawn := true } (s.poisonFault c 4 h)
  match named with
  | none =>
    match poison with
    | some h => nothing h
    | none => withdrawnIssue s c 4 i token 0x2005 h1 (iTransfer w)
  | some (j, x) =>
    if (s.idState j x.id).phase = 2 || !s.domainOn (domEdge (c / 64)) then .stall
    else
      match poison, sendRefusal s j w x t with
      | some h, none => sendGoes (s.poisonFault c 4 h) j i token x (bitf w 11) (flaggedCopy t)
      | some h, some _ => nothing h
      | none, some code => withdrawnIssue s c 4 i token code h1 (if code = 0x2801 then h1 else x.id)
      | none, none =>
        if !moverInputOk k t false then withdrawnIssue s c 4 i token 0x2003 h1 h1
        else if !tileCrcOk t then withdrawnIssue s c 4 i token 0x2006 h1 h1
        else sendGoes s j i token x (bitf w 11) t

/-- SEND (R71, R72). -/
def execSend (c : CoreId) (s : State) : Host.Outcome State Fault Refusal :=
  let s' := issueStation s c.val 4 0x20 (sendIssue c.val)
  match (s.core c.val).queue 4 with
  | [] => .next s'
  | i :: _ =>
    -- refused at the head: the word has left the queue and nothing is in flight for it
    if ((s'.core c.val).queue 4).length < ((s.core c.val).queue 4).length &&
        ((s'.core c.val).flight 4).length = ((s.core c.val).flight 4).length then .next (sendWithdrawn s' c.val i.w0)
    else .next s'

/-- The packets of an offered tile: pieces of 4,096 bytes (R270); `n` bounds their number. -/
def dataPackets (s : State) (t : Transfer) (gen tile : Nat) (exact : Bool) : Nat → Nat → List Byte → List Pkt
  | 0, _, _ => []
  | n + 1, off, bs =>
    let piece := bs.take 4096
    let rest := bs.drop 4096
    let p : Pkt :=
      { dst := BitVec.ofNat 16 t.dst, src := BitVec.ofNat 16 s.moduleId, vc := BitVec.ofNat 4 t.vc
        origVc := BitVec.ofNat 4 t.vc, kind := 0, js := BitVec.ofNat 2 t.srcJs, exact := exact
        id := BitVec.ofNat 20 t.id, gen := BitVec.ofNat 8 gen, epoch := BitVec.ofNat 32 (s.val (keyEpoch t.srcJs))
        tileIndex := BitVec.ofNat 16 tile, tileOffset := BitVec.ofNat 17 off, length := BitVec.ofNat 13 piece.length
        last := rest.isEmpty, payload := piece }
    if rest.isEmpty then [p] else p :: dataPackets s t gen tile exact n (off + 4096) rest

/-- A SEND completes (R71): its packets enter the band, T0 starts with the first one (R297), a late offer is marked
(R302). -/
def sendCompletes (s : State) (c : Nat) (f : InFlight) : State :=
  let w := f.insn.w0
  match f.send, s.jsOfCore c with
  | some (exact, bytes), some j =>
    match s.sourcedAny j (iTransfer w) with
    | none => s
    | some (sc, idx, t) =>
      let x := s.idState j t.id
      let now := s.bandNow
      let t0 := x.t0.getD now
      let a := mapGet 0 sc.admitted idx
      -- offered after T0 + B - A, in fifths of a band cycle: 32 of them in a 4 ns unit
      let late := t.budget != 0 && decide (5 * t0 + 32 * t.budget < 5 * now + 32 * a)
      let x := { x with t0 := some t0, late := x.late || late
                        offered := if x.offered.contains (iTile w) then x.offered else x.offered ++ [iTile w] }
      -- the packets of a use that has ended meanwhile are not sent
      let s := (s.setId j t.id x).markRound j t.id
      if x.phase != 1 then s
      else (dataPackets s t x.gen (iTile w) exact (bytes.length / 4096 + 1) 0 bytes).foldl State.inject s
  | _, _ => s

/-! ### Uses at the destination (R301 to R303) -/

/-- A landing by its key. -/
def State.landing? (s : State) (src j id : Nat) : Option Landing :=
  s.landings.find? fun l => l.src == src && l.js == j && l.id == id

/-- A landing replaced or added. -/
def State.setLanding (s : State) (x : Landing) : State :=
  if s.landings.any fun l => l.src == x.src && l.js == x.js && l.id == x.id then
    { s with landings := s.landings.map fun l => if l.src == x.src && l.js == x.js && l.id == x.id then x else l }
  else { s with landings := s.landings ++ [x] }

/-- Whether an arriving generation is accepted after `r` (R241). -/
def genAccepted (r a : Nat) : Bool := decide ((a + 256 - r) % 256 ≤ 127)

/-- Blocks of a landing leave the codec when the use ends. -/
def dropBlocks (s : State) (l : Landing) : State :=
  { s with codec := s.codec.filter fun b => match b.landing with
      | some k => !(k.1 == l.src && k.2.1 == l.js && k.2.2.1 == l.id)
      | none => true }

/-- The region that holds a transfer's landing base (R215). -/
def landRegion (s : State) (t : Transfer) : Option Nat := (s.regionAt t.base 1).map (·.number)

/-- Whether a transfer belongs to the mirror of a commit-layout transfer of its schedule (R215). -/
def inMirror (s : State) (x : Schedule) (c t : Transfer) : Bool :=
  t == c ||
  (c.commit && !t.commit && t.vc == 13 && t.src == c.src && t.dst == c.dst && t.dstJs == c.dstJs && landRegion s t == landRegion s c &&
    decide (c.base ≤ t.base) &&
    !(x.transfers.any fun d => d.commit && d.dst == c.dst && landRegion s d == landRegion s c && decide (c.base < d.base) &&
        decide (d.base < t.base + t.tiles * t.stride)))

/-- The mirror that a transfer landing here belongs to: its commit-layout transfer and all its transfers (R215). -/
def State.mirrorOf (s : State) (t : Transfer) : Option (Transfer × List Transfer) :=
  if !t.commit && t.vc != 13 then none
  else
    match s.schedules.find? fun x => decide (3 ≤ x.state) && x.transfers.contains t with
    | none => none
    | some x => (x.transfers.find? fun c => c.commit && inMirror s x c t).map fun c => (c, x.transfers.filter (inMirror s x c))

/-- A use ended without delivery at its destination by one fault (R301): counted, L disarmed, tiles under way dropped. -/
def State.endUseAlone (s : State) (l : Landing) (t : Transfer) (code : Nat) : State :=
  let s := s.raise code (s.useAt t.dstJs t l.src l.gen)
  let s := s.bump ⟨0x3400, 0x0C, 0⟩ 1
  dropBlocks (s.setLanding { l with phase := 2, deadline := none, parts := [], commit := none }) l

/-- As `endUseAlone`; with a transfer of a mirror, the slot is left without a valid header, and the use of its commit transfer
ends as withdrawn: an open one, or the complete one that has closed this mirror (R216, R303). -/
def State.endUse (s : State) (l : Landing) (t : Transfer) (code : Nat) : State :=
  let s := s.endUseAlone l t code
  match s.mirrorOf t with
  | none => s
  | some (c, _) =>
    let s := s.writeMem c.base (List.replicate 64 0)
    if c == t then s
    else
      match s.landing? c.src c.srcJs c.id with
      | some k => if k.phase = 0 || (k.phase = 1 && l.committed) then s.endUseAlone k c 0x2405 else s
      | none => s

/-! ### The check of a reduction (R320, R322, R323) -/

/-- The landing of a transfer from a module at this module: its transfer and its use. -/
def State.landingFrom (s : State) (src j id : Nat) : Option (Transfer × Landing) :=
  match s.landingOf src j id, s.landing? src j id with
  | some (_, _, t), some l => some (t, l)
  | _, _ => none

/-- The tile in a landing slot, header and payload as they stand (R41). -/
def State.slotTile (s : State) (t : Transfer) (i : Nat) : Tile :=
  let a := (tileSlot t i).1
  let hd := hdrOfBytes (s.readMem a 64)
  { header := hd, payload := s.readMem (a + 64) (256 * (hGranules hd + 1)) }

/-- Whether a tile is the placeholder of a slot without a sampled chunk (R314). -/
def isPlaceholder (h : Hdr) : Bool := hFormat h == 0x01 && hRows h == 1 && hCols h == 1 && hAllzero h

/-- Whether a tile is a bound tile of the collective's shape, no placeholder (R322, R323). -/
def boundOk (x : Coll) (t : Tile) : Bool :=
  let h := t.header
  headerOk h t.payload.length && hFormat h == 0x01 && hLayout h == 0 && hRows h == x.rows && hCols h == 1 && !isPlaceholder h

/-- Whether a tile is a chunk of the collective's format and shape. -/
def chunkOk (x : Coll) (t : Tile) : Bool :=
  let h := t.header
  headerOk h t.payload.length && hFormat h == x.format && hRows h == x.rows && hCols h == x.cols

/-- |a| of an exact value. -/
def numAbs (a : Num) : Num := if numLt a (numOfInt 0) then numNeg a else a

/-- Whether forward and check chunk agree within the tolerance (R323). -/
def chunksAgree (x : Coll) (f k bf bc : Tile) : Bool :=
  boundOk x bf && boundOk x bc && chunkOk x f && chunkOk x k &&
    (let fs := tileNums f
     let ks := tileNums k
     let bfs := tileNums bf
     let bcs := tileNums bc
     (List.range fs.length).all fun i =>
       let d := numAbs (numAdd (fs.getD i (numOfInt 0)) (numNeg (ks.getD i (numOfInt 0))))
       let tol := numMul (.fin false 1025 1024 0)
         (numAdd (bfs.getD (i / x.cols) (numOfInt 0)) (bcs.getD (i / x.cols) (numOfInt 0)))
       !numLt tol d)

/-- What the check of a RECV gives: no check needed, wait, ended, a poisoned tile among the four, or the outcome of a comparison
with the collective's number; the last two name the check's landing. -/
inductive CheckResult where
  | none | wait | ended
  | poisoned (check : Landing)
  | compared (agree : Bool) (number : Nat) (check : Landing)
  deriving DecidableEq, Repr

/-- The check of R323 for tile `c` of a transfer that a job stream receives under generation `gen`. The use of the check
transfer is the one of this round: not one that a RECV of an earlier step has compared (log entry 54). A poisoned tile among
the four is handled under R49, never compared (R329, R358, R359). -/
def plankCheck (s : State) (j gen : Nat) (t : Transfer) (c : Nat) : CheckResult :=
  match s.collOf j t.id with
  | none => .none
  | some x =>
    let n := x.members.length
    let round := ((s.stepOf j).number + x.stepOffset) % 2 ^ 32
    if x.kind != 0 || x.slots = 0 || t.id != (x.idBase + n - 2) % 2 ^ 20 || decide (x.chunks ≤ c) ||
        (c + x.rank + round) % x.period != 0 then .none
    else
      let i := ((List.range c).filter fun k => (k + x.rank + round) % x.period == 0).length
      let next := x.members.getD ((x.rank + 1) % n) 0
      match s.landingFrom t.src t.srcJs t.id, s.landingFrom next t.srcJs ((x.idBase + 2 * n - 3) % 2 ^ 20) with
      | some (tf, lf), some (tc, lc) =>
        let stale := match lc.round with | some r => r != (s.stepOf j).number | none => false
        if stale then .wait
        else if lc.phase = 2 then .ended
        else if lf.gen != gen || !(lf.landed.contains (x.chunks + i) && lc.landed.contains (2 * i) && lc.landed.contains (2 * i + 1)) then
          if lc.lost then .ended else .wait
        else
          let ts := [s.slotTile tf c, s.slotTile tc (2 * i), s.slotTile tf (x.chunks + i), s.slotTile tc (2 * i + 1)]
          let tile := fun n => ts.getD n { header := 0, payload := [] }
          if ts.any fun t => hPoison t.header then .poisoned lc
          else .compared (chunksAgree x (tile 0) (tile 1) (tile 2) (tile 3)) x.number lc
      | _, _ => .wait

/-- A counter of a collective (R316): 0 ROUNDS, 1 ROUNDS_WITHDRAWN, 2 CHECKS, 3 CHECK_FAILS, 4 STALE_EPOCH_DROPS. -/
def collCounter (number which : Nat) : Key := ⟨0x9040, 4, 5 * number + which⟩
/-- A counter of a ring (R342): 0 ROUNDS, 1 ROUNDS_WITHDRAWN, 2 STARVED_CYCLES, 3 STARVED_STEPS. -/
def ringCounter (number which : Nat) : Key := ⟨0x9050, 4, 4 * number + which⟩

/-! ### RECV (R73) -/

/-- What RECV finds for its tile: it waits, a landed tile at an address, or the end of the use. -/
inductive RecvInput where
  | wait | tile (addr : Nat) | ended
  deriving DecidableEq, Repr

/-- The landing that a RECV of a job stream names: the first admitted one of its identifier. -/
def State.recvTransfer (s : State) (j id : Nat) : Option Transfer :=
  (s.findTransfer fun x t => decide (3 ≤ x.state) && t.dst == s.moduleId && t.dstJs == j && t.id == id).map (·.2.2)

/-- R73, R429: landed, ended, or neither. -/
def recvInput (s : State) (j id gen tile : Nat) : RecvInput :=
  if (s.stepOf j).manualWithdraw then .ended
  else
    match s.recvTransfer j id with
    | none => .wait
    | some t =>
      match s.landing? t.src t.srcJs id with
      | none => .wait
      | some l =>
        if l.gen != gen then .wait
        else if l.phase = 2 then .ended
        else if l.landed.contains tile then .tile (tileSlot t tile).1
        else if l.lost then .ended
        else .wait

/-- Whether a job stream's transfer runs on a group channel (R331). -/
def groupChannel (vc : Nat) : Bool := decide (4 ≤ vc) && decide (vc ≤ 11)

/-- The copy of a landed tile from address `a` into H0: a LOAD without region check (R73), under the epoch rule of
R331. -/
def recvCopy (s : State) (c j : Nat) (i : StationInsn) (token a vc : Nat) : Issue :=
  let h0 := iH0 i.w0
  let m := s.seen (coreRequester c)
  let hd := hdrOfBytes (m.readMem a 64)
  let n := 256 * (hGranules hd + 1)
  let s1 := s.coreRead c token a (64 + n)
  if m.spanPoisoned a (64 + n) then .go (installFlight i token false (poisonTile s c 5 h0 0 0)) s1
  else
    let t : Tile := { header := hd, payload := m.readMem (a + 64) n }
    if hPoison hd then .go (installFlight i token false (copyPoisoned s c 5 h0 hd t.payload)) (s1.poisonFault c 5 h0)
    else if !headerOk hd n then withdrawnIssue s c 5 i token 0x2003 h0 h0
    else if capacityBytes (s.core c) h0 < n then withdrawnIssue s c 5 i token 0x2002 h0 h0
    else if !tileCrcOk t then withdrawnIssue s1 c 5 i token 0x2006 h0 h0
    else if groupChannel vc && hEpoch hd != s.val (keyEpoch j) then
      .go (installFlight i token false (flaggedCopy t)) (s1.coreFault 0x2503 c 5 h0 (hEpoch hd))
    else .go (installFlight i token false t) s1

/-- The landed tile at address `a` installed with POISON: an input of the RECV, the tile itself or a tile of its check, is
poisoned (R49, R329). -/
def recvPoisoned (s : State) (c : Nat) (i : StationInsn) (token a : Nat) : Issue :=
  let h0 := iH0 i.w0
  let m := s.seen (coreRequester c)
  let hd := hdrOfBytes (m.readMem a 64)
  let n := 256 * (hGranules hd + 1)
  let t := flaggedCopy { header := hd, payload := m.readMem (a + 64) n }
  .go (installFlight i token false (if m.spanPoisoned a (64 + n) then poisonTile s c 5 h0 0 0
      else copyPoisoned s c 5 h0 t.header t.payload))
    ((s.coreRead c token a (64 + n)).poisonFault c 5 h0)

/-- RECV's own part (R73, R323, R331). -/
def recvIssue (c : Nat) (s : State) (i : StationInsn) (token : Nat) : Issue :=
  let w := i.w0
  let h0 := iH0 w
  let poisoned := fun (s : State) => Issue.go (installFlight i token false
    (poisonTile s c 5 h0 (iTransfer w) (iGeneration w))) s
  match s.jsOfCore c with
  | none => .stall
  | some j =>
    match recvInput s j (iTransfer w) (iGeneration w) (iTile w) with
    | .wait => .stall
    | .ended => poisoned s
    | .tile a =>
      match s.recvTransfer j (iTransfer w) with
      | none => .stall
      | some t =>
        let s := s.markRound j t.id
        let used := fun (l : Landing) => s.setLanding { l with round := some (s.stepOf j).number }
        match plankCheck s j (iGeneration w) t (iTile w) with
        | .none => recvCopy s c j i token a t.vc
        | .wait => .stall
        | .ended => poisoned s
        | .poisoned check => recvPoisoned (used check) c i token a
        | .compared agree number check =>
          let s := (used check).bump (collCounter number 2) 1
          if agree then recvCopy s c j i token a t.vc
          else poisoned ((s.bump (collCounter number 3) 1).coreFault 0x2502 c 5 h0 t.id)

/-- The ring that starves a core (R349): its RECV head waits for a ring transfer that has not landed, with MAT and VEC
empty. -/
def starvedBy (s : State) (c : Nat) : Option (Nat × Ring) :=
  let k := s.core c
  match (k.queue 5), s.jsOfCore c with
  | i :: _, some j =>
    if iOpcode i.w0 = 0x28 && (k.queue 1).isEmpty && (k.queue 2).isEmpty && (k.flight 1).isEmpty && (k.flight 2).isEmpty &&
        recvInput s j (iTransfer i.w0) (iGeneration i.w0) (iTile i.w0) == .wait then
      (s.ringOf j (iTransfer i.w0)).map fun x => (j, x)
    else none
  | _, _ => none

/-- Starved cycles counted, their number free (R349, log entry 19), and the note of a ring that claims overlap. -/
def countStarved (s : State) (c : Nat) : State :=
  match starvedBy s c with
  | none => s
  | some (j, x) =>
    let f := s.free 32
    let s := f.2.bump (ringCounter x.number 2) (f.1 + 1)
    let st := s.stepOf j
    if x.compute = 0 || st.starved.contains x.number then s
    else
      let s := s.setStep j { st with starved := st.starved ++ [x.number] }
      (s.coreFault 0x1503 c 5 0xFFF x.number).bump (ringCounter x.number 3) 1

/-- RECV (R73). -/
def execRecv (c : CoreId) (s : State) : Host.Outcome State Fault Refusal :=
  .next (countStarved (issueStation s c.val 5 0x28 (recvIssue c.val)) c.val)

end Sys2Proof.Machine
end

