-- ==== Sys2Proof/Machine/Link.lean ====
section
/-! DEFINITION. What the ports share: their entries (R260, R285), packets and control blocks as bytes (R258, R259, R270),
sending sequenced bolts (R252 to R256), and credits (R268). -/
namespace Sys2Proof.Machine

/-! ### Ports and their entries -/

/-- An entry of port `p` (R285). -/
def portKey (p sub : Nat) : Key := ⟨0x3100 + p, sub, 0⟩
/-- A port's link state. -/
def State.link (s : State) (p : Nat) : Link := mapGet {} s.links p
/-- A port's link state replaced. -/
def State.setLink (s : State) (p : Nat) (x : Link) : State := { s with links := mapSet {} s.links p x }
/-- PORT_STATE (R260). -/
def State.portState (s : State) (p : Nat) : Nat := s.val (portKey p 3)
/-- PORT_STATE written. -/
def State.setPortState (s : State) (p v : Nat) : State := s.setVal (portKey p 3) v
/-- PROFILE: 1 Near, 2 Far. -/
def State.portProfile (s : State) (p : Nat) : Nat := s.val (portKey p 4)
/-- PEER_MODULE of a port. -/
def State.peerModule (s : State) (p : Nat) : Nat := s.val (portKey p 7)
/-- Whether a port carries packets: UP, or DRAINING what it holds; no port of a doffed module does (R257, R432). -/
def State.portCarries (s : State) (p : Nat) : Bool := s.doffStep == 0 && (s.portState p == 6 || s.portState p == 7)
/-- Whether a port is UP. -/
def State.portUp (s : State) (p : Nat) : Bool := s.doffStep == 0 && s.portState p == 6
/-- Whether a port exchanges bolts: from step 5 of R261 on. -/
def State.portTalks (s : State) (p : Nat) : Bool :=
  s.doffStep == 0 && decide (3 ≤ s.portState p) && decide (s.portState p ≤ 7)

/-- Where a port's fault is recorded (R442). -/
def portFaultAt (s : State) (p : Nat) : FaultAt :=
  { domain := 3, clock := clkBand, locKind := 4, location := p, peer := s.peerModule p }

/-- RTT of a port in ns (R263). -/
def State.portRtt (s : State) (p : Nat) : Nat := s.val (portKey p 9)
/-- ASYM_ALLOWANCE of a port in ns (R309). -/
def State.portAsym (s : State) (p : Nat) : Nat := s.val ⟨0x3200, 4, p⟩

/-! ### Packets as bytes (R270) -/

/-- The 64-byte header of a packet as a number. -/
def pktHeader (p : Pkt) : BitVec 512 :=
  let h := setf (0 : BitVec 512) 496 16 p.dst.toNat
  let h := setf (setf h 480 16 p.src.toNat) 476 4 p.vc.toNat
  let h := setf (setf h 472 4 p.origVc.toNat) 468 4 p.kind.toNat
  let h := setf (setf h 466 2 p.js.toNat) 465 1 (if p.escaped then 1 else 0)
  let h := setf (setf h 464 1 (if p.exact then 1 else 0)) 456 8 p.hops.toNat
  let h := setf (setf h 436 20 p.id.toNat) 428 8 p.gen.toNat
  let h := setf (setf h 404 24 p.seq.toNat) 376 28 p.budget.toNat
  let h := setf (setf h 344 32 p.epoch.toNat) 328 16 p.tileIndex.toNat
  let h := setf (setf h 311 17 p.tileOffset.toNat) 298 13 p.length.toNat
  setf (setf h 297 1 (if p.last then 1 else 0)) 0 297 p.reserved.toNat

/-- The bytes of a packet. -/
def pktBytes (p : Pkt) : List Byte := natLe 64 (pktHeader p).toNat ++ p.payload

/-- A packet from its header and payload bytes. -/
def pktOf (h : BitVec 512) (payload : List Byte) : Pkt :=
  { dst := BitVec.ofNat 16 (getf h 496 16), src := BitVec.ofNat 16 (getf h 480 16), vc := BitVec.ofNat 4 (getf h 476 4)
    origVc := BitVec.ofNat 4 (getf h 472 4), kind := BitVec.ofNat 4 (getf h 468 4), js := BitVec.ofNat 2 (getf h 466 2)
    escaped := bitf h 465, exact := bitf h 464, hops := BitVec.ofNat 8 (getf h 456 8), id := BitVec.ofNat 20 (getf h 436 20)
    gen := BitVec.ofNat 8 (getf h 428 8), seq := BitVec.ofNat 24 (getf h 404 24), budget := BitVec.ofNat 28 (getf h 376 28)
    epoch := BitVec.ofNat 32 (getf h 344 32), tileIndex := BitVec.ofNat 16 (getf h 328 16)
    tileOffset := BitVec.ofNat 17 (getf h 311 17), length := BitVec.ofNat 13 (getf h 298 13), last := bitf h 297
    reserved := BitVec.ofNat 297 (getf h 0 297), payload := payload }

/-- Bytes of a packet on the wire: 64 + `PKT.LENGTH`. -/
def pktWire (p : Pkt) : Nat := 64 + p.length.toNat
/-- 64-byte units that a packet occupies (R268). -/
def pktUnits (p : Pkt) : Nat := ceilDiv (pktWire p) 64

/-! ### Control blocks (R258, R259, R263, R458) -/

/-- A control block of a type: content in bits 247 to 0. -/
def ctlBlock (typ content : Nat) : Nat := typ * 2 ^ 248 + content % 2 ^ 248

/-- A NAP block. -/
def napBlock (n : Nap) : Nat :=
  ctlBlock 1 (n.moduleId.toNat * 2 ^ 232 + n.port.toNat * 2 ^ 227 + n.state.toNat * 2 ^ 224 + n.seq.toNat * 2 ^ 208 +
    n.profile.toNat * 2 ^ 206)

/-- A CREDIT block for one channel: the cumulative units freed on it. -/
def creditBlock (vc freed : Nat) : Nat := ctlBlock 2 (vc * 2 ^ 244 + 1 * 2 ^ 240 + freed % 2 ^ 32 * 2 ^ 208)

/-- A CREDIT block for seven channels or fewer from `first` on. -/
def creditBlocks (first : Nat) (units : List Nat) : Nat :=
  ctlBlock 2 (first * 2 ^ 244 + units.length * 2 ^ 240 +
    ((List.range units.length).map fun i => units.getD i 0 % 2 ^ 32 * 2 ^ (208 - 32 * i)).foldl (· + ·) 0)

/-- A NAK block. -/
def nakBlock (seq : Nat) : Nat := ctlBlock 3 (seq % 2 ^ 20 * 2 ^ 228)

/-- A SACK block: cumulative acknowledgement, and at most six ranges (first missing, length). -/
def sackBlock (cum : Nat) (ranges : List (Nat × Nat)) : Nat :=
  let rs := ranges.take 6
  ctlBlock 4 (cum % 2 ^ 20 * 2 ^ 228 + rs.length * 2 ^ 224 +
    ((List.range rs.length).map fun i =>
      let r := rs.getD i (0, 1)
      (r.1 % 2 ^ 20 * 2 ^ 12 + (r.2 - 1) % 2 ^ 12) * 2 ^ (192 - 32 * i)).foldl (· + ·) 0)

/-- A PROBE block; while it waits to be sent, `PROBE.ECHO_HOLD` holds the band count of the echoed probe's arrival. -/
def probeBlock (x : Probe) : Nat :=
  ctlBlock 5 (x.id.toNat * 2 ^ 240 + x.ts.toNat * 2 ^ 176 + x.echoTs.toNat * 2 ^ 112 + x.echoHold.toNat * 2 ^ 80 +
    x.echoId.toNat * 2 ^ 72)

/-- A control block as its bolt leaves (R263): a PROBE then gets `PROBE.TS` and `PROBE.ECHO_HOLD` from the band count. -/
def stampBlock (now : DWord) (b : Nat) : Nat :=
  let x := BitVec.ofNat 256 b
  if getf x 248 8 != 5 then b
  else
    let x := if getf x 176 64 = 0 then x else setf x 176 64 now.toNat
    (if getf x 112 64 = 0 then x else setf x 80 32 (now.toNat + 2 ^ 32 - getf x 80 32)).toNat

/-- A HELLO block. -/
def helloBlock (x : Hello) : Nat :=
  ctlBlock 6 (x.moduleId.toNat * 2 ^ 232 + x.port.toNat * 2 ^ 227 + x.profile.toNat * 2 ^ 225 +
    (if x.encrypt then 2 ^ 224 else 0) + x.rankTx.toNat * 2 ^ 208 + x.rankExpected.toNat * 2 ^ 192 + x.stepping.toNat * 2 ^ 176)

/-- The KEY blocks of a message, 24 bytes to a block; `n` bounds their number. -/
def keyBlocks (msg phase : Nat) : Nat → Nat → List Byte → List Nat
  | 0, _, _ => []
  | n + 1, frag, bs =>
    let piece := bs.take 24
    let rest := bs.drop 24
    ctlBlock 7 (msg * 2 ^ 244 + frag % 2 ^ 12 * 2 ^ 232 + piece.length * 2 ^ 227 + (if rest.isEmpty then 2 ^ 226 else 0) +
      phase % 4 * 2 ^ 224 + leNat piece) :: (if rest.isEmpty then [] else keyBlocks msg phase n (frag + 1) rest)

/-- A GAP block. -/
def gapBlock (seq : Nat) : Nat := ctlBlock 8 (seq % 2 ^ 20 * 2 ^ 228)

/-! ### Bolts (R252 to R256) -/

/-- The 8-byte header of a bolt. -/
def boltHeader (kind : Nat) (enc : Bool) (phase seq ack first : Nat) : List Byte :=
  let h := setf (setf (0 : BitVec 64) 60 4 kind) 59 1 (if enc then 1 else 0)
  let h := setf (setf h 57 2 phase) 36 20 seq
  natLe 8 (setf (setf h 16 20 ack) 0 9 first).toNat

/-- A bolt closed by its link CRC. -/
def closeBolt (header body tag : List Byte) : List Byte :=
  let b := header ++ sliceBytes body 0 484 ++ sliceBytes tag 0 16
  b ++ natLe 4 (crc32c b)

/-- Whether this end is "lo": the lower module ID (R459). -/
def State.isLo (s : State) (p : Nat) : Bool := decide (s.moduleId < s.peerModule p)

/-- The IDLE bolt of a port (R253): body, tag and `BOLT.ENCRYPTED` zero; SEQ names the transmit counter, ACK the next bolt
expected. -/
def idleBolt (s : State) (p : Nat) : List Byte :=
  let l := s.link p
  closeBolt (boltHeader 2 false 0 (l.txCount % 2 ^ 20) (l.rxNext % 2 ^ 20) 0) [] []

/-- The WITHDRAWN bolt of a port in a doff of a fault code (R257): module ID, code, zeros. -/
def withdrawnBytes (s : State) (p code : Nat) : List Byte :=
  let l := s.link p
  closeBolt (boltHeader 3 false 0 (l.txCount % 2 ^ 20) (l.rxNext % 2 ^ 20) 0) (natLe 2 s.moduleId ++ natLe 2 code) []

/-- The key and salt of one direction of a phase's material: `lo` for lo to hi (R459). -/
def directionKey (m : List Byte) (lo : Bool) : List Byte × List Byte :=
  if lo then (sliceBytes m 0 32, sliceBytes m 32 4) else (sliceBytes m 36 32, sliceBytes m 68 4)

/-- Key material of a phase (R459). -/
def Keys.of (k : Keys) (phase : Nat) : Option (List Byte) := (k.material.find? (·.1 == phase)).map (·.2)

/-- The nonce of a bolt (R255). -/
def boltNonce (salt : List Byte) (count : Nat) : List Byte := salt ++ natLe 8 (count % 2 ^ 64)

/-- Bolts that a port may have unacknowledged (R265, R266). -/
def boltLimit (s : State) (p : Nat) : Nat := if s.portProfile p = 2 then 2 ^ 19 else 4096

/-- Whether a port may send a sequenced bolt now: room for acknowledgement, no key change due (R256, R461). -/
def maySend (s : State) (p : Nat) : Bool :=
  let l := s.link p
  s.portTalks p && decide (l.unacked.length < boltLimit s p) &&
    !(l.keys.established && (l.keys.due || decide (2 ^ 30 ≤ l.keys.phaseBolts)))

/-- A sequenced bolt built, kept for replay and sent (R253, R255, R265, R266). -/
def State.sendBolt (s : State) (p kind first : Nat) (body : List Byte) : State :=
  let l := s.link p
  let k := l.keys
  let ack := l.rxNext % 2 ^ 20
  let header := boltHeader kind k.established (if k.established then k.txPhase % 4 else 0) (l.txCount % 2 ^ 20) ack first
  let bytes :=
    if k.established then
      let d := directionKey ((k.of k.txPhase).getD []) (s.isLo p)
      let c := Config.gcmSeal d.1 (boltNonce d.2 l.txCount) header (sliceBytes body 0 484)
      closeBolt header c.1 c.2
    else closeBolt header body []
  let b : TxBolt := { count := l.txCount, bytes := bytes, sends := 1 }
  let s := s.setLink p { l with
    txCount := l.txCount + 1
    unacked := l.unacked ++ [b]
    keys := { k with phaseBolts := if k.established then k.phaseBolts + 1 else k.phaseBolts } }
  -- a Far port writes the bolt into its replay region (R266)
  let s := match s.regions.find? (·.number == 992 + p) with
    | some r =>
      if s.portProfile p = 2 then
        s.requestAlone (.port (Fin.ofNat 32 p)) (p / 8) (r.base + 512 * (b.count % 2 ^ 19)) 512 (some bytes)
      else s
    | none => s
  (s.bump (portKey p 0x11) 1).emit (.bolt p bytes)

/-- A CONTROL bolt with one block (R258). -/
def controlBody (block : Nat) : List Byte := sliceBytes (natLe 32 block) 0 484

/-- Waiting control blocks and whole DATA bolts sent while the port may send; `n` bounds their number. A rest of less
than 484 bytes waits for more (log entry 18). -/
def pumpPort (p : Nat) : Nat → State → State
  | 0, s => s
  | n + 1, s =>
    if !maySend s p then s
    else
      let l := s.link p
      match l.blocks with
      | b :: bs => pumpPort p n ((s.setLink p { l with blocks := bs }).sendBolt p 1 0 (controlBody (stampBlock (s.clock clkBand) b)))
      | [] =>
        if l.stream.length < 484 then s
        else
          let first := match l.heads.find? (· < 484) with | some h => h | none => 0x1FF
          let heads := (l.heads.filter (484 ≤ ·)).map (· - 484)
          let s' := s.setLink p { l with stream := l.stream.drop 484, heads := heads }
          pumpPort p n (s'.sendBolt p 0 first (l.stream.take 484))

/-- What a port has waiting is sent. -/
def State.pump (s : State) (p : Nat) : State :=
  let l := s.link p
  pumpPort p (l.blocks.length + l.stream.length / 484 + 1) s

/-- As `pump`, after a bolt has come: where no sequenced bolt carries the new ACK, the IDLE bolt that fills the lanes does
(R253). -/
def State.pumpAfter (s : State) (p : Nat) : State :=
  let t := s.pump p
  if (t.link p).txCount = (s.link p).txCount && s.portTalks p then t.emit (.idleBolts p (idleBolt t p)) else t

/-- Control blocks sent on a port that exchanges bolts. -/
def State.sendBlocks (s : State) (p : Nat) (bs : List Nat) : State :=
  if !s.portTalks p then s
  else
    let l := s.link p
    (s.setLink p { l with blocks := l.blocks ++ bs }).pump p

/-! ### Credits (R268) -/

/-- RESERVED_UNITS of a channel of a port, without the management units (R294, R309). -/
def State.reservedUnits (s : State) (p vc : Nat) : Nat :=
  ((s.schedules.filter fun x => decide (2 ≤ x.state)).flatMap fun x =>
    (x.res.filter fun r => r.module == s.moduleId && r.port == p && r.vc == vc).map (·.units)).foldl (· + ·) 0

/-- The management units of a channel (R294). -/
def managementUnits (vc : Nat) : Nat := if vc = 0 then 6 else if vc = 1 then 8 else 0

/-- The credit window of a channel of a port in 64-byte units: f in 256ths, RTT in ns (R268). -/
def State.window (s : State) (p vc : Nat) : Nat :=
  let f := s.reservedUnits p vc + managementUnits vc
  -- f/256 × 100 bytes per ns × (RTT + 3,000 ns)
  ceilDiv (8320 * 256 + f * 100 * (s.portRtt p + 3000)) (256 * 64)

/-- Whether a channel of a port has credit for a number of units. -/
def State.hasCredit (s : State) (p vc n : Nat) : Bool :=
  let l := s.link p
  decide (mapGet 0 l.sentUnits vc + n ≤ s.window p vc + mapGet 0 l.credited vc)

/-- Units of a port's receive buffer freed; the peer is told (R268). -/
def State.freeUnits (s : State) (p vc n : Nat) : State :=
  let l := s.link p
  let f := mapGet 0 l.freed vc + n
  let s := s.setLink p { l with freed := mapSet 0 l.freed vc f }
  if s.portCarries p then s.sendBlocks p [creditBlock vc f] else s

/-- The buffer of a packet that came from a port is freed. -/
def State.freeOrigin (s : State) (o : Option (Nat × Nat)) (n : Nat) : State :=
  match o with
  | some (p, vc) => s.freeUnits p vc n
  | none => s

/-! ### Packets handed on -/

/-- The first packet handed on that is `pkt`, from port `p` or of this module's own. -/
def State.findHanded (s : State) (p : Nat) (pkt : Pkt) : Option Arrived :=
  s.handed.find? fun a => a.pkt == pkt && (a.port == some p || a.port.isNone)

/-- The list without the first element that meets a test. -/
def removeFirst {α : Type} (p : α → Bool) : List α → List α
  | [] => []
  | x :: xs => if p x then xs else x :: removeFirst p xs

/-- A packet is handed on (R271): it leaves the list; the answer says how it came. A packet that the list does not hold
came from port `p` without a gap (log entry 5). -/
def State.takeHanded (s : State) (p : Nat) (pkt : Pkt) : Arrived × State :=
  match s.findHanded p pkt with
  | some a => (a, { s with handed := removeFirst (· == a) s.handed })
  | none => ({ port := some p, pkt := pkt, gap := 0, since := s.bandNow }, s)

/-- A packet consumed: its buffer is freed (R268). -/
def State.consume (s : State) (a : Arrived) : State :=
  match a.port with
  | some p => s.freeUnits p a.pkt.vc.toNat (pktUnits a.pkt)
  | none => s

end Sys2Proof.Machine
end

