-- ==== Sys2Proof/Machine/Mat.lean ====
section
/-! DEFINITION. The matrix array: shapes and conditions (R83 to R86), stationary banks (R90, R93), accumulator banks
(R94, R95, R97), accumulation (R98 to R104) and its counters (R111). Results are formed at issue and the bank is not
read before completion (log entry 9). -/
namespace Sys2Proof.Machine

/-- The bank mode of a MAT opcode (R94). -/
def mmaMode (op : Nat) : BankMode :=
  if op = 0xA1 then .f16x32 else if op = 0xA5 then .i32x32 else if op = 0xA8 then .f32x64
  else if op = 0xB0 then .max32 else if op = 0xB1 then .min32 else .f32x32

/-- The value an entry is cleared to (R94); in MAXMIN banks even entries are values and odd ones indices. -/
def clearedEntry (m : BankMode) (key : Nat) : Word :=
  match m with
  | .max32 => if key % 2 = 0 then 0xFF800000#32 else 0xFFFFFFFF#32
  | .min32 => if key % 2 = 0 then 0x7F800000#32 else 0xFFFFFFFF#32
  | _ => 0

/-- An accumulator entry. -/
def AccBank.get (b : AccBank) (key : Nat) : Word := mapGet (clearedEntry b.mode key) b.entries key
/-- An accumulator entry written. -/
def AccBank.put (b : AccBank) (key : Nat) (v : Word) : AccBank :=
  { b with entries := mapSet (clearedEntry b.mode key) b.entries key v }

/-- The entry of accumulator row `m`, column `c` (R89). -/
def bankKey (mode : BankMode) (m c : Nat) : Nat :=
  match mode with
  | .f32x64 => 512 * (c / 2) + 2 * m + c % 2
  | .max32 => 512 * c + 2 * m
  | .min32 => 512 * c + 2 * m
  | _ => 512 * c + m

/-- Columns N of a bank mode (R83, R94). -/
def bankCols (mode : BankMode) : Nat := if mode = .f32x64 then 64 else 32

/-- A FREE bank opened by an issuing MAT instruction, its poison mark kept (R94, R97). -/
def openBank (k : Core) (b : Bool) (mode : BankMode) : Core :=
  let x := k.bank b
  if x.state = .free then k.setBank b { state := .opened, mode := mode, poison := x.poison, entries := [] } else k

/-- The tile conditions of R85 beside well-formedness. -/
def mmaTilesOk (op : Nat) (a b : Hdr) : Bool :=
  let fa := hFormat a
  let fb := hFormat b
  let la := hLayout a
  let lb := hLayout b
  let cols := hCols a
  let shape := fun (fok : Bool) (l1 l2 colMax rowMax : Nat) =>
    fok && la == l1 && lb == l2 && decide (cols ≤ colMax) && decide (hRows b ≤ rowMax)
  let f8 := isFp8 fa && isFp8 fb
  hCols b == cols && hScaleKind a == 0 && hScaleKind b == 0 &&
    match op with
    | 0xA0 => shape f8 0 0 256 32
    | 0xB0 => shape f8 0 0 256 32
    | 0xB1 => shape f8 0 0 256 32
    | 0xA1 => shape f8 0 0 512 32
    | 0xA2 => shape ((fa == 2 || fa == 3) && fb == fa) 0 0 128 32
    | 0xA3 => shape ((fa == 8 || fa == 9) && (fb == 8 || fb == 9)) 3 3 256 32
    | 0xA4 => shape (fa == 0xA && fb == 0xA) 3 3 512 32
    | 0xA5 => shape (fa == 0xB && fb == 0xB) 0 0 256 32
    | 0xA6 => shape (f8 && cols % 4 == 0) 0 2 512 32
    | 0xA7 => shape (fa == 0xA && fb == 0xA) 3 2 1024 32
    | 0xA8 => shape f8 0 0 128 64
    | _ => false

/-- The stationary rows as (column, value) pairs of the elements that multiply: the kept ones of layout 2, every one
otherwise (R86, R88). -/
def stationaryRows (t : Tile) : List (List (Nat × Num)) :=
  let h := t.header
  let cols := hCols h
  let xs := tileNums t
  let row := fun r => (List.range cols).map fun c => (c, xs.getD (r * cols + c) .nan)
  if hLayout h = 2 then
    let pos := tilePositions t
    (List.range (hRows h)).map fun r => (List.range (cols / 2)).map fun i =>
      let c := 4 * (i / 2) + pos.getD (r * (cols / 2) + i) 0
      (c, xs.getD (r * cols + c) .nan)
  else (List.range (hRows h)).map row

/-- The products of one streamed row with one stationary row, with their lanes. -/
def laneProducts (a : List Num) (b : List (Nat × Num)) : List (Nat × Num) :=
  b.map fun e => (e.1, numMul (a.getD e.1 .nan) e.2)

/-- Whether a shape and format form their sums in the window of R99. -/
def mmaWindow (op f : Nat) : Bool := (op == 0xA2 && f == 2) || op == 0xA3 || op == 0xA4 || op == 0xA7

/-- What accumulation adds up: the bank, saturations, entries that became NaN or infinite (R100, R101). -/
structure AccRun where
  bank : AccBank
  sats : Nat := 0
  nonfinite : Nat := 0
  deriving DecidableEq, Repr

/-- One entry accumulated (R100, R101): `s` is the exact chunk sum. An entry that an OVERWRITE has made finite counts anew when
it becomes non-finite again; a non-finite value over a non-finite one does not (DESIGN CHOICE, log entry 52). -/
def accumulate (ow : Bool) (r : AccRun) (key : Nat) (s : Num) : AccRun :=
  let e := r.bank.get key
  match r.bank.mode with
  | .f16x32 =>
    let v := accF16 ow e.toNat s
    let bad := fun (x : Nat) => decide (x % 2 ^ 15 ≥ 0x7C00)
    { bank := r.bank.put key (BitVec.ofNat 32 v.1), sats := r.sats + (if v.2 then 1 else 0)
      nonfinite := r.nonfinite + (if bad v.1 && !bad e.toNat then 1 else 0) }
  | .i32x32 =>
    let n : Int := match s with | .fin neg m _ _ => if neg then -(m : Int) else m | _ => 0
    let v := accI32 ow e n
    { r with bank := r.bank.put key v.1, sats := r.sats + (if v.2 then 1 else 0) }
  | _ =>
    let v := accF32 ow e s
    { r with bank := r.bank.put key v
             nonfinite := r.nonfinite + (if nonfiniteF32 v && !nonfiniteF32 e then 1 else 0) }

/-- The sum of an INT8 chunk as an exact integer value; its terms have denominator 1 and exponent 0. -/
def intSum (ps : List Num) : Num :=
  let v : Int := (ps.map fun p => match p with
    | .fin neg m _ _ => if neg then -(m : Int) else (m : Int) | _ => 0).foldl (· + ·) 0
  numOfInt v

/-- Whether a candidate (value, index) beats a pair (R103): by its value, or between equal values by a lower index. -/
def beatsPair (isMin : Bool) (a b : Num × Nat) : Bool :=
  let gt := fun x y => if isMin then ltMin x y else gtMax x y
  gt b.1 a.1 || (!gt a.1 b.1 && decide (b.2 < a.2))

/-- The better of a (value, index) pair and a candidate (R103). -/
def betterPair (isMin : Bool) (a b : Num × Nat) : Num × Nat := if beatsPair isMin a b then b else a

/-- One entry of a MAXMIN bank (R101, R103); nothing is done without a product. -/
def keepWinner (isMin ow : Bool) (chunk : Nat) (r : AccRun) (key : Nat) (ps : List (Nat × Num)) : AccRun :=
  match ps.map fun p => (p.2, chunk * 256 + p.1) with
  | [] => r
  | p :: rest =>
    let win := rest.foldl (betterPair isMin) p
    let old := r.bank.get key
    let idx := r.bank.get (key + 1)
    let takes := ow || beatsPair isMin (ofF32 old, idx.toNat) win
    let v := if takes then toF32 win.1 else old
    let first := nonfiniteF32 v && v != clearedEntry r.bank.mode key &&
      (!nonfiniteF32 old || old == clearedEntry r.bank.mode key)
    { r with bank := (r.bank.put key v).put (key + 1) (if takes then BitVec.ofNat 32 win.2 else idx)
             nonfinite := r.nonfinite + (if first then 1 else 0) }

/-- The accumulation of a pass: streamed rows against stationary rows into the bank (R84, R86, R89, R98, R103). -/
def runPass (w : QWord) (bank : AccBank) (a st : Tile) : AccRun :=
  let op := iOpcode w
  let m := iField w 33 9 + 1
  let ow := iField w 53 2 == 1
  let cols := hCols a.header
  let xs := tileNums a
  let rows := stationaryRows st
  let window := mmaWindow op (hFormat a.header)
  (List.range m).foldl (fun r i =>
    let ar := (xs.drop ((iField w 17 16 + i) * cols)).take cols
    (List.range (bankCols bank.mode)).foldl (fun r c =>
      let key := bankKey bank.mode (iField w 42 9 + i) c
      if op = 0xB0 || op = 0xB1 then
        keepWinner (op == 0xB1) ow (iField w 0 17) r key (laneProducts ar (rows.getD c []))
      else
        let ps := (laneProducts ar (rows.getD c [])).map (·.2)
        accumulate ow r key (if op = 0xA5 then intSum ps else chunkSum window ps)) r) { bank := bank }

/-- A skipped instruction's effect on its entries (R104). -/
def skipPass (w : QWord) (bank : AccBank) : AccBank :=
  if iField w 53 2 != 1 then bank else
    (List.range (iField w 33 9 + 1)).foldl (fun b i =>
      (List.range (bankCols b.mode)).foldl (fun b c => b.put (bankKey b.mode (iField w 42 9 + i) c) 0) b) bank

/-- Whether the keep conditions of R93 hold. -/
def keepOk (k : Core) (w : QWord) : Bool :=
  match k.lastLoad with
  | none => false
  | some l => l.opcode == iOpcode w && l.handle == iH2 w && !l.passedFree

/-- A row of a per-core table (R111, R135). -/
def coreRow (index sub c : Nat) : Key := ⟨index, sub, c⟩

/-- The stationary tile loaded: MMA.F8H takes both banks, the next single load then bank 0; another load takes the next
bank (R90). -/
def loadStationary (k : Core) (w : QWord) (t : Tile) : Core :=
  let d : Tile := { header := 0, payload := [] }
  let l : LastLoad := { opcode := iOpcode w, handle := iH2 w, passedFree := false }
  if iOpcode w = 0xA1 then
    { k with stationary := mapSet d (mapSet d k.stationary 0 t) 1 t, nextBank := 0, lastLoad := some l }
  else
    { k with stationary := mapSet d k.stationary k.nextBank t, nextBank := 1 - k.nextBank, lastLoad := some l }

/-- The stationary tile of the last loading instruction (R93). -/
def lastStationary (k : Core) : Tile := mapGet { header := 0, payload := [] } k.stationary (1 - k.nextBank)

/-- Stationary banks that a pass of an opcode holds (R90, R92). -/
def banksHeld (op : Nat) : Nat := if op = 0xA1 then 2 else 1

/-- A pass that has its operands: accumulated, counted (R90, R98, R111). -/
def matPass (c : Nat) (s : State) (i : StationInsn) (token : Nat) (a st : Tile) : Issue :=
  let w := i.w0
  let b := iBankB w
  let k := s.core c
  let r := runPass w (k.bank b) a st
  let s := s.setCore c (k.setBank b r.bank)
  let s := s.bump (coreRow 0x8010 1 c) (iField w 33 9 + 1)
  let s := if r.sats = 0 then s else s.bump (coreRow 0x8010 4 c) r.sats
  let s := if r.nonfinite = 0 then s else s.bump (coreRow 0x8010 5 c) r.nonfinite
  .go { plainFlight i token with holdsBanks := banksHeld (iOpcode w), loads := !bitf w 51 } s

/-- A pass whose stationary load finds a broken index plane (R88): it completes WITHDRAWN and holds its bank until then, as
every load does (R90, R92). -/
def brokenLoad (c : Nat) (s : State) (i : StationInsn) (token : Nat) : Issue :=
  match withdrawnIssue s c 1 i token 0x2003 (iH2 i.w0) (iH2 i.w0) with
  | .go f s' => .go { f with holdsBanks := banksHeld (iOpcode i.w0), loads := true } s'
  | x => x

/-- The own part of every MAT instruction: the waits of R90 and R95, then poison (R49), tiles (R43, R85), bank state
(R95), keep (R93), ALLZERO (R104, of an instruction whose index plane keeps R88), checksums (R45), index plane (R88), and the
pass. A load withdrawn for a checksum has used no stationary bank: nextBank and lastLoad stay; one with a broken index plane,
which the load itself finds, has (DESIGN CHOICE, log entry 52). -/
def matIssue (c : Nat) (s : State) (i : StationInsn) (token : Nat) : Issue :=
  let w := i.w0
  let op := iOpcode w
  let k := s.core c
  let b := iBankB w
  let bk := k.bank b
  let mode := mmaMode op
  let keep := bitf w 51
  let h1 := iH1 w
  let h2 := iH2 w
  let ha := readHeader k h1
  let hb := readHeader k h2
  if bk.state = .closed || vecOnBank k b (fun _ => true) then .stall
  else
    let so := s.setCore c (openBank k b mode)
    match poisonedInput k [h1, h2] with
    | some h => poisonedIssue so c 1 i token h
    | none =>
      let bad := if !headerOk ha (256 * (hGranules ha + 1)) then some h1
        else if !headerOk hb (256 * (hGranules hb + 1)) then some h2
        else if !mmaTilesOk op ha hb || decide (hRows ha < iField w 17 16 + iField w 33 9 + 1) then some h1 else none
      match bad with
      | some h => withdrawnIssue so c 1 i token 0x2003 h h
      | none =>
        if bk.state = .opened && bk.mode != mode then withdrawnIssue so c 1 i token 0x2008 0xFFF (iField w 55 1)
        else if keep && !keepOk k w then withdrawnIssue so c 1 i token 0x2009 h2 h2
        else if (hAllzero ha || hAllzero hb) && op != 0xB0 && op != 0xB1 &&
            (keep || hLayout hb != 2 || positionsOk (tilePositions (readTile k h2))) then
          let ko := so.core c
          let s := so.setCore c (ko.setBank b (skipPass w (ko.bank b)))
          .go (plainFlight i token) (s.bump (coreRow 0x8010 3 c) 1)
        else if op = 0xA1 && inFlightCount k 1 != 0 then .stall
        else
          let a := readTile k h1
          if !tileCrcOk a then withdrawnIssue so c 1 i token 0x2006 h1 h1
          else if keep then matPass c so i token a (lastStationary k)
          else
            let st := readTile k h2
            if !tileCrcOk st then withdrawnIssue so c 1 i token 0x2006 h2 h2
            else
              let sl := so.setCore c (loadStationary (so.core c) w st)
              if hLayout hb = 2 && !positionsOk (tilePositions st) then brokenLoad c sl i token
              else matPass c sl i token a st

/-- MMA.F8 (R83). -/
def execMmaF8 (c : CoreId) (s : State) : Host.Outcome State Fault Refusal :=
  .next (issueStation s c.val 1 0xA0 (matIssue c.val))

/-- MMA.F8H (R83, R90). -/
def execMmaF8h (c : CoreId) (s : State) : Host.Outcome State Fault Refusal :=
  .next (issueStation s c.val 1 0xA1 (matIssue c.val))

/-- MMA.B16 (R83). -/
def execMmaB16 (c : CoreId) (s : State) : Host.Outcome State Fault Refusal :=
  .next (issueStation s c.val 1 0xA2 (matIssue c.val))

/-- MMA.F6 (R83). -/
def execMmaF6 (c : CoreId) (s : State) : Host.Outcome State Fault Refusal :=
  .next (issueStation s c.val 1 0xA3 (matIssue c.val))

/-- MMA.F4 (R83). -/
def execMmaF4 (c : CoreId) (s : State) : Host.Outcome State Fault Refusal :=
  .next (issueStation s c.val 1 0xA4 (matIssue c.val))

/-- MMA.I8 (R83). -/
def execMmaI8 (c : CoreId) (s : State) : Host.Outcome State Fault Refusal :=
  .next (issueStation s c.val 1 0xA5 (matIssue c.val))

/-- MMA.F8.S24 (R83, R88). -/
def execMmaF8S24 (c : CoreId) (s : State) : Host.Outcome State Fault Refusal :=
  .next (issueStation s c.val 1 0xA6 (matIssue c.val))

/-- MMA.F4.S24 (R83, R88). -/
def execMmaF4S24 (c : CoreId) (s : State) : Host.Outcome State Fault Refusal :=
  .next (issueStation s c.val 1 0xA7 (matIssue c.val))

/-- MMA.F8.SPLIT (R83). -/
def execMmaF8Split (c : CoreId) (s : State) : Host.Outcome State Fault Refusal :=
  .next (issueStation s c.val 1 0xA8 (matIssue c.val))

/-- MMA.MAX (R103). -/
def execMmaMax (c : CoreId) (s : State) : Host.Outcome State Fault Refusal :=
  .next (issueStation s c.val 1 0xB0 (matIssue c.val))

/-- MMA.MIN (R103). -/
def execMmaMin (c : CoreId) (s : State) : Host.Outcome State Fault Refusal :=
  .next (issueStation s c.val 1 0xB1 (matIssue c.val))

end Sys2Proof.Machine
end

