-- ==== Sys2Proof/Machine/Signals.lean ====
section
/-! DEFINITION. Station SIG (R153, R188, R227 to R231), the completion of instructions (R62), watches (R154 to R157),
increments, sync messages and held signals (R232 to R238), quarantine's end (R240) and hangs (R242, R243). -/
namespace Sys2Proof.Machine

/-! ### Sync messages (R233) -/

/-- The 32 bytes of a sync message. -/
def syncBytes (m : Sync) : List Byte :=
  let b := setf (setf (setf (0 : BitVec 256) 252 4 m.kind) 250 2 m.srcJs) 248 2 m.dstJs
  let b := setf (setf (setf b 240 8 m.srcCore) 232 8 m.dstCore) 224 8 m.sem
  let b := setf (setf (setf b 208 16 m.n) 176 32 m.epoch) 156 20 m.firstId
  natLe 32 (setf (setf (setf b 148 8 m.gen) 140 8 m.count) 124 16 m.lastTiles).toNat

/-- A sync message from its 32 bytes; its fields whatever they hold. -/
def syncOf (bs : List Byte) : Sync :=
  let b := BitVec.ofNat 256 (leAt bs 0 32)
  { kind := getf b 252 4, srcJs := getf b 250 2, dstJs := getf b 248 2, srcCore := getf b 240 8, dstCore := getf b 232 8
    sem := getf b 224 8, n := getf b 208 16, epoch := getf b 176 32, firstId := getf b 156 20, gen := getf b 148 8
    count := getf b 140 8, lastTiles := getf b 124 16 }

/-- Whether a message's kind is known, its reserved field zero, and its length 32 bytes (R233). -/
def syncOk (bs : List Byte) : Bool :=
  bs.length == 32 && decide ((syncOf bs).kind ≤ 1) && getf (BitVec.ofNat 256 (leAt bs 0 32)) 0 124 == 0

/-- The covered identifiers (R229). -/
def Sync.ids (m : Sync) : List Nat := (List.range m.count).map fun i => (m.firstId + i) % 2 ^ 20

/-- The covered tiles of the `i`-th of a message's identifiers, for a transfer of `tiles` tiles (R229). -/
def Sync.tilesOf (m : Sync) (i tiles : Nat) : Nat := if i + 1 = m.count && m.lastTiles != 0 then m.lastTiles else tiles

/-- A sync packet of this module on VC1 (R233, R271). -/
def syncPacket (s : State) (dst : Nat) (m : Sync) : Pkt :=
  { dst := BitVec.ofNat 16 dst, src := BitVec.ofNat 16 s.moduleId, vc := 1, origVc := 1, kind := 1
    js := BitVec.ofNat 2 m.srcJs, epoch := BitVec.ofNat 32 m.epoch, length := 32, last := true, payload := syncBytes m }

/-! ### SIG instructions (R227 to R231, R153, R188) -/

/-- The message of a SIG.REMOTE (R229). -/
def remoteMessage (s : State) (c j : Nat) (i : StationInsn) : Sync :=
  let w := i.w0
  let x := i.w1.getD 0
  { kind := 0, srcJs := j, dstJs := 0, srcCore := c, dstCore := iField w 40 8, sem := iField w 48 8, n := iField w 0 16
    epoch := s.val (keyEpoch j), firstId := getf x 108 20, gen := getf x 100 8, count := getf x 92 8, lastTiles := getf x 76 16 }

/-- The transfer of an ACTIVE, LIVE schedule that a job stream sources under an identifier towards a module (R230, R295). -/
def State.covered (s : State) (j id dst : Nat) : Option Transfer :=
  (s.findTransfer fun x t => x.usable s && t.src == s.moduleId && t.srcJs == j && t.id == id && t.dst == dst).map
    (·.2.2)

/-- Whether a SIG.REMOTE covers only known identifiers at their current generation (R230). -/
def remoteKnown (s : State) (j dst : Nat) (m : Sync) : Bool :=
  m.ids.all fun id => (s.covered j id dst).isSome && (s.idState j id).current == m.gen

/-- Whether the SEND of every covered tile has completed in the current use (R230). -/
def remoteReady (s : State) (j dst : Nat) (m : Sync) : Bool :=
  (List.range m.count).all fun i =>
    let id := m.ids.getD i 0
    let st := s.idState j id
    match s.covered j id dst with
    | none => false
    | some t => st.phase == 1 && (List.range (m.tilesOf i t.tiles)).all fun k => st.offered.contains k

/-- The part of an opcode that acts at issue and leaves a plain record in flight. -/
def plainIssue (i : StationInsn) (token : Nat) (send : Option (Bool × List Byte)) (s : State) : Issue :=
  .go { plainFlight i token with send := send } s

/-- SIG.ADD's own part (R228). -/
def sigAddIssue (c : Nat) (s : State) (i : StationInsn) (token : Nat) : Issue :=
  let w := i.w0
  let target := iField w 40 8
  match s.jsOfCore c with
  | none => withdrawnIssue s c 6 i token 0x2202 0xFFF target
  | some j =>
    if !s.inMask j target then withdrawnIssue s c 6 i token 0x2202 0xFFF target
    else plainIssue i token none (s.sendIncrement (.core (Fin.ofNat 256 c)) target (iField w 48 8) (iField w 0 32))

/-- SIG.ADD. -/
def execSigAdd (c : CoreId) (s : State) : Host.Outcome State Fault Refusal :=
  .next (issueStation s c.val 6 0x30 (sigAddIssue c.val))

/-- SIG.REMOTE's own part (R229, R230). -/
def sigRemoteIssue (c : Nat) (s : State) (i : StationInsn) (token : Nat) : Issue :=
  let dst := iField i.w0 24 16
  match s.jsOfCore c with
  | none => withdrawnIssue s c 6 i token 0x2005 0xFFF 0
  | some j =>
    let m := remoteMessage s c j i
    if !remoteKnown s j dst m then withdrawnIssue s c 6 i token 0x2005 0xFFF m.firstId
    else if !remoteReady s j dst m || !s.domainOn (domEdge (c / 64)) then .stall
    else plainIssue i token (some (false, syncBytes m)) s

/-- SIG.REMOTE. -/
def execSigRemote (c : CoreId) (s : State) : Host.Outcome State Fault Refusal :=
  .next (issueStation s c.val 6 0x31 (sigRemoteIssue c.val))

/-- SIG.TRIGGER's own part (R231); its crown's edge must let it through (R27, R37). -/
def sigTriggerIssue (c : Nat) (s : State) (i : StationInsn) (token : Nat) : Issue :=
  let j := (s.jsOfCore c).getD 0
  let m : Sync :=
    { kind := 1, srcJs := j, dstJs := iField i.w0 38 2, srcCore := c, dstCore := 0, sem := 0, n := 0
      epoch := s.val (keyEpoch j), firstId := 0, gen := 0, count := 0, lastTiles := 0 }
  if !s.domainOn (domEdge (c / 64)) then .stall else plainIssue i token (some (false, syncBytes m)) s

/-- SIG.TRIGGER. -/
def execSigTrigger (c : CoreId) (s : State) : Host.Outcome State Fault Refusal :=
  .next (issueStation s c.val 6 0x32 (sigTriggerIssue c.val))

/-- The row of CONTEXT_TABLE (R175). -/
def contextKey (n : Nat) : Key := ⟨0x9020, 3, n⟩
/-- A counter of a context (R175, R188). -/
def contextCounter (n counter : Nat) : Key := ⟨0x9020, 4, 5 * n + counter⟩

/-- SIG.ACOUNT's own part (R188, R189). -/
def sigAcountIssue (c : Nat) (s : State) (i : StationInsn) (token : Nat) : Issue :=
  let w := i.w0
  let n := iField w 48 8
  let counter := iField w 44 4
  let row := s.val (contextKey n)
  let known := decide (n < 128) && decide (counter < 5) && row / 2 ^ 50 % 2 == 1 && s.jsOfCore c == some (row / 2 ^ 48 % 4)
  plainIssue i token none
    (if known then s.bump (contextCounter n counter) (iField w 0 32) else s.coreFault 0x1002 c 6 0xFFF n)

/-- SIG.ACOUNT. -/
def execSigAcount (c : CoreId) (s : State) : Host.Outcome State Fault Refusal :=
  .next (issueStation s c.val 6 0x3E (sigAcountIssue c.val))

/-- The event record of a SIG.WATCH as far as its issue gives it (R157); `WATCH.VALUE_POISON` stands in bit 0 and
`WATCH.KIND` in bits 2 and 1 until the comparison. -/
def watchRecord (s : State) (c : Nat) (w : QWord) : BitVec 256 :=
  let j := (s.jsOfCore c).getD 0
  let r := setf (0 : BitVec 256) 224 32 (iField w 0 32)
  let r := setf (setf r 128 64 (s.clock (clkCore (c / 64))).toNat) 96 32 (s.val (keyStarted j))
  let r := setf (setf (setf r 80 16 s.moduleId) 64 16 (iField w 32 16)) 56 8 c
  let r := setf (setf r 46 2 j) 45 1 (s.val (keyWithdrawn j))
  setf (setf r 0 1 (iField w 50 1)) 1 2 (iField w 48 2)

/-- SIG.WATCH's own part (R153). -/
def sigWatchIssue (c : Nat) (s : State) (i : StationInsn) (token : Nat) : Issue :=
  plainIssue i token (some (true, natLe 32 (watchRecord s c i.w0).toNat)) s

/-- SIG.WATCH. -/
def execSigWatch (c : CoreId) (s : State) : Host.Outcome State Fault Refusal :=
  .next (issueStation s c.val 6 0x3F (sigWatchIssue c.val))

/-! ### Watches (R154 to R157) -/

/-- A numerics entry of a job stream (R158). -/
def numKey (j sub row : Nat) : Key := ⟨0x5110 + j, sub, row⟩

/-- Used rows of a table whose used rows are not zero, up to a limit. -/
def State.rowsUsed (s : State) (index sub : Nat) : Nat → Nat → Nat
  | 0, row => row
  | n + 1, row => if s.val ⟨index, sub, row⟩ = 0 then row else State.rowsUsed s index sub n (row + 1)

/-- A row appended to a table that keeps its last `size` rows, oldest first; whether a row was lost. -/
def State.appendRow (s : State) (index sub size v : Nat) : State × Bool :=
  let n := s.rowsUsed index sub size 0
  if n < size then (s.setVal ⟨index, sub, n⟩ v, false)
  else
    ((List.range size).foldl (fun s' i =>
      s'.setVal ⟨index, sub, i⟩ (if i + 1 < size then s.val ⟨index, sub, i + 1⟩ else v)) s, true)

/-- What a comparison finds: skipped, nothing, or an event kind with its bound; whether the layer is unlisted. -/
inductive WatchResult where
  | skipped (unlisted : Bool)
  | quiet
  | event (kind bound : Nat)
  deriving DecidableEq, Repr

/-- The comparison of R154 or R156. -/
def watchResult (s : State) (j : Nat) (r : BitVec 256) : WatchResult :=
  let v := BitVec.ofNat 32 (getf r 224 32)
  let f := fun sub => BitVec.ofNat 32 (s.val (numKey j sub 0))
  let lt := fun (a b : Word) => !isNanF32 a && !isNanF32 b && numLt (ofF32 a) (ofF32 b)
  if bitf r 0 then .skipped false
  else if getf r 1 2 = 0 then
    if isNanF32 v then .event 0x03 0
    else if f 3 != 0x7F800000#32 && lt (f 3) v then .event 0x02 (f 3).toNat
    else if (f 2).toNat % 2 ^ 31 != 0 && lt v (f 2) then .event 0x01 (f 2).toNat
    else .quiet
  else
    let layer := getf r 64 16
    let listed := layer != 0xFFFF && (List.range 64).any fun i => s.val (numKey j 6 i) == layer
    if !listed then .skipped true
    else if isNanF32 v then .event 0x11 0
    else if lt (f 4) v then .event 0x10 (f 4).toNat
    else .quiet

/-- One watch compared (R154 to R158). -/
def compareWatch (s : State) (c : Nat) (r : BitVec 256) : State :=
  let j := getf r 46 2
  match watchResult s j r with
  | .skipped unlisted =>
    let s := s.bump (numKey j 8 0) 1
    if unlisted then s.note 0x1003 { coreFaultAt s c 6 0xFFF (getf r 64 16) with js := some j } else s
  | .quiet => s.bump (numKey j 7 0) 1
  | .event kind bound =>
    let s := s.bump (numKey j 7 0) 1
    let r := setf (setf (setf r 192 32 bound) 48 8 kind) 0 45 0
    let p := s.appendRow (0x5118 + j) 1 64 r.toNat
    let s := p.1.bump (numKey j 9 0) 1
    if p.2 then s.bump (numKey j 0x0A 0) 1 else s

/-- WATCH_COMPARE: the oldest handed-over watch of a core is compared (R153). -/
def execWatchCompare (c : CoreId) (s : State) : Host.Outcome State Fault Refusal :=
  let k := s.core c.val
  match k.watches with
  | [] => .next s
  | r :: rs => .next (compareWatch (s.setCore c.val { k with watches := rs }) c.val r)

/-! ### Completion (R62) -/

/-- What a SIG instruction does at its completion: the sync message enters the band, a watch is handed over (R153, R227). -/
def sigCompletes (s : State) (c : Nat) (f : InFlight) : State :=
  match f.send with
  | none => s
  | some (_, bytes) =>
    let w := f.insn.w0
    if iOpcode w = 0x31 then s.inject (syncPacket s (iField w 24 16) (syncOf bytes))
    else if iOpcode w = 0x32 then s.inject (syncPacket s (iField w 40 16) (syncOf bytes))
    else
      let k := s.core c
      s.setCore c { k with watches := k.watches ++ [BitVec.ofNat 256 (leAt bytes 0 32)] }

/-- Accumulator entries written at completion (R115). -/
def writeBank (k : Core) (f : InFlight) : Core :=
  if f.bankWrites.isEmpty then k
  else
    let b := iBankB f.insn.w0
    k.setBank b (f.bankWrites.foldl (fun x e => x.put e.1 e.2) (k.bank b))

/-- The effects of a completion in the order of R62; issues see them from the next cycle on (R57). -/
def completeFlight (s : State) (c st : Nat) (f : InFlight) : State :=
  let k := s.core c
  let k := { k.newCycle with hung := false }
  let k := f.outs.foldl outputPresent (writeBank k f)
  let k := f.readers.foldl readerCompletes k
  let k := bankAtCompletion { k with summaries := k.summaries ++ f.posts } f.insn.w0
  let s := s.setCore c k
  let s := if st = 4 then (if f.withdrawn then sendWithdrawn s c f.insn.w0 else sendCompletes s c f)
    else if st = 6 && !f.withdrawn then sigCompletes s c f else s
  s.signalDone c f.insn.w0

/-- What the code finds in a scratchpad atom that an instruction reads: a note, naming core and station (R218, R222, R529); an
uncorrectable atom is found once, and poisoned. -/
def foundInSpad (c st : Nat) (s : State) (e : Nat × EccResult) : State :=
  match e.2 with
  | .clean => s
  | .corrected => s.note 0x1101 (spadFaultAt c st e.1)
  | .uncorrectable =>
    let k := s.core c
    if k.badAtoms.contains e.1 then s
    else (s.setCore c { k with badAtoms := k.badAtoms ++ [e.1] }).note 0x1102 (spadFaultAt c st e.1)

/-- An instruction that has read an uncorrectable atom: its output tiles and summaries are poisoned (R219, log entry 56). -/
def spoiltFlight (s : State) (c st : Nat) (f : InFlight) : InFlight :=
  { f with outs := f.outs.map fun o => { o with tile := poisonTile s c st o.handle 0 0 }
           posts := f.posts.map fun p => { p with value := 0, poison := true } }

/-- The findings of an instruction's reads in the tiles that it reads, and what becomes of it. -/
def scratchFindings (s : State) (c st : Nat) (f : InFlight) (errs : List (Nat × EccResult)) : State × InFlight :=
  let mine := errs.filter fun e => f.readers.any fun h => inTile (s.core c) h e.1
  (mine.foldl (foundInSpad c st) s, if mine.any (·.2 == .uncorrectable) then spoiltFlight s c st f else f)

/-- Whether a head word is of no use to its queue's own rows: a reserved opcode, or one of another station (R74). -/
def foreignHead (st : Nat) (w : QWord) : Bool :=
  if iOpcode w ≤ 2 then false else match insnForm w with | none => true | some f => f.station != st

/-- INSN_COMPLETE: the oldest instruction in flight at a station completes once its requests and codec blocks are done, with
what the code has found in the scratchpad atoms that it read (R218); with none in flight, a head that no row of the station
takes is refused (R62, R74). -/
def execInsnComplete (c : CoreId) (done : Completion) (s : State) : Host.Outcome State Fault Refusal :=
  let n := stationCode done.station
  let k := s.core c.val
  match k.flight n with
  | f :: fs =>
    if s.insnBusy f.token || !s.clocked c.val then .next s
    else
      let r := scratchFindings (s.setCore c.val (k.setFlight n fs)) c.val n f (done.errs.map fun e => (e.1.val, e.2))
      .next (completeFlight r.1 c.val n r.2)
  | [] =>
    match k.queue n with
    | [] => .next s
    | i :: _ =>
      if !s.issues c.val || !foreignHead n i.w0 then .next s
      else
        let t := if s.coreDisabled c.val then refuseHead s c.val n i
          else refuseHead (s.coreFault 0x2001 c.val n 0xFFF 0) c.val n i
        -- a SEND refused in another station's queue is handled under R427 too
        .next (if iOpcode i.w0 = 0x20 then sendWithdrawn t c.val i.w0 else t)

/-! ### Increments (R232) -/

/-- SEM_INCREMENT_ARRIVE: the oldest increment of a source to a semaphore is applied (R225, R232, R239), once the edges on its
way work (R27). -/
def execSemIncrementArrive (src : SigSource) (dst : CoreId) (sem : SemId) (s : State) :
    Host.Outcome State Fault Refusal :=
  let p := fun (x : Increment) => x.src == src && x.dst == dst.val && x.sem == sem.toNat
  match s.increments.find? p with
  | none => .next s
  | some x => if !incrementPath s x then .next s else .next ({ s with increments := removeFirst p s.increments }.semAdd dst.val sem.toNat x.amount)

/-! ### Held signals (R234 to R238) -/

/-- A counter of the sync table by job stream (R247). -/
def syncKey (sub j : Nat) : Key := ⟨0x8014, sub, j⟩

/-- Whether the landing of a covered identifier has landed the covered tiles (R235). -/
def landedTiles (l : Landing) (gen n : Nat) : Bool :=
  l.gen == gen && (l.phase == 1 || (List.range n).all fun i => l.landed.contains i)

/-- The transfer that lands a covered identifier for a target job stream (R234). -/
def State.coveredLanding (s : State) (src : Nat) (m : Sync) (j id : Nat) : Option Transfer :=
  match s.landingOf src m.srcJs id with
  | some (_, _, t) => if t.dstJs == j then some t else none
  | none => none

/-- Whether every covered tile of a held signal has landed (R235). -/
def heldLanded (s : State) (h : Held) : Bool :=
  (List.range h.msg.count).all fun i =>
    let id := h.msg.ids.getD i 0
    h.landed.contains id || match s.coveredLanding h.src h.msg h.js id, s.landing? h.src h.msg.srcJs id with
    | some t, some l => landedTiles l h.msg.gen (h.msg.tilesOf i t.tiles)
    | _, _ => false

/-- Whether a covered transfer of a held signal has ended without delivery (R236). -/
def heldEnded (s : State) (h : Held) : Bool :=
  h.ended || h.msg.ids.any fun id =>
    match s.landing? h.src h.msg.srcJs id with
    | some l => l.gen == h.msg.gen && (l.phase == 2 || l.lost)
    | none => false

/-- What a held signal keeps of a covered use that a later generation replaces: its covered tiles had landed, or it has ended
without delivery. A use replaced with tiles missing counts as ended: its source has given it up (log entry 28). -/
def heldSuperseded (s : State) (l : Landing) (h : Held) : Held :=
  if h.src != l.src || h.msg.srcJs != l.js || h.msg.gen != l.gen || !h.msg.ids.contains l.id then h
  else
    let i := h.msg.ids.findIdx (· == l.id)
    let all := match s.coveredLanding h.src h.msg h.js l.id with
      | some t => landedTiles l h.msg.gen (h.msg.tilesOf i t.tiles)
      | none => false
    if all then { h with landed := h.landed ++ [l.id] } else { h with ended := true }

/-- A use of a later generation takes the place of the use at hand (R241). -/
def State.supersede (s : State) (l : Landing) (gen : Nat) : State :=
  let s := { s with
    held := s.held.map (heldSuperseded s l)
    heldWaiting := s.heldWaiting.map fun (e : Nat × Held) => (e.1, heldSuperseded s l e.2) }
  dropBlocks (s.setLanding { src := l.src, js := l.js, id := l.id, gen := gen }) l

/-- Whether the epoch of a held signal is current at its target job stream (R235). -/
def heldCurrent (s : State) (h : Held) : Bool := h.msg.epoch == s.val (keyEpoch h.js)

/-- The increment of a held signal is applied (R235, R236). -/
def applyHeld (s : State) (h : Held) (undelivered : Bool) : State :=
  let s := s.sendIncrement .band h.msg.dstCore h.msg.sem h.msg.n
  if undelivered then s.bump (syncKey 3 h.js) 1 else s

/-- A signal put into the hold table, or ahead of it when it is full, behind those that wait there already (R237). -/
def State.hold (s : State) (a : Arrived) (h : Held) : State :=
  if (s.held.filter fun x => x.js == h.js).length < 1024 && !(s.heldWaiting.any fun x => x.2.js == h.js) then { s.consume a with held := s.held ++ [h] }
  else { s with heldWaiting := s.heldWaiting ++ [((a.port.getD 32), h)] }

/-- The `n`-th element that meets a test, with the list without it. -/
def takeNth {α : Type} (p : α → Bool) : List α → Nat → Option (α × List α)
  | [], _ => none
  | x :: xs, n =>
    if p x then
      match n with
      | 0 => some (x, xs)
      | k + 1 => (takeNth p xs k).map fun r => (r.1, x :: r.2)
    else (takeNth p xs n).map fun r => (r.1, x :: r.2)

/-- Units that a sync packet occupies: header and 32 bytes. -/
def syncUnits : Nat := 2

/-- A waiting signal of a job stream enters the hold table (R237), which has room. -/
def admitHeld (s : State) (j : Nat) : State :=
  match takeNth (fun (x : Nat × Held) => x.2.js == j) s.heldWaiting 0 with
  | none => s
  | some (x, rest) =>
    let s := { s with held := s.held ++ [x.2], heldWaiting := rest }
    if x.1 < 32 then s.freeUnits x.1 1 syncUnits else s

/-- HELD_SIGNAL_APPLY: the `n`-th held signal of a job stream, once its conditions hold (R235, R236, R247). -/
def execHeldSignalApply (j : JsId) (n : Nat) (s : State) : Host.Outcome State Fault Refusal :=
  match takeNth (fun (x : Held) => x.js == j.val) s.held n with
  | none => .next s
  | some (h, rest) =>
    if !heldCurrent s h then .next s
    else
      let landed := heldLanded s h
      if !landed && !heldEnded s h then .next s
      else .next (admitHeld ((applyHeld { s with held := rest } h (!landed)).bump (syncKey 2 j.val) 1) j.val)

/-- Generations of covered identifiers accepted (R241): a later generation starts a new use. -/
def acceptCovered (s : State) (src : Nat) (m : Sync) : State :=
  m.ids.foldl (fun s id =>
    match s.landing? src m.srcJs id with
    | some l => if l.gen = m.gen then s else s.supersede l m.gen
    | none => s.setLanding { src := src, js := m.srcJs, id := id, gen := m.gen }) s

/-- Where a sync message's fault is recorded. -/
def syncFaultAt (src : Nat) (m : Sync) (j : Option Nat) : FaultAt :=
  { domain := 3, clock := clkBand, locKind := 1, location := m.dstCore + 15 * 2 ^ 8 + 0xFFF * 2 ^ 12, js := j, peer := src
    transfer := if m.count = 0 then none else some (m.firstId, m.gen), detail := m.sem }

/-- A signal message taken by the rules of R234. -/
def takeSignal (s : State) (a : Arrived) (m : Sync) : State :=
  let src := a.pkt.src.toNat
  match s.jsOfCore m.dstCore with
  | none => (s.consume a).note 0x1201 (syncFaultAt src m none)
  | some j =>
    let h : Held := { src := src, js := j, msg := m }
    if serialOlder m.epoch (s.val (keyEpoch j)) then
      ((s.consume a).bump (syncKey 4 j) 1).note 0x1202 (syncFaultAt src m (some j))
    else if m.ids.any fun id => (s.coveredLanding src m j id).isNone then
      (applyHeld (s.consume a) h false).withdrawal 0x2203 (syncFaultAt src m (some j))
    else if m.ids.any fun id =>
        match s.landing? src m.srcJs id with | some l => !genAccepted l.gen m.gen | none => false then
      ((s.consume a).bump (syncKey 4 j) 1).note 0x1203 (syncFaultAt src m (some j))
    else
      let s := acceptCovered s src m
      if heldCurrent s h && heldLanded s h then applyHeld (s.consume a) h false
      else s.hold a h

/-- SYNC_SIGNAL_ARRIVE: a sync packet with a signal is handed to the hold table (R233, R234). A malformed message is
dropped and counted. -/
def execSyncSignalArrive (p : PortId) (pkt : Pkt) (s : State) : Host.Outcome State Fault Refusal :=
  let t := s.takeHanded p.val pkt
  let m := syncOf pkt.payload
  if !syncOk pkt.payload then
    .next ((t.2.consume t.1).bump (syncKey 6 ((t.2.jsOfCore m.dstCore).getD 0)) 1)
  else if m.kind = 0 then .next (takeSignal t.2 t.1 m)
  else .next s

/-- QUARANTINE_EXPIRE: the identifier is IDLE again with the next generation (R240). -/
def execQuarantineExpire (j : JsId) (id : XferId) (s : State) : Host.Outcome State Fault Refusal :=
  let x := s.idState j.val id.toNat
  if x.phase = 2 then .next (s.setId j.val id.toNat { gen := (x.gen + 1) % 256 }) else .next s

/-! ### Route swaps of a program (R385 to R387) -/

/-- Whether a use of a transfer of a schedule that is LIVE under the active table is in flight through the module
(R387). -/
def State.useInFlight (s : State) : Bool :=
  s.seenUses.any fun u => (s.findTransfer fun x t => x.usable s && t.src == u.src && t.srcJs == u.js && t.id == u.id).isSome

/-- The outcomes of SIG.ROUTESWAP (R386). -/
inductive SwapOutcome where
  | fault | noop | wait | swap
  deriving DecidableEq, Repr

/-- The first outcome of R386 whose condition holds, for a job stream and a target route epoch. -/
def swapOutcome (s : State) (j target : Nat) : SwapOutcome :=
  let control := match s.maps.find? (·.1 == j) with | some e => bitf e.2.desc 156 | none => false
  let staged := s.val ⟨0x3000, 4, 0⟩ % 256
  if !control then .fault
  else if s.routeEpoch = target then .noop
  else if staged = 1 then .wait
  else if staged = 2 && s.val ⟨0x3000, 6, 0⟩ = target then (if s.useInFlight then .wait else .swap)
  else .fault

/-! ### Hangs (R242, R243) -/

/-- Whether a VEC instruction is refused at the head of its queue: a disabled core, a malformed word, an unbound handle (R74,
R437). -/
def refusedAtHead (s : State) (c : Nat) (i : StationInsn) : Bool :=
  let k := s.core c
  s.coreDisabled c || !headOk k 2 i ||
    (match insnForm i.w0 with | some f => (unboundHandle k i.w0 f).isSome | none => false)

/-- What the head of a station's queue waits for: semaphore field and value, where R243 gives them (R242, R243). -/
def headWait (s : State) (c st : Nat) : Option (Option (Nat × Nat)) :=
  let k := s.core c
  match k.queue st with
  | [] => none
  | i :: _ =>
    let w := i.w0
    if iOpcode w = 1 || iOpcode w = 2 then
      let sem := iField w 48 8
      let v := iField w 0 32
      if (k.sem sem).toNat < v then some (some (sem, v)) else none
    else if st = 6 && iOpcode w = 0x31 && headOk k 6 i then
      match s.jsOfCore c with
      | none => none
      | some j =>
        let m := remoteMessage s c j i
        let dst := iField w 24 16
        if remoteKnown s j dst m && !remoteReady s j dst m then some (some (0xFF, m.firstId)) else none
    else if st = 6 && iOpcode w = 0x33 && headOk k 6 i then
      match s.jsOfCore c with
      | none => none
      | some j => if swapOutcome s j (iField w 0 32) = .wait then some none else none
    else if st = 4 && iOpcode w = 0x20 && headOk k 4 i then
      match s.jsOfCore c with
      | none => none
      | some j =>
        let x := s.idState j (iTransfer w)
        if (s.sourced j (iTransfer w)).isSome && x.phase = 2 && x.current == iGeneration w then some (some (0xFF, iTransfer w))
        else none
    else if st = 2 && refusedAtHead s c i && !summaryRoom k (postCount w) then some none
    else none

/-- `HANG.CTL_STALL`: what the control core waits at (R134, R243). -/
def ctlStall (s : State) (c : Nat) : Nat :=
  let k := s.core c
  if !k.ctl.running || s.coreDisabled c then 0
  else
    match k.ctl.stream[k.ctl.pc]? with
    | none => 0
    | some w =>
      let waits := fun (body : State → QWord → State) => ctlFieldsOk w && ((body s w).core c).ctl == k.ctl
      match cOpcode w with
      | 0x30 => if waits (ctlSumpop c) then 1 else 0
      | 0x38 => if waits (ctlCtld c) then 2 else 0
      | 0x49 => if waits (ctlUnbind c) then 3 else 0
      | 0x40 => if waits (ctlPush c) then 4 else 0
      | _ => 0

/-- A wait written into a hang report; 40 free bits where R243 gives the wait no layout (log entry 2). -/
def reportHead (c : Nat) (acc : BitVec 512 × State) (st : Nat) : BitVec 512 × State :=
  match headWait acc.2 c st with
  | some (some (sem, v)) => (setf (setf (setf acc.1 (396 + st) 1 1) (40 * st + 32) 8 sem) (40 * st) 32 v, acc.2)
  | some none =>
    let f := acc.2.free 40
    (setf (setf acc.1 (396 + st) 1 1) (40 * st) 40 f.1, f.2)
  | none => acc

/-- The 64-byte hang report of a core (R243). -/
def hangReport (s : State) (c : Nat) : BitVec 512 × State :=
  let j := (s.jsOfCore c).getD 0
  let r := setf (0 : BitVec 512) 448 64 (s.clock (clkCore (c / 64))).toNat
  let r := setf (setf r 416 32 (s.val (keyStarted j))) 408 8 c
  let r := setf (setf r 406 2 j) 403 3 (ctlStall s c)
  (List.range 7).foldl (reportHead c) (r, s)

/-- HANG_TIMEOUT: a core with a wait pending that has made no progress posts one report (R242, R247); never because of a hold (R415). -/
def execHangTimeout (c : CoreId) (s : State) : Host.Outcome State Fault Refusal :=
  let n := c.val
  let k := s.core n
  let waiting := ctlStall s n != 0 || (List.range 7).any fun st => (headWait s n st).isSome
  if k.hung || !waiting || !s.issues n then .next s
  else
    let r := hangReport s n
    let s := r.2.setVal ⟨0xA010, 4, n⟩ r.1.toNat
    let s := (s.coreFault 0x1204 n 15 0xFFF 0).bump (syncKey 7 ((s.jsOfCore n).getD 0)) 1
    .next (s.setCore n { s.core n with hung := true })

end Sys2Proof.Machine
end

