-- ==== Sys2Proof/Machine/Landing.lean ====
section
/-! DEFINITION. The deadline service at both ends: data packets and tiles that land (R73, R298, R299, R301, R331, R358,
R369), DELIVERY and WITHDRAW (R301 to R303), the timers of R301 and R302, uses in flight (R387) and codec blocks. -/
namespace Sys2Proof.Machine

/-- A counter of the deadline service (R310). -/
def dsKey (sub : Nat) : Key := ⟨0x3400, sub, 0⟩

/-- Units of 4 ns that the link of port `p` is charged: RTT ÷ 2 + a, rounded up (R298). -/
def linkCharge (s : State) (p : Nat) : Nat := ceilDiv (s.portRtt p + 2 * s.portAsym p) 8

/-- A packet's budget after the charges of its arrival, 0 when it is spent (R298). -/
def budgetOnArrival (s : State) (a : Arrived) : Nat :=
  match a.port with
  | some p => a.pkt.budget.toNat - linkCharge s p - unitsOfCycles a.gap
  | none => a.pkt.budget.toNat

/-! ### Data (R298, R299, R301, R331) -/

/-- What the epoch of a data packet on a group channel means (R331). -/
inductive EpochVerdict where
  | lands | older | other
  deriving DecidableEq, Repr

/-- R331: the epoch of a packet for a job stream. -/
def epochVerdict (s : State) (j epoch : Nat) : EpochVerdict :=
  let e := s.val (keyEpoch j)
  if epoch = e then .lands
  else if s.val ⟨0x9030 + j, 3, 0⟩ = 2 && (s.prepared.find? (·.1 == j)).map (·.2) == some epoch then .lands
  else if serialOlder epoch e then .older
  else .other

/-- A packet that R331 drops. -/
def dropByEpoch (s : State) (t : Transfer) (pkt : Pkt) (v : EpochVerdict) : State :=
  let s := s.note 0x1501 (s.useAt t.dstJs t pkt.src.toNat pkt.gen.toNat)
  if v = .older then
    match s.collOf t.dstJs pkt.id.toNat with
    | some x => s.bump (collCounter x.number 4) 1
    | none => s
  else s

/-- The use that an accepted arrival belongs to: the one at hand, or a new one of a later generation (R241). -/
def acceptUse (s : State) (src j id gen : Nat) : Option (Landing × State) :=
  let fresh : Landing := { src := src, js := j, id := id, gen := gen }
  match s.landing? src j id with
  | none => some (fresh, s.setLanding fresh)
  | some l =>
    if l.gen = gen then some (l, s)
    else if genAccepted l.gen gen then some (fresh, s.supersede l gen)
    else none

/-- A piece of a tile added to what has come of it. -/
def addPiece (x : TilePart) (pkt : Pkt) (expiry : Option Nat) : TilePart :=
  let off := pkt.tileOffset.toNat
  { x with
    pieces := x.pieces.filter (fun e => e.1 != off) ++ [(off, pkt.payload)]
    total := if pkt.last then some (off + pkt.payload.length) else x.total
    expiry := match x.expiry, expiry with | some a, some b => some (min a b) | some a, none => some a | none, b => b }

/-- Whether every byte of a tile has come. -/
def TilePart.complete (x : TilePart) : Bool :=
  match x.total with
  | some n => ((x.pieces.map fun e => e.2.length).foldl (· + ·) 0) == n
  | none => false

/-- The bytes of a tile from its pieces. -/
def TilePart.bytes (x : TilePart) : List Byte :=
  x.pieces.foldl (fun bs e => spliceBytes bs e.1 e.2) (List.replicate (x.total.getD 0) 0)

/-- The bytes of a tile that have come without a gap from its start on. -/
def TilePart.prefixBytes (x : TilePart) : List Byte :=
  (List.range x.pieces.length).foldl (fun bs _ =>
    match x.pieces.find? (·.1 == bs.length) with
    | some e => bs ++ e.2
    | none => bs) []

/-- Where the blocks of an exact stream start, none of them in a PLAIN stream; none before the index has come (R362, R363). -/
def blockStarts (bs : List Byte) : Option (List Nat) :=
  let n := laneBlocks bs
  if bs.length < 68 || bs.length < 64 + 4 * n then none
  else some ((List.range n).map fun i => 64 + 4 * n + leAt bs (64 + 4 * i) 4)

/-- Blocks of an exact stream all of whose bytes have come (R370). -/
def TilePart.blocksHere (x : TilePart) : Nat :=
  let bs := x.prefixBytes
  match blockStarts bs with
  | none => 0
  | some st => if x.complete then st.length else (st.drop 1).countP (· ≤ bs.length)

/-- Blocks of a tile that wait for a decoder lane. -/
def blocksWaiting (s : State) (src j id tile : Nat) : Nat :=
  s.codec.countP fun b => b.landing == some (src, j, id, tile) && b.lane.isNone

/-- Whether the bytes of a packet have left the receive buffer: its use or tile is no longer under way, or every block that
they belong to has a lane (R370). -/
def LaneHold.over (s : State) (h : LaneHold) : Bool :=
  match s.landing? h.src h.js h.id with
  | none => true
  | some l =>
    l.gen != h.gen ||
      match l.parts.find? (·.tile == h.tile) with
      | none => true
      | some x =>
        match blockStarts x.prefixBytes with
        | none => false
        | some st => decide (st.countP (· < h.stop) ≤ x.given - blocksWaiting s h.src h.js h.id h.tile)

/-- Receive buffers whose bytes the codec has taken are freed (R268, R370). -/
def State.freeLanes (s : State) : State :=
  (s.laneHolds.filter (LaneHold.over s)).foldl (fun s h => s.freeUnits h.port h.vc h.units)
    { s with laneHolds := s.laneHolds.filter fun h => !h.over s }

/-- A piece of an exact tile taken: blocks that are complete with it go to the codec, and its bytes keep their buffer until
their blocks have lanes (R370). -/
def takeExact (s : State) (a : Arrived) (l : Landing) (x : TilePart) : State :=
  let n := x.blocksHere
  let s := s.setLanding { l with parts := l.parts.filter (·.tile != x.tile) ++ [{ x with given := max n x.given }] }
  let hold := fun (p : Nat) =>
    ({ src := l.src, js := l.js, id := l.id, gen := l.gen, tile := x.tile, port := p, vc := a.pkt.vc.toNat
       units := pktUnits a.pkt, stop := a.pkt.tileOffset.toNat + a.pkt.payload.length } : LaneHold)
  let s := { s with laneHolds := s.laneHolds ++ (a.port.map hold).toList }
  s.addBlocks false x.port 0 (some (l.src, l.js, l.id, x.tile)) (n - x.given)

/-- A data packet of an admitted transfer in an open use: L armed from its arrival count, its piece kept (R298, R301, R370).
`rest` is the budget left in 4 ns units; a best-effort use has none. -/
def takeData (s : State) (p : Nat) (t : Transfer) (l : Landing) (a : Arrived) (rest : Option Nat) : State :=
  let pkt := a.pkt
  let tile := pkt.tileIndex.toNat
  let expiry := rest.map fun r => a.since + cyclesOfUnits (r - 1) + 1
  let deadline := match l.deadline, rest.map fun r => a.since + cyclesOfUnits r * 10001 / 10000 with
    | some a, some b => some (min a b) | some a, none => some a | none, b => b
  let l := { l with deadline := deadline }
  if l.landed.contains tile || decide (t.tiles ≤ tile) || (l.commit.isSome && tile + 1 = t.tiles) then
    (s.setLanding l).consume a
  else
    let x := (l.parts.find? (·.tile == tile)).getD { tile := tile, port := p, exact := pkt.exact, pieces := [], total := none, expiry := none }
    let y := addPiece x pkt expiry
    if y.exact && s.codecOn then takeExact s a l y
    else (s.setLanding { l with parts := l.parts.filter (·.tile != tile) ++ [y] }).consume a

/-- A data packet for this module (R298, R299, R301, R305, R331, R241). -/
def dataArrives (s : State) (p : Nat) (a : Arrived) : State :=
  let pkt := a.pkt
  let src := pkt.src.toNat
  let j := pkt.js.toNat
  let id := pkt.id.toNat
  match s.landingOf src j id with
  | none =>
    (s.consume a).note 0x1403 { domain := 3, clock := clkBand, locKind := 4, location := p, peer := src, transfer := some (id, pkt.gen.toNat) }
  | some (_, _, t) =>
    let v := if groupChannel pkt.origVc.toNat then epochVerdict s t.dstJs pkt.epoch.toNat else .lands
    if v != .lands then dropByEpoch (s.consume a) t pkt v
    else
      match acceptUse s src j id pkt.gen.toNat with
      | none => (s.consume a).bump (syncKey 5 t.dstJs) 1
      | some (l, s) =>
        if l.phase != 0 then s.consume a
        else if t.budget = 0 then takeData s p t l a none
        else
          let rest := budgetOnArrival s a
          if rest = 0 then (s.consume a).endUse l t 0x2402 else takeData s p t l a (some rest)

/-- DATA_PACKET_ARRIVE: a data packet is handed to landing (R271, R298); its buffer is freed once its bytes have landed, been
dropped, or gone to the codec (R268, R370). -/
def execDataPacketArrive (p : PortId) (pkt : Pkt) (s : State) : Host.Outcome State Fault Refusal :=
  if pkt.kind != 0 then .next s
  else
    let t := s.takeHanded p.val pkt
    .next (dataArrives t.2 p.val t.1).freeLanes

/-! ### Tiles (R301, R358, R369) -/

/-- A tile as it is written to its slot, and whether it counts in FULL_POISON_LANDED: with a poisoned fulling block it carries
POISON, resealed where the flag was not set (R358). -/
def landedForm (t : Tile) : Tile × Bool :=
  if isFulling (hFormat t.header) && fullPoisoned t then (flaggedCopy t, true) else (t, false)

/-- A use with all its tiles landed is complete: DELIVERY goes back (R301). -/
def completeUse (s : State) (t : Transfer) (l : Landing) : State :=
  if (List.range t.tiles).all fun i => l.landed.contains i then
    (s.setLanding { l with phase := 1, deadline := none, parts := [] }).inject (transferPacket s 4 t l.gen)
  else s.setLanding l

/-- A verified tile written to its slot (R291, R301): its bytes are there from here on, and the port's requests for them hold
their slots until they are done (R209, log entry 56). -/
def placeTile (s : State) (t : Transfer) (l : Landing) (tile port : Nat) (x : Tile) : State :=
  let f := landedForm x
  let s := if f.2 then s.bump (codecKey 0x0A) 1 else s
  let a := (tileSlot t tile).1
  let bs := tileImage f.1
  let s := (s.writeMem a bs).requestAlone (.port (Fin.ofNat 32 port)) (port / 8) a bs.length (some [])
  completeUse s t { l with landed := l.landed ++ [tile] }

/-- Whether every body tile of a mirror has landed in its current use, one that no commit tile has closed yet, or a use of it
has ended without delivery (R216). -/
def mirrorState (s : State) (ts : List Transfer) : Bool × Bool :=
  let uses := ts.map fun t => (t, s.landing? t.src t.srcJs t.id)
  (uses.all fun e =>
     match e.2 with
     | some l => if e.1.commit then l.phase == 0 && (List.range (e.1.tiles - 1)).all l.landed.contains
         else l.phase == 1 && !l.committed
     | none => false,
   uses.any fun e => match e.2 with | some l => l.phase == 2 | none => false)

/-- The uses of a mirror closed by its commit tile (R216). -/
def State.closeMirror (s : State) (ts : List Transfer) : State :=
  ts.foldl (fun s t =>
    match s.landing? t.src t.srcJs t.id with
    | some l => s.setLanding { l with committed := true }
    | none => s) s

/-- A commit tile that waits is installed once its mirror's body is there (R216). -/
def installCommit (s : State) (c : Transfer) (ts : List Transfer) : State :=
  match s.landing? c.src c.srcJs c.id with
  | none => s
  | some l =>
    match l.commit with
    | none => s
    | some (port, x) =>
      if (mirrorState s ts).1 then (placeTile s c { l with commit := none } (c.tiles - 1) port x).closeMirror ts
      else if (mirrorState s ts).2 then s.endUse l c 0x2405
      else s

/-- A verified tile lands (R291, R301). A tile of a mirror first clears the header at the slot start; the commit tile waits
for the body (R216). -/
def landTile (s : State) (t : Transfer) (l : Landing) (tile port : Nat) (x : Tile) : State :=
  match s.mirrorOf t with
  | none => placeTile s t l tile port x
  | some (c, ts) =>
    let s := s.writeMem c.base (List.replicate 64 0)
    let s := if t.commit && tile + 1 = t.tiles then s.setLanding { l with commit := some (port, x) }
      else placeTile s t l tile port x
    installCommit s c ts

/-- Whether the bytes of a tile image pass verification in a slot of `size` bytes (R45, R291). -/
def imageVerifies (bs : List Byte) (size : Nat) : Bool :=
  let hd := hdrOfBytes bs
  decide (64 ≤ bs.length) && bs.length == 64 + 256 * (hGranules hd + 1) && decide (bs.length ≤ size) &&
    tileCrcOk { header := hd, payload := bs.drop 64 }

/-- Where a malformed stream is recorded: at the lane that has decoded its last block (R442), the module where none has. -/
def malformedAt (s : State) (t : Transfer) (l : Landing) (x : TilePart) : FaultAt :=
  let a := s.useAt t.dstJs t l.src l.gen
  match x.lane with
  | some n => { a with locKind := 8, location := n }
  | none => a

/-- A tile whose bytes have all come is verified and lands, or is discarded (R299, R301, R369). -/
def verifyTile (s : State) (t : Transfer) (l : Landing) (x : TilePart) : State :=
  let bs := x.bytes
  let l' := { l with parts := l.parts.filter (·.tile != x.tile) }
  let size := (tileSlot t x.tile).2
  let late := match x.expiry with | some e => decide (e ≤ s.bandNow) | none => false
  let bad := (s.setLanding l').withdrawal 0x2006 (s.useAt t.dstJs t l.src l.gen)
  if late then s.endUse l t 0x2403
  else if x.exact then
    if !s.codecOn then s.setLanding l'
    else
      match exactDecode bs with
      | none => ((s.setLanding l').bump (codecKey 9) 1).note 0x1504 (malformedAt s t l x)
      | some tile =>
        let s := s.bump (codecKey 8) 1
        if imageVerifies (tileImage tile) size then landTile s t l' x.tile x.port tile
        else (s.setLanding l').withdrawal 0x2006 (s.useAt t.dstJs t l.src l.gen)
  else if imageVerifies bs size then landTile s t l' x.tile x.port { header := hdrOfBytes bs, payload := bs.drop 64 }
  else bad

/-- TILE_LANDED: a tile whose packets have all come and whose blocks are decoded is verified (R301); the edge of the crown that
it lands in is on its path (R27). -/
def execTileLanded (src : BitVec 16) (js : JsId) (id : XferId) (tile : BitVec 16) (s : State) :
    Host.Outcome State Fault Refusal :=
  match s.landingFrom src.toNat js.val id.toNat with
  | none => .next s
  | some (t, l) =>
    match l.parts.find? (·.tile == tile.toNat) with
    | none => .next s
    | some x =>
      let busy := s.codec.any fun b => b.landing == some (l.src, l.js, l.id, x.tile)
      if l.phase != 0 || !x.complete || busy || !s.domainWorks (domEdge (addrCrown (tileSlot t x.tile).1)) then .next s else .next (verifyTile s t l x).freeLanes

/-- The lane of a decoded block kept with the tile it belongs to (R442). -/
def State.markLane (s : State) (encoder : Bool) (lane : Nat) : State :=
  match (s.codec.find? fun b => b.encoder == encoder && b.lane == some lane).bind (·.landing) with
  | none => s
  | some k =>
    match s.landing? k.1 k.2.1 k.2.2.1 with
    | none => s
    | some l => s.setLanding { l with parts := l.parts.map fun x => if x.tile = k.2.2.2 then { x with lane := some lane } else x }

/-- CODEC_BLOCK_DONE: a lane finishes its block and goes to the next client, whose bytes leave their receive buffer (R370). -/
def execCodecBlockDone (encoder : Bool) (lane : Fin 128) (s : State) : Host.Outcome State Fault Refusal :=
  .next ((s.markLane encoder lane.val).blockDone encoder lane.val).freeLanes

/-! ### DELIVERY and WITHDRAW (R302, R303) -/

/-- DELIVERY_RECEIVE: the use retires at its source (R302, R240). -/
def execDeliveryReceive (p : PortId) (pkt : Pkt) (s : State) : Host.Outcome State Fault Refusal :=
  if pkt.kind != 4 then .next s
  else
    let t := s.takeHanded p.val pkt
    let s := t.2.consume t.1
    let j := pkt.js.toNat
    let x := s.idState j pkt.id.toNat
    if x.phase = 1 && x.gen = pkt.gen.toNat then
      .next ((s.retire j pkt.id.toNat false).bump (dsKey 0x0B) 1)
    else .next s

/-- A WITHDRAW at its destination (R303). One for a use that has already ended with a fault is counted only: with the deadline
faults of the receiving side, DEADLINE_FAULTS_RX (log entry 55). -/
def withdrawArrives (s : State) (pkt : Pkt) : State :=
  let src := pkt.src.toNat
  let j := pkt.js.toNat
  match s.landingOf src j pkt.id.toNat with
  | none => s
  | some (_, _, t) =>
    match acceptUse s src j pkt.id.toNat pkt.gen.toNat with
    | none => s
    | some (l, s) => if l.phase = 2 then s.bump (dsKey 0x0C) 1 else s.endUse l t 0x2405

/-- WITHDRAW_RECEIVE: the current use ends at its destination (R303). -/
def execWithdrawReceive (p : PortId) (pkt : Pkt) (s : State) : Host.Outcome State Fault Refusal :=
  if pkt.kind != 3 then .next s
  else
    let t := s.takeHanded p.val pkt
    .next (withdrawArrives (t.2.consume t.1) pkt).freeLanes

/-- MGMT_PACKET_RECEIVE: a VC0 packet is handed to the management controller, whose messages are commands of their own
(R271, R479). -/
def execMgmtPacketReceive (p : PortId) (pkt : Pkt) (s : State) : Host.Outcome State Fault Refusal :=
  if pkt.kind != 2 then .next s
  else
    let t := s.takeHanded p.val pkt
    .next (t.2.consume t.1)

/-- DIAG_PACKET_RECEIVE: a VC14 packet is handed to diagnosis, to which the spec gives no further effect (R271). -/
def execDiagPacketReceive (p : PortId) (pkt : Pkt) (s : State) : Host.Outcome State Fault Refusal :=
  if pkt.kind != 5 then .next s
  else
    let t := s.takeHanded p.val pkt
    .next (t.2.consume t.1)

/-! ### Timers (R301, R302, R387) -/

/-- A use of this module ends by a fault of its own: retired, counted, WITHDRAW sent along the path (R302, R305). -/
def State.faultAtSource (s : State) (j : Nat) (t : Transfer) (code : Nat) (withdraw : Bool) : State :=
  let x := s.idState j t.id
  let s := (s.raise code (s.useAt j t t.dst x.gen)).bump (dsKey 0x0D) 1
  let s := s.retire j t.id false
  if withdraw then s.sendWithdraw t x.gen else s

/-- DEADLINE_TX: the completion timer of a guaranteed use expires first (R302). -/
def execDeadlineTx (j : JsId) (id : XferId) (s : State) : Host.Outcome State Fault Refusal :=
  let x := s.idState j.val id.toNat
  match s.sourcedAny j.val id.toNat with
  | none => .next s
  | some (_, _, t) =>
    if x.phase != 1 || x.t0.isNone || t.budget = 0 then .next s
    else
      let s := s.faultAtSource j.val t 0x2406 true
      if x.late then .next ((s.note 0x1401 (s.useAt j.val t t.dst x.gen)).bump (dsKey 0x0E) 1) else .next s

/-- DEADLINE_INCOMPLETE: the local deadline of a use passes with tiles missing (R301). -/
def execDeadlineIncomplete (src : BitVec 16) (js : JsId) (id : XferId) (s : State) : Host.Outcome State Fault Refusal :=
  match s.landingFrom src.toNat js.val id.toNat with
  | none => .next s
  | some (t, l) => if l.phase = 0 && l.deadline.isSome then .next (s.endUse l t 0x2404).freeLanes else .next s

/-- IN_FLIGHT_BUDGET_EXPIRE: a use is no longer in flight through the module (R387). -/
def execInFlightBudgetExpire (src : BitVec 16) (js : JsId) (id : XferId) (s : State) : Host.Outcome State Fault Refusal :=
  .next { s with seenUses := s.seenUses.filter fun u => !(u.src == src.toNat && u.js == js.val && u.id == id.toNat) }

end Sys2Proof.Machine
end

