-- ==== Sys2Proof/Machine/Fabric.lean ====
section
/-! DEFINITION. The band switch and the output arbiters: packets checked and routed (R271 to R277, R304, R387), queued,
chosen (R306, R307) and sent (R268, R297, R298), and the escape pair (R274). -/
namespace Sys2Proof.Machine

/-! ### Packets and routes -/

/-- The channels on which a kind travels (R271). -/
def kindChannel (kind vc : Nat) : Bool :=
  match kind with
  | 0 => decide (4 ≤ vc) && decide (vc ≤ 13)
  | 1 => vc == 1
  | 2 => vc == 0
  | 3 => decide (4 ≤ vc) && decide (vc ≤ 13)
  | 4 => decide (4 ≤ vc) && decide (vc ≤ 13)
  | 5 => vc == 14
  | _ => false

/-- Whether a packet is well formed (R271, R274). -/
def packetOk (p : Pkt) : Bool :=
  kindChannel p.kind.toNat p.origVc.toNat && p.reserved == 0 && decide (p.length.toNat ≤ 4096) &&
    p.payload.length == p.length.toNat &&
    (if p.escaped then p.vc == 2 || p.vc == 3 else kindChannel p.kind.toNat p.vc.toNat)

/-- A route entry (R275). -/
structure RouteEntry where
  kind : Nat
  port : Nat
  altValid : Bool
  alt : Nat
  esc : Nat
  dateline : Bool
  ingress : Nat
  deriving DecidableEq, Repr

/-- A route entry from its 64 bits. -/
def routeOf (v : Nat) : RouteEntry :=
  let b := BitVec.ofNat 64 v
  { kind := getf b 62 2, port := getf b 57 5, altValid := bitf b 56, alt := getf b 51 5, esc := getf b 46 5
    dateline := bitf b 45, ingress := getf b 0 32 }

/-- The active entry for a destination. -/
def State.route (s : State) (dst : Nat) : RouteEntry := routeOf (mapGet 0 s.routes dst)

/-- A counter of the fabric globals (R284): 0x0C ROUTE_DROPS, 0x0D HOP_DROPS, 0x0E PKT_MALFORMED, 0x0F SEQ_GAPS,
0x10 SEQ_REORDERED. -/
def fabricKey (sub : Nat) : Key := ⟨0x3000, sub, 0⟩

/-- OPPORTUNISTIC as it reads: 0 while a job stream is deterministic (R394). -/
def State.opportunistic (s : State) : Bool :=
  s.val (fabricKey 9) == 1 && !(List.range 4).any fun j => s.val ⟨0x9060 + j, 4, 0⟩ == 1

/-- A packet dropped: counted, its buffer freed. -/
def State.dropPacket (s : State) (counter : Nat) (origin : Option (Nat × Nat)) (pkt : Pkt) : State :=
  (s.bump (fabricKey counter) 1).freeOrigin origin (pktUnits pkt)

/-! ### Flows (R272) -/

/-- The flow of an arrival counted; the last 16,384 flows are held. -/
def State.countFlow (s : State) (p : Pkt) : State :=
  let k := flowKey p.src.toNat p.js.toNat p.dst.toNat p.origVc.toNat
  let seq := p.seq.toNat
  let rest := s.flowsRx.filter (·.1 != k)
  let keep := fun (h : Nat) => ((rest ++ [(k, h)]).drop (rest.length + 1 - 16384))
  match s.flowsRx.find? (·.1 == k) with
  | none => { s with flowsRx := keep seq }
  | some (_, h) =>
    let d := (seq + 2 ^ 24 - h) % 2 ^ 24
    if 1 ≤ d && d < 2 ^ 23 then
      let s := { s with flowsRx := keep seq }
      if 1 < d then s.bump (fabricKey 0x0F) (d - 1) else s
    else { s with flowsRx := keep h }.bump (fabricKey 0x10) 1

/-! ### Queues (R306) -/

/-- The transfer of a held schedule that a packet belongs to, with its schedule. -/
def State.transferOf (s : State) (p : Pkt) : Option (Schedule × Transfer) :=
  let src := if p.kind = 4 then p.dst.toNat else p.src.toNat
  (s.findTransfer fun x t => decide (3 ≤ x.state) && t.src == src && t.srcJs == p.js.toNat && t.id == p.id.toNat).map
    fun r => (r.1, r.2.2)

/-- Whether a data packet travels under a budget: its transfer is guaranteed, or an unknown one's budget is not 0. -/
def State.budgeted (s : State) (p : Pkt) : Bool :=
  p.kind == 0 && (match s.transferOf p with | some (_, t) => t.budget != 0 | none => p.budget != 0)

/-- The queue of a packet at an output port (R294, R306). -/
def queueName (s : State) (p : Pkt) (port : Nat) : QueueName :=
  if p.escaped then .bestEffort p.vc.toNat
  else if p.kind = 3 || p.kind = 4 then .report
  else if p.vc = 0 then .vc0
  else if p.vc = 1 then .vc1
  else
    match s.transferOf p with
    | some (x, t) =>
      if p.kind = 0 && t.budget != 0 then
        match findIdxOpt (fun (r : Reservation) => r.module == s.moduleId && r.port == port && r.vc == p.vc.toNat) x.res with
        | some i => .reservation x.row i
        | none => .bestEffort p.vc.toNat
      else .bestEffort p.vc.toNat
    | none => .bestEffort p.vc.toNat

/-- A packet queued for an output port; one that is not UP drops it (R276). -/
def State.enqueue (s : State) (port : Nat) (p : Pkt) (origin : Option (Nat × Nat)) (since : Nat) : State :=
  if !s.portUp port then s.dropPacket 0x0C origin p
  else
    let l := s.link port
    let n := queueName s p port
    let headAt := if l.queue.any (·.queue == n) then none else some s.bandNow
    let q : Queued := { pkt := p, queue := n, headAt := headAt, origin := origin, since := since }
    s.setLink port { l with queue := l.queue ++ [q] }

/-! ### The switch (R273 to R277, R304, R387) -/

/-- The port on which a DELIVERY or WITHDRAW leaves this module, by the transfer's hop list (R304). -/
def reportPort (s : State) (p : Pkt) : Option Nat :=
  match s.transferOf p with
  | none => none
  | some (_, t) =>
    let here := findIdxOpt (fun (h : Nat × Nat) => h.1 == s.moduleId) t.hops
    if p.kind = 3 then here.bind fun i => (t.hops[i]?).map (·.2)
    else
      let i := match here with | some i => i | none => t.hops.length
      if i = 0 then none
      else
        match t.hops[i - 1]? with
        | none => none
        | some (m, q) =>
          (List.range 32).find? fun x => s.portUp x && s.peerModule x == m && s.val (portKey x 8) == q

/-- What the switch notes of a use in flight through the module (R387). -/
def State.noteUse (s : State) (p : Pkt) : State :=
  if p.kind = 3 || p.kind = 4 then
    let src := if p.kind = 4 then p.dst.toNat else p.src.toNat
    { s with seenUses := s.seenUses.filter fun u =>
        !(u.src == src && u.js == p.js.toNat && u.id == p.id.toNat && u.gen == p.gen.toNat) }
  else if p.kind != 0 then s
  else
    match s.transferOf p with
    | none => s
    | some (x, t) =>
      if x.routeEpoch != s.routeEpoch then s
      else
        let budget := if p.src.toNat = s.moduleId then t.budget else p.budget.toNat
        let u : SeenUse := { src := t.src, js := t.srcJs, id := t.id, gen := p.gen.toNat
                             expiry := s.bandNow + cyclesOfUnits budget }
        { s with seenUses := s.seenUses.filter (fun v => !(v.src == u.src && v.js == u.js && v.id == u.id)) ++ [u] }

/-- Tokens × 512 of a full bucket of 4,160 bytes; a unit accrues 125 of these a cycle (R294, R306). -/
def bucketDepth : Nat := 4160 * 512

/-- The key of a queue's bucket and its units; none for a best-effort queue. -/
def bucketOf (s : State) (p : Nat) : QueueName → Option (Nat × Nat)
  | .vc0 => some (0, 6)
  | .vc1 => some (1, 8)
  | .report => some (2, 2)
  | .reservation row i =>
    match s.schedules.find? (·.row == row) with
    | some x => (x.res[i]?).bind fun r => if r.port == p then some (16 + 65536 * row + i, r.units) else none
    | none => none
  | .bestEffort _ => none

/-- Whether the bucket of a queue covers a packet now (R306). -/
def bucketCovers (s : State) (port : Nat) (n : QueueName) (p : Pkt) : Bool :=
  match bucketOf s port n with
  | none => false
  | some (k, units) =>
    let b := mapGet (bucketDepth, 0) (s.link port).buckets k
    decide (pktWire p * 512 ≤ b.1 + (s.bandNow - b.2) * units * 125)

/-- Whether a packet travels outside reservations (R294): best effort, DIAG, escaped, or VC0 and VC1 traffic beyond its bucket. -/
def travelsFree (s : State) (port : Nat) (p : Pkt) : Bool :=
  match queueName s p port with
  | .reservation _ _ => false
  | .report => false
  | .bestEffort _ => p.escaped || !s.budgeted p
  | n => !bucketCovers s port n p

/-- A forwarded packet on its route (R274, R276, R277). -/
def forwardPacket (s : State) (a : Arrived) (origin : Option (Nat × Nat)) (p : Pkt) : State :=
  let e := s.route p.dst.toNat
  let admitted := match a.port with | some q => e.ingress.testBit q | none => true
  if e.kind != 2 || !admitted then s.dropPacket 0x0C origin p
  else if p.escaped then
    if e.dateline && p.vc = 3 then s.dropPacket 0x0C origin p
    else s.enqueue e.esc (if e.dateline then { p with vc := 3 } else p) origin a.since
  else
    let alt := s.opportunistic && e.altValid && travelsFree s e.port p && !s.hasCredit e.port p.vc.toNat (pktUnits p) &&
      s.hasCredit e.alt p.vc.toNat (pktUnits p)
    s.enqueue (if alt then e.alt else e.port) p origin a.since

/-- Whether a WITHDRAW or DELIVERY travels on the channel of the transfer that it names, where that is held here (R271). -/
def channelNamed (s : State) (p : Pkt) : Bool :=
  if p.kind = 3 || p.kind = 4 then match s.transferOf p with | some (_, t) => p.origVc.toNat == t.vc | none => true
  else true

/-- A packet whose header enters the switch (R271 to R277, R298, R304). -/
def switchPacket (s : State) (a : Arrived) : State :=
  let p := a.pkt
  let origin := a.port.map fun q => (q, p.vc.toNat)
  if !packetOk p || !channelNamed s p then s.dropPacket 0x0E origin p
  else
    let report := p.kind == 3 || p.kind == 4
    let here := p.dst.toNat == s.moduleId
    if (if report then here else (s.route p.dst.toNat).kind == 1) then
      { s.noteUse p |>.countFlow p with handed := s.handed ++ [a] }
    else if a.port.isSome && p.hops = 0 then
      (s.dropPacket 0x0D origin p).note 0x130E { domain := 3, clock := clkBand, locKind := 4, location := a.port.getD 0
                                                 peer := p.src.toNat }
    else
      let rest := budgetOnArrival s a
      if a.port.isSome && s.budgeted p && rest = 0 then
        ((s.freeOrigin origin (pktUnits p)).bump (dsKey 0x0F) 1).note 0x1402
          { domain := 3, clock := clkBand, locKind := 4, location := a.port.getD 0, peer := p.src.toNat
            transfer := some (p.id.toNat, p.gen.toNat) }
      else
        let p := if a.port.isSome then
            { p with hops := p.hops - 1, budget := if s.budgeted p then BitVec.ofNat 28 rest else p.budget } else p
        let s := s.noteUse p
        if report && !p.escaped then
          match reportPort s p with
          | some q => s.enqueue q p origin a.since
          | none => s.dropPacket 0x0C origin p
        else forwardPacket s a origin p

/-- PACKET_SWITCH: the header of a packet enters the switch, from a port or from this module (R276); a Near port hands packets on
in `BOLT.SEQ` order (R269). -/
def execPacketSwitch (src : Option PortId) (pkt : Pkt) (s : State) : Host.Outcome State Fault Refusal :=
  if s.doffStep != 0 then .next s
  else match src with
  | none =>
    if s.toSwitch.contains pkt then
      .next (switchPacket { s with toSwitch := removeFirst (· == pkt) s.toSwitch }
        { port := none, pkt := pkt, gap := 0, since := s.bandNow })
    else .next s
  | some p =>
    let is := fun (a : Arrived) => a.port == some p.val && a.pkt == pkt
    let first := s.arrived.find? fun a => a.port == some p.val
    if s.portProfile p.val = 1 && (match first with | some a => a.pkt != pkt | none => false) then .next s
    else match s.arrived.find? is with
    | some a => .next (switchPacket { s with arrived := removeFirst is s.arrived } a)
    | none => .next (switchPacket s { port := some p.val, pkt := pkt, gap := 0, since := s.bandNow })

/-! ### The arbiter (R306, R307) -/

/-- When a head packet became or becomes eligible under its bucket; none while the bucket does not cover it (R306). A
bucket starts full. -/
def eligibleAt (s : State) (p : Nat) (q : Queued) : Option Nat :=
  match bucketOf s p q.queue with
  | none => none
  | some (k, units) =>
    let now := s.bandNow
    let b := mapGet (bucketDepth, 0) (s.link p).buckets k
    let need := pktWire q.pkt * 512
    let wait := ceilDiv (need - b.1) (units * 125)
    let at' := if need ≤ b.1 then 0 else b.2 + wait
    if at' ≤ now then some (max at' (q.headAt.getD now)) else none

/-- The bucket of a queue charged for a packet. -/
def chargeBucket (s : State) (p : Nat) (q : Queued) (l : Link) : Link :=
  match bucketOf s p q.queue with
  | none => l
  | some (k, units) =>
    let now := s.bandNow
    let b := mapGet (bucketDepth, 0) l.buckets k
    let t := min bucketDepth (b.1 + (now - b.2) * units * 125)
    { l with buckets := mapSet (bucketDepth, 0) l.buckets k (t - pktWire q.pkt * 512, now) }

/-- The heads of a port's queues, oldest first, that have credit. -/
def headsWithCredit (s : State) (p : Nat) : List Queued :=
  let heads := (s.link p).queue.foldl (fun acc q => if acc.any (·.queue == q.queue) then acc else acc ++ [q]) ([] : List Queued)
  heads.filter fun q => s.hasCredit p q.pkt.vc.toNat (pktUnits q.pkt)

/-- The order of ties: the lower channel, or the lower reservation index. -/
def tieRank : QueueName → Nat
  | .vc0 => 0
  | .vc1 => 1
  | .report => 2
  | .reservation row i => 65536 * row + i
  | .bestEffort vc => vc

/-- The earliest eligible head among those that meet a test. -/
def earliest (s : State) (p : Nat) (heads : List Queued) (test : QueueName → Bool) : Option Queued :=
  (heads.foldl (fun (best : Option (Nat × Queued)) q =>
    if !test q.queue then best
    else
      match eligibleAt s p q with
      | none => best
      | some t =>
        match best with
        | none => some (t, q)
        | some b => if t < b.1 || (t = b.1 && tieRank q.queue < tieRank b.2.queue) then some (t, q) else best) none).map (·.2)

/-- BE_WEIGHT × 4,160: the quantum of a channel (R307). -/
def quantum (s : State) (vc : Nat) : Nat := 4160 * s.val ⟨0x3200, 1, vc⟩

/-- Deficit round robin over the channels' heads (R307): the channel chosen, with the deficits and turn after it. -/
def roundRobin (s : State) (active : List (Nat × Nat)) :
    Nat → List (Nat × Nat) → Nat → Option (Nat × List (Nat × Nat) × Nat)
  | 0, _, _ => none
  | n + 1, ds, turn =>
    let next := (turn + 1) % 16
    match active.find? (·.1 == turn) with
    | none => roundRobin s active n (mapSet 0 (mapSet 0 ds turn 0) next (mapGet 0 ds next + quantum s next)) next
    | some (_, wire) =>
      let d := mapGet 0 ds turn
      if wire ≤ d then some (turn, mapSet 0 ds turn (d - wire), turn)
      else roundRobin s active n (mapSet 0 ds next (mapGet 0 ds next + quantum s next)) next

/-- The packet that the arbiter of a port takes, with the link after the choice (R306, R307). -/
def choosePacket (s : State) (p : Nat) : Option (Queued × Link) :=
  let l := s.link p
  let heads := headsWithCredit s p
  match earliest s p heads fun n => n == .vc0 || n == .vc1 || n == .report with
  | some q => some (q, chargeBucket s p q l)
  | none =>
    match earliest s p heads fun n => match n with | .reservation _ _ => true | _ => false with
    | some q => some (q, chargeBucket s p q l)
    | none =>
      -- tier 3: the oldest head of each channel
      let chans := heads.foldl (fun acc q => if acc.any (fun (r : Queued) => r.pkt.vc == q.pkt.vc) then acc else acc ++ [q])
        ([] : List Queued)
      let limit := ceilDiv (s.val ⟨0x3200, 5, 0⟩ * 8) 5
      let aged := chans.filter fun q => match q.headAt with | some t => decide (t + limit ≤ s.bandNow) | none => false
      match aged.foldl (fun (b : Option Queued) q =>
          match b with
          | none => some q
          | some r => if q.headAt.getD 0 < r.headAt.getD 0 then some q else b) none with
      | some q => some (q, l)
      | none =>
        match roundRobin s (chans.map fun q => (q.pkt.vc.toNat, pktWire q.pkt)) 64 l.deficits l.turn with
        | none => none
        | some (vc, ds, turn) =>
          (chans.find? fun q => q.pkt.vc.toNat == vc).map fun q => (q, { l with deficits := ds, turn := turn })

/-- A packet taken out of a link's queue; the next of its queue becomes the head. -/
def unqueue (l : Link) (q : Queued) (now : Nat) : Link :=
  let rest := removeFirst (· == q) l.queue
  let i := rest.findIdx fun r => r.queue == q.queue
  { l with queue := rest.modify i fun r => { r with headAt := some (r.headAt.getD now) } }

/-- The budget of a packet that leaves (R297, R298): none when it is spent, or late at its source. -/
def budgetAtDeparture (s : State) (q : Queued) : Option Nat :=
  let p := q.pkt
  if !s.budgeted p then some p.budget.toNat
  else
    let rest :=
      if p.src.toNat = s.moduleId && q.origin.isNone then
        match s.transferOf p with
        | some (_, t) =>
          let x := s.idState p.js.toNat p.id.toNat
          t.budget - unitsOfCycles (s.bandNow - x.t0.getD s.bandNow)
        | none => p.budget.toNat
      else p.budget.toNat - unitsOfCycles (s.bandNow - q.since)
    if rest = 0 then none else some rest

/-- The latest expiry of a use raised by a packet that leaves its source (R241). -/
def State.raiseExpiry (s : State) (p : Pkt) (rest : Nat) : State :=
  if p.kind != 0 || p.src.toNat != s.moduleId then s
  else
    let x := s.idState p.js.toNat p.id.toNat
    if x.phase != 1 || x.gen != p.gen.toNat then s
    else s.setId p.js.toNat p.id.toNat { x with expiry := max x.expiry (s.bandNow + cyclesOfUnits rest) }

/-- A packet leaves by a port: its bytes join the stream (R253, R268, R297). -/
def sendPacket (s : State) (p : Nat) (q : Queued) (rest : Nat) : State :=
  let pkt := { q.pkt with budget := BitVec.ofNat 28 rest }
  let s := (s.raiseExpiry pkt rest).freeOrigin q.origin (pktUnits pkt)
  let l := s.link p
  let vc := pkt.vc.toNat
  let s := s.setLink p { l with
    stream := l.stream ++ pktBytes pkt
    heads := l.heads ++ [l.stream.length]
    sentUnits := mapSet 0 l.sentUnits vc (mapGet 0 l.sentUnits vc + pktUnits pkt) }
  s.pump p

/-- PACKET_DEPART: the arbiter of a port takes the next packet (R306); one that is spent is dropped (R297, R299). -/
def execPacketDepart (p : PortId) (s : State) : Host.Outcome State Fault Refusal :=
  let n := p.val
  let l := s.link n
  if !s.portCarries n || l.peerDraining || l.peerClosing then .next s
  else
    match choosePacket s n with
    | none => .next s
    | some (q, l') =>
      let s := s.setLink n (unqueue l' q s.bandNow)
      match budgetAtDeparture s q with
      | some rest => .next (sendPacket s n q rest)
      | none =>
        if q.origin.isNone then .next s
        else
          .next (((s.freeOrigin q.origin (pktUnits q.pkt)).bump (dsKey 0x0F) 1).note 0x1402
            { portFaultAt s n with peer := q.pkt.src.toNat, transfer := some (q.pkt.id.toNat, q.pkt.gen.toNat) })

/-- ESCAPE_TIMEOUT: the oldest head of a channel that waits for credits enters the escape pair (R274). -/
def execEscapeTimeout (p : PortId) (vc : BitVec 4) (s : State) : Host.Outcome State Fault Refusal :=
  let n := p.val
  let l := s.link n
  let heads := l.queue.foldl (fun acc q => if acc.any (·.queue == q.queue) then acc else acc ++ [q]) ([] : List Queued)
  match heads.find? fun q => q.pkt.vc == vc && !q.pkt.escaped && !s.hasCredit n vc.toNat (pktUnits q.pkt) with
  | none => .next s
  | some q =>
    let s := s.setLink n (unqueue l q s.bandNow)
    let s := if s.budgeted q.pkt then s.bump (dsKey 0x10) 1 else s
    let e := s.route q.pkt.dst.toNat
    let pkt := { q.pkt with escaped := true, vc := if e.dateline then 3 else 2 }
    if e.kind != 2 then .next (s.dropPacket 0x0C q.origin pkt)
    else .next (s.enqueue e.esc pkt q.origin q.since)

end Sys2Proof.Machine
end

