-- ==== Sys2Proof/Machine/Dict.lean ====
section
/-! DEFINITION. What every request of the parameter dictionary shares: requesters (R475), the checks of R484 in their
order, the answer, locks (R471) and the maintenance right (R478). -/
namespace Sys2Proof.Machine

/-- A requester's identity (R475). -/
def requesterId (r : Requester) : Nat :=
  (match r.transport with | .pcieVdm => 1 | .i3c => 2 | .vc0 => 3) + r.eid.toNat * 2 ^ 8 +
    (match r.transport with | .vc0 => r.srcModule.toNat * 2 ^ 16 | _ => 0)

/-- Status codes of R484. -/
def stOk : Nat := 0x00
def stUnknown : Nat := 0x01
def stAccess : Nat := 0x02
def stType : Nat := 0x03
def stRange : Nat := 0x04
def stState : Nat := 0x05
def stLocked : Nat := 0x06
def stMaintenance : Nat := 0x07
def stRight : Nat := 0x08
def stBusy : Nat := 0x09
def stNotReady : Nat := 0x0A
def stMalformed : Nat := 0x0B
def stPinned : Nat := 0x0C
def stFull : Nat := 0x0D
def stDoffed : Nat := 0x0E

/-- Whether the dictionary can be reached (R434, R473). -/
def State.reachable (s : State) : Bool := decide (2 ≤ s.lifecycle) && !s.inDoubt

/-- Whether a requester holds the maintenance right (R477). -/
def State.holdsRight (s : State) (who : Requester) : Bool := s.val ⟨0x1100, 7, 0⟩ == requesterId who

/-- Whether a job stream is locked (R490). -/
def State.locked (s : State) (j : Nat) : Bool := s.val (keyJsLock j) == 1

/-- The job stream that an RWL entry belongs to (R471); none: to every job stream. -/
def lockOwner (index : Nat) : Option Nat :=
  [0x4018, 0x5110, 0x9010, 0x9060].findSome? fun b => if b ≤ index && index < b + 4 then some (index - b) else none

/-- The job stream whose lock refuses an RWL entry (R471). -/
def State.lockRefusal (s : State) (index : Nat) : Option Nat :=
  match lockOwner index with
  | some j => if s.locked j then some j else none
  | none => (List.range 4).find? fun j => s.locked j

/-- The answer to a request (R480). -/
def State.answer (s : State) (rq : Rq) (op index sub status detail : Nat) (more : Bool) (data : List Byte) : State :=
  s.emit (.response rq.who (op + 0x80) rq.tag status index sub detail more data)

/-- Whether a request's header is as R480 asks, its operation apart. -/
def headerWellFormed (rq : Rq) : Bool := rq.version == 1 && rq.reserved == 0

/-- What a SET comes to after the common checks: a new state; a refusal with its detail, which changes nothing; or a refusal
that is counted (R406). -/
inductive SetResult where
  | ok (s : State)
  | refuse (status detail : Nat)
  | refuseIn (s : State) (status detail : Nat)

/-- The lining commands and others that only the Maintenance state admits (R465). -/
def maintenanceOnly (index sub : Nat) : Bool :=
  index == 0x6000 && (sub == 0x05 || sub == 0x0B || sub == 0x0C || sub == 0x13 || sub == 0x14 || sub == 0x15)

/-- The SETs that require the maintenance right beside RWP entries (R478); RESET does not in the Doffed state. -/
def rightRequired (s : State) (index sub : Nat) : Bool :=
  maintenanceOnly index sub || (index == 0xA010 && sub == 3) ||
    (decide (0x7010 ≤ index) && decide (index < 0x7014) && sub == 4) ||
    (decide (0xA020 ≤ index) && decide (index < 0xA024) && sub == 1) ||
    (index == 0x1100 && (sub == 1 || (sub == 2 && s.lifecycle != 6)))

/-- The checks of R484 up to PINNED for a SET of an entry: none, or the refusal. -/
def setRefusal (s : State) (rq : Rq) (index sub : Nat) : Option (Nat × Nat) :=
  if !headerWellFormed rq then some (stMalformed, 0)
  else if s.lifecycle = 2 then some (stNotReady, 2)
  else if s.lifecycle = 6 && index != 0x1100 then some (stDoffed, 0)
  else
    match entryOf index sub with
    | none => some (stUnknown, 0)
    | some e =>
      if e.access = .ro then some (stAccess, 0)
      else if (e.access = .rwp || maintenanceOnly index sub) && s.lifecycle != 3 then
        if s.lifecycle = 6 then some (stDoffed, 0) else some (stMaintenance, 0)
      else if (e.access = .rwp || rightRequired s index sub) && !s.holdsRight rq.who then some (stRight, 0)
      else
        match (if e.access = .rwl then s.lockRefusal index else none) with
        | some j => some (stLocked, j)
        | none => if s.pinned.contains (256 * index + sub) then some (stPinned, 0) else none

/-- A SET of one entry, answered (R484): a refused one changes nothing but the answer. -/
def State.dictSet (s : State) (rq : Rq) (index sub : Nat) (body : State → SetResult) : State :=
  if !s.reachable then s
  else
    match setRefusal s rq index sub with
    | some (st, d) => s.answer rq 2 index sub st d false []
    | none =>
      match body s with
      | .ok s' => s'.answer rq 2 index sub stOk 0 false []
      | .refuse st d => s.answer rq 2 index sub st d false []
      | .refuseIn s' st d => s'.answer rq 2 index sub st d false []

/-- A BOOL command that only 1 sets going; a value other than 0 and 1 is refused with TYPE (R469), 0 does nothing. -/
def boolCommand (v : Nat) (body : State → SetResult) (s : State) : SetResult :=
  if 1 < v then .refuse stType 0 else if v = 0 then .ok s else body s

/-- The first failing numbered check as a STATE refusal (R484). -/
def checkOrder (checks : List (Nat × Bool)) (ok : SetResult) : SetResult :=
  match checks.find? (·.2) with
  | some (n, _) => .refuse stState n
  | none => ok

end Sys2Proof.Machine
end

