-- ==== Sys2Proof/Machine/Regions.lean ====
section
/-! DEFINITION. Regions and quotas (R196 to R202): creation and destruction, scrubs, replay regions (R198, R264),
CORE_MASK (R77, R198), the domains that regions hold (R36), and the planes of a context (R174, R175). -/
namespace Sys2Proof.Machine

/-! ### Spans and domains -/

/-- The power domains that a span of HBM holds: all four PHY pairs of the crown for interleaved space, one pair for a
stack-local span (R197). -/
def hbmDomains (base : Nat) : List Nat :=
  let c := hbmCrown base
  let o := base % crownSpan
  if o < 0x2C00000000 then (List.range 4).map (domPhy c) else [domPhy c ((o - 0x2C00000000) / 0x80000000 / 2)]

/-- The domains that a region holds (R34, R197). -/
def regionDomains (tier base : Nat) : List Nat :=
  if tier = 1 then [domPool (poolCluster base / 8) (poolCluster base % 8)] else hbmDomains base

/-- The domains that scrubs and accesses of HBM and pools need ON. -/
def State.domainsOn (s : State) (ds : List Nat) : Bool := ds.all fun d => s.domain d == 1

/-- Whether a domain holds a region of any job stream (R36, rule 4; R198 for cores). -/
def State.domainHolds (s : State) (d : Nat) : Bool :=
  (s.regions.any fun r => (regionDomains r.tier r.base).contains d) ||
    (List.range 256).any fun c => domCluster c == d && (s.jsOfCore c).isSome

/-- Whether two spans overlap. -/
def spansMeet (a n b m : Nat) : Bool := decide (a < b + m) && decide (b < a + n)

/-- Whether a span of tier 2 or 3 keeps to one interleaved space or one stack-local span 1 to 7 (R191, R197). -/
def hbmSpanOk (base size : Nat) : Bool :=
  let o := base % crownSpan
  let last := base + size - 1
  inHbm base && inHbm last && hbmCrown base == hbmCrown last &&
    (if o < 0x2C00000000 then decide (o + size ≤ 0x2C00000000)
     else
       let j := (o - 0x2C00000000) / 0x80000000
       decide (1 ≤ j) && decide (o + size ≤ 0x2C00000000 + (j + 1) * 0x80000000))

/-- A quota of a job stream: 1 scratchpad, 2 pool, 3 HBM, 4 replay (R201). -/
def quotaKey (j which : Nat) : Key := ⟨0x4010 + j, which, 0⟩

/-- Bytes of the regions of tier 2 and 3, for HBM_UNALLOCATED (R202). -/
def State.hbmAllocated (s : State) : Nat :=
  (s.regions.filter fun r => decide (2 ≤ r.tier)).foldl (fun n r => n + r.size) 0

/-- A region put in the order of numbers. -/
def insertRegion (r : Region) : List Region → List Region
  | [] => [r]
  | x :: xs => if r.number < x.number then r :: x :: xs else x :: insertRegion r xs

/-! ### REGION_CREATE, REGION_DESTROY (R197, R200) -/

/-- A region from its 32-byte descriptor (R196). -/
def regionOf (d : BitVec 256) : Region :=
  { number := getf d 150 10, base := getf d 208 48, size := getf d 160 48, tier := getf d 148 2, js := getf d 146 2
    read := bitf d 145, write := bitf d 144, land := bitf d 143, host := bitf d 142, prefetch := bitf d 141, state := .active }

/-- The descriptor of a region as REGION_TABLE shows it (R196, R202). -/
def regionRow (r : Region) : BitVec 256 :=
  let b := fun (x : Bool) => if x then 1 else 0
  let d := setf (setf (setf (0 : BitVec 256) 208 48 r.base) 160 48 r.size) 150 10 r.number
  let d := setf (setf (setf d 148 2 r.tier) 146 2 r.js) 145 1 (b r.read)
  let d := setf (setf (setf d 144 1 (b r.write)) 143 1 (b r.land)) 142 1 (b r.host)
  setf (setf d 141 1 (b r.prefetch)) 139 2 (match r.state with | .active => 1 | .scrubbing => 2)

/-- The rules of R197 for a descriptor, in order. -/
def regionChecks (s : State) (d : BitVec 256) : List (Nat × Bool) :=
  let r := regionOf d
  let unit := if r.tier = 1 then 0x10000 else 0x200000
  let span := if r.tier = 1 then
      inPool r.base && inPool (r.base + r.size - 1) && poolCluster r.base == poolCluster (r.base + r.size - 1)
    else hbmSpanOk r.base r.size
  [(1, getf d 0 141 != 0 || r.size == 0 || !(r.tier == 1 || r.tier == 2) || decide (992 ≤ r.number) ||
        (s.regions.any fun x => x.number == r.number) || (r.prefetch && r.tier == 1)),
   (2, r.base % unit != 0 || r.size % unit != 0 || !span),
   (3, s.regions.any fun x => spansMeet r.base r.size x.base x.size),
   (4, decide (s.val (quotaKey r.js (r.tier + 1)) < s.usedBytes r.js r.tier + r.size)),
   (5, !s.domainsOn (regionDomains r.tier r.base))]

/-- REGION_CREATE on a value of 32 bytes. -/
def regionCreateBody (desc : List Byte) (s : State) : SetResult :=
  let d := BitVec.ofNat 256 (leAt desc 0 32)
  if desc.length != 32 then .refuse stType 0
  else checkOrder (regionChecks s d) (.ok { s with regions := insertRegion (regionOf d) s.regions })

/-- REGION_CREATE (R197). -/
def execRegionCreate (rq : Rq) (desc : List Byte) (s : State) : Host.Outcome State Fault Refusal :=
  .next (s.dictSet rq 0x4000 1 (regionCreateBody desc))

/-! ### Contexts and their planes (R174, R175) -/

/-- d of a context: 64, 128 or 256. -/
def ctxDim (d : BitVec 512) : Nat := 64 * 2 ^ getf d 182 2
/-- MAX_PAGES × KV_HEADS. -/
def ctxEntries (d : BitVec 512) : Nat := getf d 240 16 * getf d 184 8
/-- Slot bytes of a page for a head dimension (R176). -/
def slotBytes (dim : Nat) : Nat := if dim = 64 then 49664 else if dim = 128 then 99072 else 198144

/-- The planes of a context as (address, bytes): page table, summary keys, summary accumulators, scores when eviction is
on, slots (R174, R175). -/
def ctxPlanes (d : BitVec 512) : List (Nat × Nat) :=
  let n := ctxEntries d
  let dim := ctxDim d
  [(getf d 288 48, 16 * n), (getf d 384 48, 2 * dim * n), (getf d 432 48, 4 * dim * n)] ++
    (if getf d 224 16 = 0 then [] else [(getf d 336 48, 4 * n)]) ++ [(getf d 128 48, n * getf d 96 32)]

/-- The span of a transfer's landing slots (R291). -/
def landingSpan (t : Transfer) : Nat × Nat :=
  if t.commit then (t.base, 512 + (t.tiles - 1) * t.stride) else (t.base, t.tiles * t.stride)

/-- Whether REGION_DESTROY of a region is refused by the state (R200). -/
def destroyRefused (s : State) (r : Region) : Bool :=
  r.state != .active || !(r.tier == 1 || r.tier == 2) || s.stepRunning r.js ||
    (s.contexts.any fun e => (ctxPlanes e.2).any fun p => spansMeet p.1 p.2 r.base r.size) ||
    s.schedules.any fun x => decide (2 ≤ x.state) && x.transfers.any fun t =>
      t.dst == s.moduleId && spansMeet (landingSpan t).1 (landingSpan t).2 r.base r.size

/-- A region that starts to be scrubbed (R198, R200); window entries that map it are cleared first (R505). -/
def State.scrubRegion (s : State) (n : Nat) : State :=
  let gone := s.regions.filter (·.number == n)
  { s with
    regions := s.regions.map fun r => if r.number = n then { r with state := .scrubbing } else r
    windows := s.windows.filter fun e => !(bitf e.2 63 && gone.any fun r => r.holds (getf e.2 21 27 * 0x200000) 1) }

/-- REGION_DESTROY's own part. -/
def regionDestroyBody (n : Nat) (s : State) : SetResult :=
  match s.regions.find? (·.number == n) with
  | none => if 1023 < n then .refuse stRange 0 else .refuse stState 0
  | some r => if destroyRefused s r then .refuse stState 0 else .ok (s.scrubRegion n)

/-- REGION_DESTROY (R200). -/
def execRegionDestroy (rq : Rq) (v : BitVec 16) (s : State) : Host.Outcome State Fault Refusal :=
  .next (s.dictSet rq 0x4000 2 (regionDestroyBody v.toNat))

/-- Atoms that the scrub of a region writes at a stack: a stack-local region lies in one stack, an interleaved one spreads
evenly over the eight of its crown, since its size is a multiple of 2 MiB (R191, R192, R197). -/
def scrubAtoms (r : Region) (stack : Nat) : Nat :=
  if r.tier = 1 || stack / 8 != hbmCrown r.base then 0
  else if r.base % crownSpan < 0x2C00000000 then r.size / 512
  else if (hbmPlace r.base).stack = stack then r.size / 64 else 0

/-- SCRUB_COMPLETE: zeros over the region, which leaves the table (R200); its atoms are counted (R221). The writes of the scrub
stand in no requester's slots (log entry 56). -/
def execScrubComplete (n : BitVec 10) (s : State) : Host.Outcome State Fault Refusal :=
  match s.regions.find? fun r => r.number == n.toNat && r.state == .scrubbing with
  | none => .next s
  | some r =>
    let s := (List.range 32).foldl (fun s k => if scrubAtoms r k = 0 then s else s.bump (stackKey k 7) (scrubAtoms r k)) s
    let s := s.clearMem r.base r.size
    .next { s with regions := s.regions.filter (·.number != n.toNat) }

/-! ### Replay regions (R198, R264) -/

/-- Bytes of a replay region. -/
def replaySize : Nat := 0x10000000

/-- The lowest free place of a replay region in the interleaved space of a crown, 2 MiB aligned; `n` bounds the search. -/
def replayPlace (s : State) (crown : Nat) : Nat → Nat → Option Nat
  | 0, _ => none
  | n + 1, base =>
    if crown * crownSpan + 0x2C00000000 < base + replaySize then none
    else
      match s.regions.find? fun r => spansMeet base replaySize r.base r.size with
      | none => some base
      | some r => replayPlace s crown n (ceilDiv (r.base + r.size) 0x200000 * 0x200000)

/-- The replay region of a port created (R264): none where quota, space or PHY pairs do not allow it. -/
def State.createReplay (s : State) (p : Nat) : Option State :=
  let crown := p / 8
  let j := s.val ⟨0x3100 + p, 0x0D, 0⟩
  (replayPlace s crown (s.regions.length + 1) (crown * crownSpan)).bind fun base =>
    if s.val (quotaKey j 4) < s.usedBytes j 3 + replaySize || !s.domainsOn ((List.range 4).map (domPhy crown)) then none
    else
      let r : Region := { number := 992 + p, base := base, size := replaySize, tier := 3, js := j, read := false, write := false
                          land := false, host := false, prefetch := false, state := .active }
      some { s with regions := insertRegion r s.regions }

/-- The replay region of a port, ACTIVE or SCRUBBING. -/
def State.replayRegion (s : State) (p : Nat) : Option Region := s.regions.find? (·.number == 992 + p)

/-- The replay region of a port removed: scrubbed (R198, R264). -/
def State.removeReplay (s : State) (p : Nat) : State := s.scrubRegion (992 + p)

/-! ### CORE_MASK (R77, R198) -/

/-- Bits set in a mask of 256 bits. -/
def maskBits (m : Nat) : Nat := ((List.range 256).filter fun i => m.testBit i).length

/-- CORE_MASK's own part: no overlap with another job stream, the scratchpad quota kept. -/
def coreMaskBody (j m : Nat) (s : State) : SetResult :=
  if (List.range 4).any fun k => k != j && (s.coreMask k &&& m) != 0 then .refuse stState 0
  else if (m &&& s.coreMask j) != m && decide (s.val (quotaKey j 1) < maskBits m * 0x600000) then .refuse stState 0
  else .ok (s.setVal ⟨0x9010 + j, 2, 0⟩ m)

/-- CORE_MASK_SET (R77, R198). -/
def execCoreMaskSet (rq : Rq) (j : JsId) (mask : BitVec 256) (s : State) : Host.Outcome State Fault Refusal :=
  .next (s.dictSet rq (0x9010 + j.val) 2 (coreMaskBody j.val mask.toNat))

end Sys2Proof.Machine
end

