-- ==== Sys2Proof/Machine/Session.lean ====
section
/-! DEFINITION. Link sessions and their keys (R455, R458 to R462), and how a port loses its peer (R282) or fails its
bring-up (R261). -/
namespace Sys2Proof.Machine

/-! ### Bytes from the DRBG (R448) -/

/-- The DRBG in service: instantiated anew from the entropy source where its state has been destroyed (R448, R463). -/
def State.seedDrbg (s : State) : State :=
  if s.drbg.isSome then s else { s with drbg := some 0, drbgSeeds := s.drbgSeeds + 1 }

/-- `n` blocks of 32 bytes from the lining's DRBG. -/
def State.random (s : State) : Nat → List Byte × State
  | 0 => ([], s)
  | n + 1 =>
    let s := s.seedDrbg
    let k := s.drbg.getD 0
    let r := State.random { s with drbg := some (k + 1) } n
    (natLe 32 (Config.drbg s.drbgSeeds k).toNat ++ r.1, r.2)

/-- The store key of R463, which a boot forms from the fused secret and the salt; none without them. -/
def State.storeKey (s : State) : List Byte :=
  if s.storeSalt.isEmpty || s.retired then [] else shake256 32 (natLe 32 Config.fusedSecret.toNat ++ s.storeSalt)

/-- The ASCII bytes of a label (R459). -/
def labelBytes (l : String) : List Byte := l.toList.map fun c => BitVec.ofNat 8 c.toNat

/-- 64 bytes of SHAKE256 as a number, as digests are held (R447). -/
def digest64 (bs : List Byte) : Nat := leNat (shake256 64 bs)

/-- The static encapsulation and decapsulation keys of the module (R463). -/
def State.staticKey (s : State) : List Byte × List Byte := Config.kemKeygen s.linkSeed

/-- ENCRYPT_POLICY (R284). -/
def State.encrypts (s : State) : Bool := s.val (fabricKey 0x0A) == 1

/-- Whether both ends of a port hold ENCRYPT_POLICY 0 (R256, R460). -/
def plainLink (s : State) (p : Nat) : Bool :=
  !s.encrypts && (match (s.link p).hello with | some h => !h.encrypt | none => false)

/-- Whether a port's bolts are under a session, or both ends have waived one: before that, only HELLO, PROBE and KEY blocks are
sent (R256). -/
def State.framed (s : State) (p : Nat) : Bool := (s.link p).keys.established || plainLink s p

/-- NAK, SACK and GAP blocks, which only a framed link carries (R256). -/
def State.sendRecovery (s : State) (p : Nat) (b : Nat) : State := if s.framed p then s.sendBlocks p [b] else s

/-! ### Key material (R459, R461) -/

/-- Two values in the order lo, hi, the own one first (R459). -/
def orderLo (lo : Bool) (own peer : List Byte) : List Byte := if lo then own ++ peer else peer ++ own

/-- The key material of a phase from its secret. -/
def phaseKeys (secret : List Byte) : List Byte := shake256 72 (labelBytes "KX4 LINK KEYS" ++ secret)

/-- Keys of phases that neither direction uses any more are zeroised (R461). -/
def pruneKeys (k : Keys) : Keys :=
  if k.rxPrevious then k else { k with material := k.material.filter fun m => min k.txPhase k.rxPhase ≤ m.1 }

/-- The CONFIRM tag of the end `lo` for the phase 0 material (R460). -/
def confirmTag (material transcript : List Byte) (lo : Bool) : List Byte :=
  let d := directionKey material lo
  (Config.gcmSeal d.1 (d.2 ++ List.replicate 8 0xFF) (labelBytes "KX4 CONFIRM" ++ transcript) []).2

/-- A key-agreement message of a port sent in KEY blocks (R458). -/
def State.sendKey (s : State) (p msg phase : Nat) (bytes : List Byte) : State :=
  s.sendBlocks p (keyBlocks msg phase (bytes.length / 24 + 1) 0 bytes)

/-- The keys of a port replaced. -/
def State.setKeys (s : State) (p : Nat) (k : Keys) : State := s.setLink p { s.link p with keys := k }

/-- The next phase is prepared once both directions use the newest one (R461): RK1 goes out. -/
def State.startRekey (s : State) (p : Nat) : State :=
  let k := (s.link p).keys
  if k.established && k.txPhase == k.secretPhase && k.rxPhase == k.secretPhase && k.rkKey.isNone && !k.secret.isEmpty then
    let r := s.random 2
    let pair := Config.kemKeygen r.1
    (r.2.setKeys p { k with rkKey := some pair.2 }).sendKey p 4 (k.secretPhase + 1) pair.1
  else s

/-- The next secret once both shared secrets are there (R461). -/
def State.finishRekey (s : State) (p : Nat) : State :=
  let k := (s.link p).keys
  if k.rkOwn.isEmpty || k.rkPeer.isEmpty || k.secret.isEmpty then s
  else
    let secret := shake256 64 (labelBytes "KX4 LINK RK" ++ k.secret ++ orderLo (s.isLo p) k.rkOwn k.rkPeer)
    s.setKeys p { k with
      secret := secret, secretPhase := k.secretPhase + 1
      material := k.material ++ [(k.secretPhase + 1, phaseKeys secret)]
      rkKey := none, rkOwn := [], rkPeer := [] }

/-! ### Bring-up (R261) -/

/-- The optical quad's power domain of a port (R34). -/
def domQuad (q : Nat) : Nat := 64 + q

/-- A laser reading of a quad's lane in 0.01 dBm (R284). -/
def State.laser (s : State) (q lane : Nat) : Int := (BitVec.ofNat 16 (s.val ⟨0x3000, 0x11, 4 * q + lane⟩)).toInt

/-- Whether a quad's laser input lies within 15.0 to 21.0 dBm on every wavelength (R251). -/
def State.laserOk (s : State) (q : Nat) : Bool :=
  (List.range 4).all fun l => decide (1500 ≤ s.laser q l) && decide (s.laser q l ≤ 2100)

/-- The entries of a session back to none: the port carries no profile and no keys (R262, R462). -/
def State.clearSession (s : State) (p step failures : Nat) : State :=
  (s.setLink p { step := step, failures := failures }).setVal (portKey p 4) 0

/-- A port in TRAINING at a step of R261 with a fresh link. -/
def State.train (s : State) (p step failures : Nat) : State := (s.clearSession p step failures).setPortState p 2

/-- The bring-up step in progress fails: its bound will be missed (R261). -/
def State.failStep (s : State) (p : Nat) : State :=
  let l := s.link p
  if l.step < 100 then s.setLink p { l with step := l.step + 100 } else s

/-- The key agreement of step 8 fails (R460, R462): note KEY_AGREE_FAIL, secrets discarded. -/
def State.keyFail (s : State) (p : Nat) : State :=
  ((s.setKeys p {}).failStep p).note 0x1902 (portFaultAt s p)

/-- An exchange for the next phase fails: every secret of the session is discarded with it (R458, R462). No bolt is sealed or
opened from then on: the change of phase is due and its keys are never ready (R461). -/
def State.rekeyFail (s : State) (p : Nat) : State :=
  let k := (s.link p).keys
  s.setKeys p { established := k.established, txPhase := k.txPhase, rxPhase := k.rxPhase, secretPhase := k.secretPhase
                phaseBolts := k.phaseBolts, due := true }

/-- Whether a port is in step 8 of its bring-up, with no doff under way (R261). -/
def State.keying (s : State) (p : Nat) : Bool := s.doffStep == 0 && s.portState p == 5 && (s.link p).step == 8

/-- The exchange in progress on a port fails (R458, R460, R462). -/
def State.exchangeFail (s : State) (p : Nat) : State :=
  if s.keying p then s.keyFail p
  else if (s.link p).keys.established then s.rekeyFail p
  else s

/-- Bytes of a key-agreement message (R458). -/
def keyLength : Nat → Nat
  | 1 => 3136
  | 2 => 3136
  | 3 => 16
  | 4 => 1568
  | 5 => 1568
  | _ => 0

/-- A KEY block taken in `BOLT.SEQ` order (R458): a fragment that is missing, repeated or out of order, a message whose length
is wrong, or a phase other than 0 where none is prepared, fails the exchange. -/
def State.takeKeyBlock (s : State) (p block : Nat) : State :=
  let b := BitVec.ofNat 256 block
  let k := (s.link p).keys
  let old := k.part.getD { msg := getf b 244 4, phase := getf b 224 2, next := 0, bytes := [] }
  let bytes := old.bytes ++ (natLe 24 (getf b 0 192)).take (getf b 227 5)
  let last := bitf b 226
  let x : KeyPart := { old with next := old.next + 1, bytes := bytes }
  if getf b 244 4 != old.msg || getf b 224 2 != old.phase || getf b 232 12 != old.next || (old.msg ≤ 3 && old.phase != 0) ||
      getf b 227 5 = 0 || decide (24 < getf b 227 5) ||
      decide (keyLength old.msg < bytes.length) || (last && bytes.length != keyLength old.msg) then
    (s.setKeys p { k with part := none }).exchangeFail p
  else if last then s.setKeys p { k with part := none, ready := k.ready ++ [x] }
  else s.setKeys p { k with part := some x }

/-- KEY blocks whose bolts the stream has reached, taken in order (R266). -/
def State.takeKeys (s : State) (p : Nat) : State :=
  let l := s.link p
  let due := l.keys.behind.filter fun e => decide (e.1 < l.rxNext)
  let s := s.setKeys p { l.keys with behind := l.keys.behind.filter fun e => !decide (e.1 < l.rxNext) }
  (due.flatMap (·.2)).foldl (fun s b => s.takeKeyBlock p b) s

/-- The message of a kind that a port deals with now: the oldest one assembled from KEY blocks, else the command's, with its
phase (log entry 5). -/
def State.keyMessage (s : State) (p kind phase : Nat) (msg : List Byte) : KeyPart :=
  ((s.link p).keys.ready.find? (·.msg == kind)).getD { msg := kind, phase := phase, next := 0, bytes := msg }

/-- A message dealt with: it leaves the list. -/
def State.dropMessage (s : State) (p kind : Nat) : State :=
  let k := (s.link p).keys
  if k.ready.isEmpty then s else s.setKeys p { k with ready := removeFirst (·.msg == kind) k.ready }

/-- Step 8 starts (R459, R460): both ends send HS1, unless both hold ENCRYPT_POLICY 0. -/
def State.startKeying (s : State) (p : Nat) : State :=
  let s := s.setPortState p 5
  if plainLink s p then s.setLink p { s.link p with step := 9 }
  else
    let s := s.setLink p { s.link p with step := 8 }
    if s.linkSeed.isEmpty then s.keyFail p
    else
      let r := s.random 2
      let pair := Config.kemKeygen r.1
      let hs1 := s.staticKey.1 ++ pair.1
      (r.2.setKeys p { hs1 := hs1, ephKey := pair.2 }).sendKey p 1 0 hs1

/-- The session starts (R255, R460): phase 0 keys loaded, bolt counters from 0, step 9. -/
def State.startSession (s : State) (p : Nat) : State :=
  let l := s.link p
  (s.setLink p { l with
    step := 9, txCount := 0, unacked := [], rxNext := 0, runs := [], gaps := [], naking := false, nakSince := none
    keys := { l.keys with established := true, hs1 := [], ephKey := [], peerHs1 := [], hs2 := [], ownSecrets := [] } }).startRekey p

/-! ### Loss of a peer (R281, R282, R305) -/

/-- Whether a transfer's path uses a port of this module, in either direction. -/
def usesPort (s : State) (p : Nat) (t : Transfer) : Bool :=
  t.hops.contains (s.moduleId, p) || t.hops.contains (s.peerModule p, s.val (portKey p 8))

/-- Job streams of this module with an admitted transfer whose path uses a port (R282). -/
def portStreams (s : State) (p : Nat) : List Nat :=
  let ts := (s.schedules.filter fun x => decide (3 ≤ x.state)).flatMap fun x => x.transfers.filter (usesPort s p)
  (List.range 4).filter fun j => ts.any fun t => (t.src == s.moduleId && t.srcJs == j) || (t.dst == s.moduleId && t.dstJs == j)

/-- The WITHDRAW of a use whose first hop is lost, where a path remains: the escape pair to the destination (R274, R305, log
entry 60). -/
def State.withdrawByEscape (s : State) (t : Transfer) (gen : Nat) : State :=
  let e := s.route t.dst
  if e.kind = 2 && s.portUp e.esc then s.inject { transferPacket s 3 t gen with escaped := true, vc := 2 } else s

/-- ACTIVE uses whose first hop is a port end TRANSFER_LOST, and a WITHDRAW goes out if a path remains (R305, R437). -/
def State.loseUses (s : State) (p : Nat) : State :=
  let ts := (s.schedules.filter fun x => decide (3 ≤ x.state)).flatMap fun x =>
    x.transfers.filter fun t => t.src == s.moduleId && t.hops.head? == some (s.moduleId, p)
  ts.foldl (fun s t =>
    let x := s.idState t.srcJs t.id
    if x.phase = 1 then (s.faultAtSource t.srcJs t 0x2407 false).withdrawByEscape t x.gen else s) s

/-- Packets queued for a port are dropped (R282, R276). -/
def State.dropQueue (s : State) (p : Nat) : State :=
  let l := s.link p
  l.queue.foldl (fun s q => s.dropPacket 0x0C q.origin q.pkt) (s.setLink p { l with queue := [] })

/-- Landings from a module that is lost (R236, R282). -/
def State.loseLandings (s : State) (m : Nat) : State :=
  { s with landings := s.landings.map fun l => if l.src = m && l.phase = 0 then { l with lost := true } else l }

/-- The secrets of a session that leaves UP or whose exchange fails are discarded (R462): what the key agreement and the re-key
hold. The keys in the link stay as long as the port still has bolts to close with (log entry 58). -/
def State.discardSecrets (s : State) (p : Nat) : State :=
  let k := (s.link p).keys
  s.setKeys p { established := k.established, material := k.material, txPhase := k.txPhase, rxPhase := k.rxPhase
                rxPrevious := k.rxPrevious, phaseBolts := k.phaseBolts, secretPhase := k.secretPhase, due := k.due }

/-- A port's lanes stop for good: no session, no replay region, DISABLED (R264, R283). -/
def State.closePort (s : State) (p : Nat) : State := ((s.clearSession p 0 0).removeReplay p).setPortState p 1

/-- A port declares its peer lost (R282); one that was being disabled is disabled with that (R283). -/
def State.losePort (s : State) (p : Nat) : State :=
  let a := portFaultAt s p
  let js := portStreams s p
  let draining := s.portState p == 7
  let s := (s.setPortState p 8).bump (portKey p 0x19) 1
  let s := if js.isEmpty then s.note 0x130B a
    else js.foldl (fun s j => s.withdrawal 0x2301 { a with js := some j }) s
  let s := (s.dropQueue p).loseLandings a.peer
  let s := s.loseUses p
  if draining then s.closePort p else s.clearSession p 0 0

/-! ### Retransmission and acknowledgement (R265 to R267) -/

/-- Bolts acknowledged by the next expected `BOLT.SEQ` leave the list: those before the one count from the oldest kept up to
the transmit counter that the 20 bits name (R266). -/
def State.acknowledge (s : State) (p ack : Nat) : State :=
  let l := s.link p
  match l.unacked with
  | [] => s
  | o :: _ =>
    let next := o.count + (ack + 2 ^ 20 - o.count % 2 ^ 20) % 2 ^ 20
    if next ≤ l.txCount then s.setLink p { l with unacked := l.unacked.filter fun b => decide (next ≤ b.count) } else s

/-- Whether the replay copy of a Far bolt reads back uncorrectable (R219, R267). -/
def replayUnreadable (s : State) (p count : Nat) : Bool :=
  match s.replayRegion p with
  | some r => s.portProfile p == 2 && s.spanPoisoned (r.base + 512 * (count % 2 ^ 19)) 512
  | none => false

/-- The read of a Far bolt's replay copy presented (R209, R266). -/
def State.readReplay (s : State) (p count : Nat) : State :=
  match s.replayRegion p with
  | some r =>
    if s.portProfile p = 2 then s.requestAlone (.port (Fin.ofNat 32 p)) (p / 8) (r.base + 512 * (count % 2 ^ 19)) 512 none else s
  | none => s

/-- One bolt sent again, or its loss announced by GAP (R266, R267). -/
def State.resend (s : State) (p : Nat) (b : TxBolt) : State :=
  let s := s.readReplay p b.count
  let l := s.link p
  if replayUnreadable s p b.count then
    let s := s.setLink p { l with unacked := l.unacked.filter (·.count != b.count) }
    ((s.bump (portKey p 0x1A) 1).note 0x130A { portFaultAt s p with detail := b.count }).sendRecovery p (gapBlock b.count)
  else
    let s := s.setLink p { l with unacked := l.unacked.map fun x => if x.count = b.count then { x with sends := x.sends + 1 } else x }
    ((s.bump (portKey p 0x11) 1).bump (portKey p 0x16) 1).emit (.bolt p b.bytes)

/-- Bolts of a Far port sent again; one that has been sent 8 times loses the port with LINK_ERRORS (R266). -/
def State.resendFar (s : State) (p : Nat) (bs : List TxBolt) : State :=
  if bs.any fun b => decide (8 ≤ b.sends) then (s.note 0x1308 (portFaultAt s p)).losePort p
  else bs.foldl (fun s b => s.resend p b) s

end Sys2Proof.Machine
end

