-- ==== Sys2Proof/Machine/Ports.lean ====
section
/-! DEFINITION. Ports: bring-up (R261 to R264), laser inputs (R251), received bolts (R254 to R257, R265 to R267), control
blocks (R258, R259, R263, R268), naps and liveness (R281, R282). -/
namespace Sys2Proof.Machine

/-! ### Bring-up (R261 to R264) -/

/-- This module's HELLO on a port (R258, R262): a B0 module names B0 twice. -/
def ownHello (s : State) (p : Nat) : Hello :=
  { moduleId := BitVec.ofNat 16 s.moduleId, port := BitVec.ofNat 5 p, profile := BitVec.ofNat 2 (s.val (portKey p 2))
    encrypt := s.encrypts, rankTx := BitVec.ofNat 16 (s.val (portKey p 5))
    rankExpected := BitVec.ofNat 16 (s.val (portKey p 6)), stepping := 0xB0B0 }

/-- Whether a stepping code links with this one (R262). -/
def steppingOk (code : BitVec 16) : Bool := decide (0xB0 ≤ code.toNat / 256) && decide (code.toNat % 256 ≤ 0xB0)

/-- Whether two profile requests conflict (R262): one NEAR, the other FAR. -/
def profilesConflict (a b : Nat) : Bool := (a == 1 && b == 2) || (a == 2 && b == 1)

/-- Ports Far or bringing up as Far (R264). -/
def State.farPorts (s : State) : Nat := ((List.range 32).filter fun p => s.portProfile p == 2).length

/-- Nanoseconds of a number of band cycles, rounded up: 0.625 ns each (R10). -/
def nsOfCycles (c : Nat) : Nat := ceilDiv (c * 5) 8

/-- Step 6 completes (R263): RTT, RTT_SPREAD and PEER_PPM fixed; out of bounds, PORT_RTT. PEER_PPM is a free value. -/
def measurePort (s : State) (p : Nat) : State :=
  let rs := (s.link p).results
  let hi := rs.foldl max 0
  let lo := rs.foldl min hi
  let spread := nsOfCycles (hi - lo)
  let f := s.free 32
  let ppm := (BitVec.ofNat 32 f.1).toInt
  let s := (f.2.setVal (portKey p 9) (4 * ceilDiv (hi * 5) 32)).setVal (portKey p 0x0A) spread
  let s := s.setVal (portKey p 0x0C) f.1
  if s.val (portKey p 0x0E) < spread || ppm < -10000 || 10000 < ppm then (s.failStep p).note 0x1306 (portFaultAt s p)
  else s.setLink p { s.link p with step := 7 }

/-- The profile that R264 chooses: 1 Near, 2 Far, none refused. -/
def chooseProfile (request rtt far : Nat) : Option Nat :=
  if 2000000 < rtt then none
  else if request = 1 && 16000 < rtt then none
  else if request ≤ 1 && rtt ≤ 16000 then some 1
  else if far < 16 then some 2
  else none

/-- The request of both ends (R264). -/
def jointRequest (a b : Nat) : Nat := if a = 1 || b = 1 then 1 else if a = 2 || b = 2 then 2 else 0

/-- Step 7 (R264): the profile, with the replay region of a Far port; step 8 follows. A Far port waits while its old replay
region is being scrubbed (R198). -/
def profilePort (s : State) (p : Nat) : State :=
  let peer := match (s.link p).hello with | some h => h.profile.toNat | none => 0
  let refuse := (s.failStep p).note 0x1305 (portFaultAt s p)
  match chooseProfile (jointRequest (s.val (portKey p 2)) peer) (s.portRtt p) s.farPorts with
  | none => refuse
  | some 1 => (((s.removeReplay p).setVal (portKey p 4) 1)).startKeying p
  | some _ =>
    match s.replayRegion p with
    | some r => if r.state = .scrubbing then s else (s.setVal (portKey p 4) 2).startKeying p
    | none =>
      match s.createReplay p with
      | some s => (s.setVal (portKey p 4) 2).startKeying p
      | none => refuse

/-- ACTIVE schedules with a hop on a port whose RTT has grown since admission read BROKEN, with a note (R295). -/
def breakSchedules (s : State) (p : Nat) : State :=
  s.schedules.foldl (fun s x =>
    if x.state = 3 && x.portRtts.any fun e => e.1 == p && decide (e.2 < s.portRtt p) then
      { s with schedules := s.schedules.map fun (o : Schedule) => if o.row = x.row then { o with state := 4 } else o }.note 0x1404
        { portFaultAt s p with sourceId := some x.id }
    else s) s

/-- Step 9 (R261): CREDIT blocks with initial windows and the first NAP, UP. -/
def portGoesUp (s : State) (p : Nat) : State :=
  let w := fun first n => creditBlocks first ((List.range n).map fun i => s.window p (first + i))
  let nap : Nap := { moduleId := BitVec.ofNat 16 s.moduleId, port := BitVec.ofNat 5 p, state := 0, seq := 0
                     profile := BitVec.ofNat 2 (s.portProfile p) }
  let s := breakSchedules (s.setPortState p 6) p
  let s := s.setLink p { s.link p with step := 0, failures := 0, napTx := 1 }
  s.sendBlocks p [w 0 7, w 7 7, w 14 2, napBlock nap]

/-- PORT_BRINGUP_ADVANCE: the step in progress completes (R261); step 4 with 4,096 bolts in a row and none in error. -/
def execPortBringupAdvance (p : PortId) (s : State) : Host.Outcome State Fault Refusal :=
  let n := p.val
  let l := s.link n
  let st := s.portState n
  if st < 2 || 5 < st || s.domain (domQuad (n / 8)) != 1 || !s.laserOk (n / 8) || s.doffStep != 0 then .next s
  else
    match l.step with
    | 1 => .next (s.setLink n { l with step := 2 })
    | 2 => .next (s.setLink n { l with step := 3 })
    | 3 => .next (s.setLink n { l with step := 4 })
    | 4 =>
      if l.goodBolts < 4096 then .next s
      else
        let s := (s.setPortState n 3).setLink n { l with step := 5 }
        .next (s.sendBlocks n [helloBlock (ownHello s n)])
    | 5 => if l.hello.isSome then .next ((s.setPortState n 4).setLink n { l with step := 6 }) else .next s
    | 6 => if 64 ≤ l.results.length then .next (measurePort s n) else .next s
    | 7 => .next (profilePort s n)
    | 9 => .next (portGoesUp s n)
    | _ => .next s

/-- PORT_TRAIN_TIMEOUT: a bound of R261 is missed. -/
def execPortTrainTimeout (p : PortId) (s : State) : Host.Outcome State Fault Refusal :=
  let n := p.val
  let st := s.portState n
  if st < 2 || 5 < st || s.doffStep != 0 then .next s
  else
    let failures := (s.link n).failures + 1
    let s := s.note 0x1303 (portFaultAt s n)
    if s.val (portKey n 0x0F) ≤ failures then .next (((s.clearSession n 0 0).setPortState n 9).removeReplay n)
    else .next (s.train n 2 failures)

/-- PORT_RETRAIN: a LOST port that is enabled trains again (R261, R282). -/
def execPortRetrain (p : PortId) (s : State) : Host.Outcome State Fault Refusal :=
  if s.portState p.val = 8 && s.val (portKey p.val 1) = 1 && s.doffStep = 0 then .next (s.train p.val 1 0) else .next s

/-- LASER_MEASURE: LASER_POWER, its notes, and the quad's UP ports when a wavelength is out of range (R251). -/
def execLaserMeasure (q : QuadId) (l0 l1 l2 l3 : BitVec 16) (s : State) : Host.Outcome State Fault Refusal :=
  if s.domain (domQuad q.val) != 1 || s.doffStep != 0 then .next s
  else
    let ls := [l0, l1, l2, l3]
    let s := (List.range 4).foldl (fun s i => s.setVal ⟨0x3000, 0x11, 4 * q.val + i⟩ (ls.getD i 0).toNat) s
    let s := (List.range 4).foldl (fun s i =>
      let x := s.laser q.val i
      let a : FaultAt := { domain := 3, clock := clkBand, locKind := 4, location := 8 * q.val + 32 * i, detail := (ls.getD i 0).toNat }
      if x < 1500 then s.note 0x1301 a else if 2100 < x then s.note 0x1302 a else s) s
    if s.laserOk q.val then .next s
    else .next ((List.range 8).foldl (fun s i => if s.portUp (8 * q.val + i) then s.losePort (8 * q.val + i) else s) s)

/-! ### The packet stream of received bolts (R253, R266, R267) -/

/-- Bytes held in segments. -/
def segBytes (xs : List Seg) : Nat := (xs.map fun x => x.bytes.length).foldl (· + ·) 0

/-- The first `n` bytes of segments, the earliest gap that covers them, and the rest. -/
def takeSegs : Nat → List Seg → List Byte × Option Nat × List Seg
  | _, [] => ([], none, [])
  | n, x :: xs =>
    if n = 0 then ([], none, x :: xs)
    else if n < x.bytes.length then (x.bytes.take n, x.gap, { x with bytes := x.bytes.drop n } :: xs)
    else
      let r := takeSegs (n - x.bytes.length) xs
      (x.bytes ++ r.1, (match x.gap, r.2.1 with | some a, some b => some (min a b) | some a, none => some a | none, b => b), r.2.2)

/-- Whole packets at the front of segments, each with its gap, and the rest; `fuel` bounds them. -/
def parsePackets : Nat → List Seg → List (Pkt × Option Nat) × List Seg
  | 0, xs => ([], xs)
  | n + 1, xs =>
    if segBytes xs < 64 then ([], xs)
    else
      let h := hdrOfBytes (takeSegs 64 xs).1
      let len := getf h 298 13
      if segBytes xs < 64 + len then ([], xs)
      else
        let t := takeSegs (64 + len) xs
        let r := parsePackets n t.2.2
        ((pktOf h (t.1.drop 64), t.2.1) :: r.1, r.2)

/-- A run without the packets that are whole in it. -/
def parseRun (r : RxRun) : List (Pkt × Option Nat) × RxRun :=
  if !r.synced || r.tailLost then ([], r)
  else
    let x := parsePackets (segBytes r.tail / 64 + 1) r.tail
    (x.1, { r with tail := x.2 })

/-- Two neighbouring runs joined: packets that the joint completes, and whether one overran its boundary (R271). -/
def joinRuns (a b : RxRun) : List (Pkt × Option Nat) × Bool × RxRun :=
  if !a.synced then
    let lost := a.headLost || b.headLost
    ([], false, { first := a.first, next := b.next, synced := b.synced, head := if lost then [] else a.head ++ b.head
                  headLost := lost, tail := b.tail, tailLost := b.tailLost })
  else if a.tailLost || b.headLost then
    ([], false, { a with next := b.next, tail := if b.synced then b.tail else [], tailLost := if b.synced then b.tailLost else true })
  else
    let x := parsePackets ((segBytes a.tail + segBytes b.head) / 64 + 1) (a.tail ++ b.head)
    if b.synced then (x.1, !x.2.isEmpty && segBytes x.2 != 0, { a with next := b.next, tail := b.tail, tailLost := b.tailLost })
    else (x.1, false, { a with next := b.next, tail := x.2 })

/-- A list of runs with neighbours joined; `fuel` bounds the joints. -/
def joinAll : Nat → List RxRun → List (Pkt × Option Nat) × Nat × List RxRun
  | n + 1, a :: b :: rest =>
    if a.next = b.first then
      let x := joinRuns a b
      let r := joinAll n (x.2.2 :: rest)
      (x.1 ++ r.1, (if x.2.1 then 1 else 0) + r.2.1, r.2.2)
    else
      let r := joinAll n (b :: rest)
      (r.1, r.2.1, a :: r.2.2)
  | _, rs => ([], 0, rs)

/-- A run put among runs in the order of counts. -/
def insertRun (x : RxRun) : List RxRun → List RxRun
  | [] => [x]
  | r :: rs => if x.first < r.first then x :: r :: rs else r :: insertRun x rs

/-- The runs of a port: before the first bolt, an empty one at a packet boundary. -/
def Link.rxRuns (l : Link) : List RxRun := if l.runs.isEmpty then [{ first := 0, next := 0, synced := true }] else l.runs

/-- The run of one bolt: a CONTROL bolt has no stream bytes; a DATA bolt's boundary is `BOLT.FIRST` (R252, R253). -/
def boltRun (count kind first : Nat) (gap : Option Nat) (body : List Byte) : RxRun :=
  let seg := fun (bs : List Byte) => if bs.isEmpty then [] else [{ gap := gap, bytes := bs : Seg }]
  if kind != 0 then { first := count, next := count + 1, synced := false }
  else if first < 484 then
    { first := count, next := count + 1, synced := true, head := seg (body.take first), tail := seg (body.drop first) }
  else { first := count, next := count + 1, synced := false, head := seg body }

/-- A run of bolts taken into a port's stream: whole packets go to the switch, an overrun one is malformed (R266, R271). -/
def State.takeRun (s : State) (p : Nat) (x : RxRun) : State :=
  let l := s.link p
  let y := parseRun x
  let rs := insertRun y.2 l.rxRuns
  let r := joinAll (rs.length + 1) rs
  let now := s.bandNow
  let arrived := (r.1 ++ y.1).map fun e =>
    ({ port := some p, pkt := e.1, gap := (match e.2 with | some t => now - t | none => 0), since := now } : Arrived)
  let next := match r.2.2 with | z :: _ => z.next | [] => 0
  let s := s.setLink p { l with runs := r.2.2, rxNext := next }
  let s := if r.2.1 = 0 then s else s.bump (fabricKey 0x0E) r.2.1
  { s with arrived := s.arrived ++ arrived }

/-! ### Received bolts (R254 to R256, R265, R266) -/

/-- What a bolt shows: kind, whether encrypted, key phase, SEQ, ACK, FIRST. -/
structure BoltHead where
  kind : Nat
  enc : Bool
  phase : Nat
  seq : Nat
  ack : Nat
  first : Nat
  deriving DecidableEq, Repr

/-- The header fields of a bolt's bytes (R252). -/
def boltHead (bs : List Byte) : BoltHead :=
  let h := BitVec.ofNat 64 (leAt bs 0 8)
  { kind := getf h 60 4, enc := bitf h 59, phase := getf h 57 2, seq := getf h 36 20, ack := getf h 16 20, first := getf h 0 9 }

/-- Whether FEC, link CRC and the reserved header fields of a bolt are good (R254). -/
def boltSound (b : Bolt) : Bool :=
  let h := BitVec.ofNat 64 (leAt b.bytes 0 8)
  b.fecOk && b.bytes.length == 512 && leAt b.bytes 508 4 == crc32c (b.bytes.take 508) && getf h 60 4 ≤ 3 &&
    getf h 56 1 == 0 && getf h 9 7 == 0

/-- The transmit count of a bolt from its 20 bits, near a known count. -/
def countNear (base seq : Nat) : Nat :=
  let d := (seq + 2 ^ 20 - base % 2 ^ 20) % 2 ^ 20
  if d < 2 ^ 19 then base + d else base + d - 2 ^ 20

/-- The 32-byte block `i` of a CONTROL body. -/
def blockAt (body : List Byte) (i : Nat) : Nat := leAt body (32 * i) 32
/-- The type of block `i`. -/
def blockType (body : List Byte) (i : Nat) : Nat := blockAt body i / 2 ^ 248

/-- Whether the reserved fields and values of a control block are as they must be (R254, R258, R259, R262, R458). -/
def blockSound (b : Nat) : Bool :=
  let x := BitVec.ofNat 256 b
  match getf x 248 8 with
  | 1 => getf x 0 206 == 0 && decide (getf x 224 3 ≤ 2)
  | 6 => getf x 0 176 == 0
  | 7 => getf x 192 32 == 0 && decide (1 ≤ getf x 244 4) && decide (getf x 244 4 ≤ 5)
  | _ => true

/-- Whether no reserved field of a CONTROL body is used (R254, R258). -/
def controlSound (body : List Byte) : Bool :=
  leAt body 480 4 == 0 && (List.range 15).all fun i => blockSound (blockAt body i)

/-- What becomes of a sequenced bolt's body (R254 to R256): in error, with a failed tag or not; or its plaintext with the
key phase in full. -/
inductive Opened where
  | bad | badTag
  | plain (body : List Byte) (phase : Option Nat)
  deriving DecidableEq, Repr

/-- The key phases in which a bolt of 2 phase bits may travel: the current one, the next, the previous while accepted. -/
def phaseOf (k : Keys) (bits : Nat) : Option Nat :=
  if k.rxPhase % 4 = bits then some k.rxPhase
  else if (k.rxPhase + 1) % 4 = bits && (k.of (k.rxPhase + 1)).isSome then some (k.rxPhase + 1)
  else if k.rxPrevious && k.rxPhase != 0 && (k.rxPhase - 1) % 4 = bits then some (k.rxPhase - 1)
  else none

/-- A sequenced bolt opened. -/
def openBolt (s : State) (p : Nat) (h : BoltHead) (bs : List Byte) : Opened :=
  let l := s.link p
  let k := l.keys
  let body := sliceBytes bs 8 484
  if k.established then
    if !h.enc then .bad
    else
      match phaseOf k h.phase with
      | none => .badTag
      | some f =>
        let d := directionKey ((k.of f).getD []) (!s.isLo p)
        let base := match l.runs.getLast? with | some r => r.next | none => l.rxNext
        let m := if (k.of f).isNone then none
          else Config.gcmOpen d.1 (boltNonce d.2 (countNear base h.seq)) (bs.take 8) body (sliceBytes bs 492 16)
        match m with
        | none => .badTag
        | some m => if h.kind = 1 && !controlSound m then .bad else .plain m (some f)
  else if h.enc || (h.kind = 1 && !controlSound body) then .bad
  else if plainLink s p then .plain body none
  else if h.kind = 1 && (List.range 15).all fun i => [0, 5, 6, 7].contains (blockType body i) || decide (8 < blockType body i) then
    .plain body none
  else .bad

/-- The missing bolts as ranges of a SACK, at most six of at most 4,096 bolts (R258). -/
def sackRanges : List Nat → List (Nat × Nat)
  | [] => []
  | c :: cs =>
    match sackRanges cs with
    | (f, n) :: rest => if f = c + 1 && n < 4096 then (c, n + 1) :: rest else (c, 1) :: (f, n) :: rest
    | [] => [(c, 1)]

/-- A SACK sent while a gap remains (R266). -/
def State.sendSack (s : State) (p : Nat) : State :=
  let l := s.link p
  if l.gaps.isEmpty then s else s.sendRecovery p (sackBlock l.rxNext (sackRanges (l.gaps.map (·.1))))

/-- The first bolt not sent yet as far as a Far receiver knows. -/
def Link.frontier (l : Link) : Nat :=
  max (match l.rxRuns.getLast? with | some r => r.next | none => 0) (match l.gaps.getLast? with | some g => g.1 + 1 | none => 0)

/-- Bolts from the frontier up to a count missing from now on. -/
def State.openGap (s : State) (p upTo : Nat) : State :=
  let l := s.link p
  let f := l.frontier
  s.setLink p { l with gaps := l.gaps ++ (List.range (upTo - f)).map fun i => (f + i, s.bandNow) }

/-- A Near NAK, once until the expected bolt arrives; sixteen within 100 µs lose the port (R265); none before the session
(R256). -/
def State.nak (s : State) (p count : Nat) : State :=
  let l := s.link p
  let now := s.bandNow
  let cover := match l.nakSince with | some (t, n) => some (t, max n (count + 1)) | none => some (now, max (l.rxNext + 1) (count + 1))
  if l.naking || !s.framed p then s.setLink p { l with nakSince := cover }
  else
    let naks := l.naks.filter (fun t => now < t + 160000) ++ [now]
    let s := s.setLink p { l with naking := true, nakSince := cover, naks := naks }
    if 16 ≤ naks.length then (s.note 0x1308 (portFaultAt s p)).losePort p
    else s.sendRecovery p (nakBlock l.rxNext)

/-- A bolt in error (R254, R265, R266): counted; sequenced ones set off the profile's recovery. -/
def State.boltError (s : State) (p : Nat) (h : BoltHead) : State :=
  let s := s.bump (portKey p 0x14) 1
  let l := s.link p
  if h.kind = 2 || h.kind = 3 || !s.portTalks p then s
  else if s.portProfile p = 2 then
    if countNear l.frontier h.seq = l.frontier then (s.openGap p (l.frontier + 1)).sendSack p else s
  else s.nak p l.rxNext

/-- A tag that fails (R254, R256): more than 64 in a window lose the port. -/
def State.tagError (s : State) (p : Nat) (h : BoltHead) : State :=
  let s := (s.bump (portKey p 0x15) 1).setLink p { s.link p with tagFails := (s.link p).tagFails + 1 }
  if 64 < (s.link p).tagFails then
    ((s.bump (portKey p 0x14) 1).note 0x1309 (portFaultAt s p)).losePort p
  else s.boltError p h

/-- The first bolt of a new phase moves the receive direction to it (R256, R461). -/
def State.rxPhaseTo (s : State) (p : Nat) (f : Option Nat) : State :=
  let l := s.link p
  match f with
  | some f => if f = l.keys.rxPhase + 1 then (s.setKeys p { l.keys with rxPhase := f, rxPrevious := true }).startRekey p else s
  | none => s

/-- Control blocks of reserved types are ignored and counted (R258). -/
def State.countReserved (s : State) (p : Nat) (body : List Byte) : State :=
  let n := ((List.range 15).filter fun i => decide (8 < blockType body i)).length
  if n = 0 then s else s.bump (portKey p 0x14) n

/-- The KEY blocks of a bolt wait until the stream reaches it (R266). -/
def State.holdKeys (s : State) (p count : Nat) (body : List Byte) : State :=
  let bs := (List.range 15).filterMap fun i => if blockType body i = 7 then some (blockAt body i) else none
  let k := (s.link p).keys
  if bs.isEmpty then s
  else
    let early := k.behind.filter fun e => decide (e.1 < count)
    s.setKeys p { k with behind := early ++ [(count, bs)] ++ k.behind.filter fun e => decide (count < e.1) }

/-- A sequenced bolt accepted into the stream (R253, R285); its KEY blocks are taken in `BOLT.SEQ` order (R266). -/
def State.acceptBolt (s : State) (p count : Nat) (h : BoltHead) (gap : Option Nat) (body : List Byte) (f : Option Nat) : State :=
  let s := (s.rxPhaseTo p f).bump (portKey p 0x12) 1
  let s := if h.kind = 1 then (s.countReserved p body).holdKeys p count body else s
  (s.takeRun p (boltRun count h.kind h.first gap body)).takeKeys p

/-- A sequenced bolt of a Near port (R265). -/
def State.nearBolt (s : State) (p : Nat) (h : BoltHead) (body : List Byte) (f : Option Nat) : State :=
  let l := s.link p
  if h.seq != l.rxNext % 2 ^ 20 then s.nak p (countNear l.rxNext h.seq)
  else
    let gap := match l.nakSince with | some (t, n) => if l.rxNext < n then some t else none | none => none
    let since := match l.nakSince with | some (_, n) => if l.rxNext + 1 < n then l.nakSince else none | none => none
    (s.setLink p { l with naking := false, nakSince := since }).acceptBolt p l.rxNext h gap body f

/-- Bytes that a Far receiver holds (R266). -/
def heldBytes (l : Link) : Nat := (l.runs.map fun r => segBytes r.head + segBytes r.tail).foldl (· + ·) 0

/-- A sequenced bolt of a Far port (R266, R267). -/
def State.farBolt (s : State) (p : Nat) (h : BoltHead) (body : List Byte) (f : Option Nat) : State :=
  let l := s.link p
  let c := countNear l.frontier h.seq
  let missing := l.gaps.find? (·.1 == c)
  if c < l.frontier && missing.isNone then s
  else if 0x200000 < heldBytes l + 484 then
    let s := s.bump (portKey p 0x17) 1
    if missing.isSome then s else (s.openGap p (c + 1)).sendSack p
  else
    match missing with
    | some g => (s.setLink p { l with gaps := l.gaps.filter (·.1 != c) }).acceptBolt p c h (some g.2) body f
    | none =>
      let opened := decide (l.frontier < c)
      let s := (s.openGap p c).acceptBolt p c h none body f
      if opened then s.sendSack p else s

/-- A WITHDRAWN bolt (R257): accepted from step 2 of bring-up on when it names PEER_MODULE. -/
def State.withdrawnBolt (s : State) (p : Nat) (b : Bolt) : State :=
  if boltSound b && (boltHead b.bytes).kind == 3 && decide (2 ≤ s.portState p) && decide (s.portState p ≤ 7) &&
      leAt b.bytes 8 2 == s.peerModule p then s.losePort p
  else s

/-- Whether the fields that an IDLE bolt leaves zero are zero (R253, R254). -/
def idleSound (bs : List Byte) : Bool := !(boltHead bs).enc && (sliceBytes bs 8 500).all (· == 0)

/-- A bolt of step 4 counted: 4,096 in a row with none in error complete the step (R261). -/
def State.countTraining (s : State) (p : Nat) (b : Bolt) : State :=
  let l := s.link p
  s.setLink p { l with goodBolts := if boltSound b then l.goodBolts + 1 else 0 }

/-- A received bolt (R254 to R257, R265, R266); a doffed module takes none (R432). -/
def receiveBolt (s : State) (p : Nat) (b : Bolt) : State :=
  let h := boltHead b.bytes
  let training := s.portState p == 2 && (s.link p).step == 4
  if s.doffStep != 0 || (!training && !s.portTalks p && h.kind != 3) then s
  else
    let s := if b.corrected = 0 then s else s.bump (portKey p 0x13) b.corrected
    let s := if training then s.countTraining p b else s
    if !boltSound b then s.boltError p h
    else if h.kind = 3 then s.withdrawnBolt p b
    else if !s.portTalks p then s
    else if h.kind = 2 then if idleSound b.bytes then (s.acknowledge p h.ack).pump p else s.boltError p h
    else
      match openBolt s p h b.bytes with
      | .bad => s.boltError p h
      | .badTag => s.tagError p h
      | .plain body f =>
        let s := s.acknowledge p h.ack
        let s := if s.portProfile p = 2 then s.farBolt p h body f else s.nearBolt p h body f
        s.pumpAfter p

/-- BOLT_RECEIVE. Control blocks act through their own commands. -/
def execBoltReceive (p : PortId) (b : Bolt) (s : State) : Host.Outcome State Fault Refusal :=
  .next (receiveBolt s p.val b)

/-- WITHDRAWN_BOLT_RECEIVE (R257). -/
def execWithdrawnBoltReceive (p : PortId) (b : Bolt) (s : State) : Host.Outcome State Fault Refusal :=
  .next (if s.doffStep = 0 then s.withdrawnBolt p.val b else s)

/-! ### Control blocks (R258, R259, R262 to R268) -/

/-- NAP_RECEIVE: liveness, NAPS_MISSED, what the peer announces, its identity (R259, R281, R283). A NAP that a later one has
overtaken, in a bolt sent again on a Far link (R266), leaves no gap behind; a reserved `NAP.STATE` puts the bolt in error
(R254). -/
def execNapReceive (p : PortId) (nap : Nap) (s : State) : Host.Outcome State Fault Refusal :=
  let n := p.val
  if !s.portCarries n || 2 < nap.state.toNat then .next s
  else
    let l := s.link n
    let ahead := match l.napRx with | some q => (nap.seq.toNat + 2 ^ 17 - q - 1) % 2 ^ 16 | none => 0
    let late := decide (2 ^ 15 ≤ ahead)
    let s := if ahead = 0 || late then s else s.bump (portKey n 0x18) ahead
    let s := s.setLink n { l with napRx := if late then l.napRx else some nap.seq.toNat
                                  peerDraining := l.peerDraining || nap.state == 1
                                  peerClosing := l.peerClosing || nap.state == 2 }
    if nap.moduleId.toNat = s.peerModule n then .next s
    else if (List.range 4).any s.stepRunning then .next (s.losePort n)
    else .next ((s.setVal (portKey n 7) nap.moduleId.toNat).note 0x130D { portFaultAt s n with peer := nap.moduleId.toNat })

/-- CREDIT_RECEIVE: cumulative units freed by the peer, modulo 2^32 (R258, R268). A total above the units sent on a channel
is no freed total but an initial window (R261). -/
def execCreditReceive (p : PortId) (first : BitVec 4) (units : List Word) (s : State) : Host.Outcome State Fault Refusal :=
  let n := p.val
  if !s.portCarries n then .next s
  else
    .next ((List.range units.length).foldl (fun s i =>
      let vc := first.toNat + i
      let l := s.link n
      let old := mapGet 0 l.credited vc
      let v := old + ((units.getD i 0).toNat + 2 ^ 32 - old % 2 ^ 32) % 2 ^ 32
      if vc < 16 && decide (v ≤ mapGet 0 l.sentUnits vc) then s.setLink n { l with credited := mapSet 0 l.credited vc v } else s) s)

/-- NAK_RECEIVE: a Near sender resends from the named bolt onwards (R265). -/
def execNakReceive (p : PortId) (seq : BitVec 20) (s : State) : Host.Outcome State Fault Refusal :=
  let n := p.val
  if !s.portTalks n || s.portProfile n = 2 then .next s
  else
    let s := s.acknowledge n seq.toNat
    let bs := (s.link n).unacked
    .next ((bs.foldl (fun s b => s.resend n b) s).pump n)

/-- Whether a transmit count lies in a range of a SACK. -/
def inSack (r : SackRange) (count : Nat) : Bool :=
  decide ((count % 2 ^ 20 + 2 ^ 20 - r.first.toNat) % 2 ^ 20 ≤ r.runM1.toNat)

/-- SACK_RECEIVE: a Far sender resends each missing bolt (R266). -/
def execSackReceive (p : PortId) (cum : BitVec 20) (ranges : List SackRange) (s : State) : Host.Outcome State Fault Refusal :=
  let n := p.val
  if !s.portTalks n || s.portProfile n != 2 then .next s
  else
    let s := s.acknowledge n cum.toNat
    let bs := (s.link n).unacked.filter fun b => ranges.any fun r => inSack r b.count
    .next ((s.resendFar n bs).pump n)

/-- PROBE_RECEIVE: an echo for a probe (hold 0), and the result of an echoed one (R263). -/
def execProbeReceive (p : PortId) (pr : Probe) (s : State) : Host.Outcome State Fault Refusal :=
  let n := p.val
  if !s.portTalks n then .next s
  else
    let s := if pr.ts = 0 then s else
      s.sendBlocks n [probeBlock { id := 0, ts := 0, echoTs := pr.ts, echoHold := (s.clock clkBand).setWidth 32, echoId := pr.id }]
    if pr.echoTs = 0 then .next s
    else
      let r := (s.clock clkBand - pr.echoTs - pr.echoHold.setWidth 64).toNat
      let l := s.link n
      if s.portState n = 4 then
        .next (if l.results.length < 64 then s.setLink n { l with results := l.results ++ [r] } else s)
      else if s.portUp n then
        let ns := nsOfCycles r
        let s := s.setVal (portKey n 0x0B) ns
        .next (if s.portRtt n + 1000 < ns then s.note 0x1307 { portFaultAt s n with detail := ns } else s)
      else .next s

/-- HELLO_RECEIVE: the checks of R262 in step 5. -/
def execHelloReceive (p : PortId) (h : Hello) (s : State) : Host.Outcome State Fault Refusal :=
  let n := p.val
  let l := s.link n
  if s.portState n != 3 || l.step != 5 || s.doffStep != 0 then .next s
  else
    let s := (s.setVal (portKey n 7) h.moduleId.toNat).setVal (portKey n 8) h.port.toNat
    let a := portFaultAt s n
    if h.moduleId.toNat = s.moduleId then .next (s.failStep n)
    else if h.rankTx.toNat != s.val (portKey n 6) || h.rankExpected.toNat != s.val (portKey n 5) then
      .next ((s.failStep n).note 0x1304 a)
    else if !steppingOk h.stepping || h.encrypt != s.encrypts then .next (s.failStep n)
    else if profilesConflict (s.val (portKey n 2)) h.profile.toNat then .next ((s.failStep n).note 0x1305 a)
    else .next (s.setLink n { l with hello := some h })

/-- GAP_RECEIVE: a gap that can never be filled is closed; packets with bytes in it are discarded (R267). -/
def execGapReceive (p : PortId) (seq : BitVec 20) (s : State) : Host.Outcome State Fault Refusal :=
  let n := p.val
  let l := s.link n
  let c := countNear l.frontier seq.toNat
  if !s.portTalks n || s.portProfile n != 2 || (c < l.frontier && !(l.gaps.any (·.1 == c))) then .next s
  else
    let s := if c < l.frontier then s else s.openGap n (c + 1)
    let s := s.setLink n { s.link n with gaps := (s.link n).gaps.filter (·.1 != c) }
    .next ((s.takeRun n { first := c, next := c + 1, synced := false, headLost := true }).takeKeys n)

/-! ### Naps, probes, timers (R263, R266, R281, R283) -/

/-- NAP_SEND: UP, DRAINING, or CLOSING for 16 nap periods (R281, R283); a doffed module sends none. -/
def execNapSend (p : PortId) (s : State) : Host.Outcome State Fault Refusal :=
  let n := p.val
  let l := s.link n
  if !s.portCarries n || l.closingNaps = 1 then .next s
  else
    let st := if s.portUp n then 0 else if l.closingNaps = 0 then 1 else 2
    let nap : Nap := { moduleId := BitVec.ofNat 16 s.moduleId, port := BitVec.ofNat 5 n, state := BitVec.ofNat 3 st
                       seq := BitVec.ofNat 16 l.napTx, profile := BitVec.ofNat 2 (s.portProfile n) }
    let s := s.setLink n { l with napTx := (l.napTx + 1) % 2 ^ 16, closingNaps := l.closingNaps - 1 }
    .next (s.sendBlocks n [napBlock nap])

/-- PROBE_SEND: a probe in step 6 and while UP; `PROBE.TS` is written as the bolt leaves (R263). -/
def execProbeSend (p : PortId) (s : State) : Host.Outcome State Fault Refusal :=
  let n := p.val
  let l := s.link n
  if (s.portState n != 4 && !s.portUp n) || s.doffStep != 0 then .next s
  else
    let pr : Probe := { id := BitVec.ofNat 8 l.probeId, ts := 1, echoTs := 0, echoHold := 0, echoId := 0 }
    let s := s.setLink n { l with probeId := (l.probeId + 1) % 256 }
    .next (s.sendBlocks n [probeBlock pr])

/-- NAP_TIMEOUT: the peer is lost (R281), or has closed in order (R283). -/
def execNapTimeout (p : PortId) (s : State) : Host.Outcome State Fault Refusal :=
  let n := p.val
  if !s.portUp n then .next s
  else if (s.link n).peerClosing then
    let s := s.note 0x130C (portFaultAt s n)
    .next (((s.dropQueue n).loseUses n).train n 1 0)
  else .next (s.losePort n)

/-- RETRANSMIT_TIMEOUT: a Far bolt not acknowledged within RTT + 50 µs (R266). -/
def execRetransmitTimeout (p : PortId) (seq : BitVec 20) (s : State) : Host.Outcome State Fault Refusal :=
  let n := p.val
  if !s.portTalks n || s.portProfile n != 2 then .next s
  else .next (s.resendFar n ((s.link n).unacked.filter fun b => b.count % 2 ^ 20 == seq.toNat))

/-- SACK_RESEND: every 10 µs while a gap remains (R266). -/
def execSackResend (p : PortId) (s : State) : Host.Outcome State Fault Refusal :=
  if s.portTalks p.val && s.portProfile p.val = 2 then .next (s.sendSack p.val) else .next s

end Sys2Proof.Machine
end

