-- ==== Sys2Proof/Machine/Schedules.lean ====
section
/-! DEFINITION. Schedule images and their admission (R289 to R296, R487), and route images (R275 to R280). -/
namespace Sys2Proof.Machine

/-! ### Reading images -/

/-- Whether a span lies in one HBM region, of any job stream, that has `REG.READ` set (R278, R289). -/
def readableImage (s : State) (a n : Nat) : Bool :=
  a % 64 == 0 && (s.regions.any fun r => r.state == .active && r.tier == 2 && r.read && r.holds a n)

/-- Bytes of a schedule image from its header (R289). -/
def schBytes (h : BitVec 512) : Nat := 64 + 32 * getf h 400 16 + 8 * getf h 384 16 + 8 * getf h 368 16

/-- A transfer entry without its hops (R290). -/
def xferOf (e : BitVec 256) (hops : List (Nat × Nat)) : Transfer :=
  { id := getf e 236 20, src := getf e 220 16, dst := getf e 204 16, srcJs := getf e 202 2, dstJs := getf e 200 2
    vc := getf e 196 4, exact := bitf e 195, commit := bitf e 194, tiles := getf e 177 17, budget := getf e 149 28
    base := getf e 101 48, stride := getf e 77 24, hops := hops }

/-- The hop entries of an image as (module, port). -/
def schHops (h : BitVec 512) (bs : List Byte) : List (BitVec 64) :=
  (List.range (getf h 384 16)).map fun i => BitVec.ofNat 64 (leAt bs (64 + 32 * getf h 400 16 + 8 * i) 8)

/-- The transfer entries of an image. -/
def schXfers (h : BitVec 512) (bs : List Byte) : List (BitVec 256) :=
  (List.range (getf h 400 16)).map fun i => BitVec.ofNat 256 (leAt bs (64 + 32 * i) 32)

/-- The reservation entries of an image. -/
def schRes (h : BitVec 512) (bs : List Byte) : List (BitVec 64) :=
  (List.range (getf h 368 16)).map fun i =>
    BitVec.ofNat 64 (leAt bs (64 + 32 * getf h 400 16 + 8 * getf h 384 16 + 8 * i) 8)

/-- A schedule with the contents of its image. -/
def readSchedule (x : Schedule) (h : BitVec 512) (bs : List Byte) : Schedule :=
  let hops := schHops h bs
  { x with
    id := getf h 448 32, routeEpoch := getf h 416 32
    transfers := (schXfers h bs).map fun e =>
      xferOf e (((hops.drop (getf e 61 16)).take (getf e 55 6 + 1)).map fun w => (getf w 48 16, getf w 43 5))
    res := (schRes h bs).map fun w =>
      { module := getf w 48 16, port := getf w 43 5, vc := getf w 39 4, units := getf w 31 8 } }

/-- Whether a reservation stands in an earlier place for the same module, port and channel. -/
def resRepeats : List Reservation → Bool
  | [] => false
  | r :: rs => (rs.any fun x => x.module == r.module && x.port == r.port && x.vc == r.vc) || resRepeats rs

/-- The transfers' fields within their limits (R290): index of the first transfer that breaks one. -/
def badTransfer (h : BitVec 512) (bs : List Byte) : Option Nat :=
  findIdxOpt (fun e =>
    let t := xferOf e []
    getf e 0 55 != 0 || decide (t.vc < 4) || decide (13 < t.vc) || t.tiles == 0 || decide (65536 < t.tiles) ||
      t.base % 64 != 0 || t.stride % 64 != 0 || t.stride == 0 || decide (getf h 384 16 < getf e 61 16 + getf e 55 6 + 1))
    (schXfers h bs)

/-- Members of a schedule: sources, destinations and hops (R292). -/
def Schedule.members (x : Schedule) : List Nat :=
  (x.transfers.flatMap fun t => t.src :: t.dst :: t.hops.map (·.1)).foldl (fun acc m => if acc.contains m then acc else acc ++ [m]) []

/-- Sources of a schedule. -/
def Schedule.sources (x : Schedule) : List Nat :=
  (x.transfers.map (·.src)).foldl (fun acc m => if acc.contains m then acc else acc ++ [m]) []

/-! ### The local checks (R293, R294) -/

/-- The module after a hop of a transfer. -/
def nextModule (t : Transfer) (h : Nat) : Nat := match t.hops[h + 1]? with | some x => x.1 | none => t.dst

/-- Hop numbers of a transfer at this module. -/
def hopsHere (s : State) (t : Transfer) : List Nat :=
  (List.range t.hops.length).filter fun h => (t.hops.getD h (0, 0)).1 == s.moduleId

/-- The reservation of a transfer's hop. -/
def hopRes (x : Schedule) (t : Transfer) (h : Nat) : Option Reservation :=
  let m := t.hops.getD h (0, 0)
  x.res.find? fun r => r.module == m.1 && r.port == m.2 && r.vc == t.vc

/-- Row 1 of R293 for an image that lies in a region: the transfer index of the refusal. -/
def imageRefused (s : State) (x : Schedule) (h : BitVec 512) (bs : List Byte) : Option Nat :=
  let y := readSchedule x h bs
  let counts := getf h 400 16 != 0 && decide (getf h 400 16 ≤ 4096) && getf h 384 16 != 0 && getf h 368 16 != 0 &&
    decide (getf h 368 16 ≤ 4096)
  if !counts || getf h 16 352 != 0 || getf h 0 16 != 1 || !crcHeaderOk (bs.take 64) (bs.drop 64) then some 0
  else if s.schedules.any fun o => o.row != x.row && o.id == y.id then some 0
  else if (schHops h bs).any (fun w => getf w 0 43 != 0) then some 0
  else if (schRes h bs).any (fun w => getf w 0 31 != 0) || resRepeats y.res ||
      (y.res.any fun r => r.vc < 4 || 13 < r.vc || r.units == 0 || 224 < r.units) then some 0
  else
    match badTransfer h bs with
    | some i => some i
    | none =>
      match findIdxOpt (fun (t : Transfer) => (t.hops.head?.map (·.1)) != some t.src) y.transfers with
      | some i => some i
      | none => if y.members.contains s.moduleId then none else some 0

/-- Row 2: a port of a hop here that is not UP or leads elsewhere. -/
def portRefused (s : State) (t : Transfer) : Bool :=
  (hopsHere s t).any fun h =>
    let p := (t.hops.getD h (0, 0)).2
    !s.portUp p || s.peerModule p != nextModule t h

/-- The route table of an epoch: the active one or the staged one. -/
def State.tableOf (s : State) (epoch : Nat) : Option (List (Nat × Nat)) :=
  if s.val (fabricKey 5) = epoch then some s.routes
  else if s.val (fabricKey 4) % 256 = 2 && s.val (fabricKey 6) = epoch then some s.staged else none

/-- The port on which a transfer's hop `h` enters this module: none at the source. -/
def arrivalPort (s : State) (t : Transfer) (h : Nat) : Option Nat :=
  if h = 0 then none
  else
    let m := t.hops.getD (h - 1) (0, 0)
    (List.range 32).find? fun q => s.portUp q && s.peerModule q == m.1 && s.val (portKey q 8) == m.2

/-- Row 3: the route of a hop here is another one. -/
def routeRefused (s : State) (epoch : Nat) (t : Transfer) : Bool :=
  match s.tableOf epoch with
  | none => true
  | some tab =>
    (hopsHere s t).any fun h =>
      let e := routeOf (mapGet 0 tab t.dst)
      e.kind != 2 || e.port != (t.hops.getD h (0, 0)).2 ||
        (h != 0 && (match arrivalPort s t h with | some q => !e.ingress.testBit q | none => true))

/-- Reservations booked on a port by the schedules that are WAITING, ACTIVE or BROKEN (R294). -/
def bookedOn (s : State) (p : Nat) : List Reservation :=
  (s.schedules.filter fun o => decide (2 ≤ o.state)).flatMap fun o => o.res.filter fun r => r.module == s.moduleId && r.port == p

/-- Row 4 for a port: more than 224 units or 64 reservations (R294). -/
def portOverbooked (s : State) (x : Schedule) (p : Nat) : Bool :=
  let rs := bookedOn s p ++ x.res.filter fun r => r.module == s.moduleId && r.port == p
  decide (224 < (rs.map (·.units)).foldl (· + ·) 0) || decide (64 < rs.length)

/-- Row 5: the identifier belongs to another schedule of the job stream. -/
def idRefused (s : State) (x : Schedule) (t : Transfer) : Bool :=
  t.src == s.moduleId && (s.schedules.any fun o => o.row != x.row && o.transfers.any fun u =>
    u.src == s.moduleId && u.srcJs == t.srcJs && u.id == t.id)

/-- Row 6: the landing span does not lie in one region of the job stream with `REG.LAND`. -/
def landRefused (s : State) (t : Transfer) : Bool :=
  t.dst == s.moduleId && !(s.regions.any fun r => r.state == .active && decide (r.tier ≤ 2) && r.land && r.js == t.dstJs &&
    r.holds (landingSpan t).1 (landingSpan t).2)

/-- A job stream that the schedule names here does not read ENABLED (R437). -/
def streamRefused (s : State) (t : Transfer) : Bool :=
  (t.src == s.moduleId && s.val (keyJsState t.srcJs) != 1) || (t.dst == s.moduleId && s.val (keyJsState t.dstJs) != 1)

/-- Phase (0 forward, 1 backward chunk, 2 backward gradient) and step of an identifier of a ring (R340). -/
def Ring.place (x : Ring) (id : Nat) : Nat × Nat :=
  let n := x.members.length
  let o := (id + 2 ^ 20 - x.idBase) % 2 ^ 20
  if o < n - 1 then (0, o + 1) else if o < 2 * n - 2 then (1, o - (n - 2)) else (2, o - (2 * n - 3))

/-- The buffer address of a ring transfer at this member (R339, R340). -/
def Ring.landBaseOf (x : Ring) (id : Nat) : Nat :=
  let pt := x.place id
  x.landBase + pt.2 % x.buffers * x.bufferBytes + (if pt.1 = 2 then 8256 * x.chunkTiles else 0)

/-- R348, row 1: a ring transfer sourced here that is not as R340 and the member table say. -/
def ringRefused (s : State) (t : Transfer) : Bool :=
  t.src == s.moduleId &&
  match s.ringOf t.srcJs t.id with
  | none => false
  | some x =>
    let n := x.members.length
    let pt := x.place t.id
    let target := if pt.1 = 0 then (x.rank + 1) % n else (x.rank + n - 1) % n
    t.vc != 7 || !t.exact || t.tiles != (if pt.1 = 2 then x.gradTiles else x.chunkTiles) ||
      t.stride != (if pt.1 = 2 then 65600 else 8256) || x.members[target]? != some t.dst

/-- R348, row 6: a ring transfer that does not land in its buffer. -/
def ringLandRefused (s : State) (t : Transfer) : Bool :=
  t.dst == s.moduleId && (match s.ringOf t.dstJs t.id with | some x => t.base != x.landBaseOf t.id | none => false)

/-- R347 for a guaranteed ring transfer sourced here, all times in units of 1 ÷ (21 × 10^9) ns: whether B breaks its upper
bound. -/
def ringBudgetRefused (s : State) (t : Transfer) : Bool :=
  match s.ringOf t.srcJs t.id with
  | none => false
  | some x =>
    let n := x.members.length
    let pt := x.place t.id
    let cc := if pt.1 = 0 then x.compute else x.bwdCompute
    if cc = 0 || (pt.1 = 2 && pt.2 = n) then false
    else
      decide (cc * 20 * 99995 * 10000 <
        4 * t.budget * 21 * 10 ^ 9 + x.offer * 20 * 100005 * 10000 + 4 * x.skew * 21 * 10 ^ 9 + (n - 2) * cc * 20 * 99995)

/-- The first failing row of R293, with the transfer's index: rows 1 to 6. R437 refuses a job stream that is not ENABLED;
R293 has no row for it, and reason 1 is taken. -/
def localRefusal (s : State) (x : Schedule) : Option (Nat × Nat) :=
  let first := fun (reason : Nat) (p : Transfer → Bool) => (findIdxOpt p x.transfers).map fun i => (reason, i)
  (first 1 (streamRefused s)).or <|
  (first 1 (ringRefused s)).or <|
  (first 2 (portRefused s)).or <|
  (first 3 (routeRefused s x.routeEpoch)).or <|
  (first 4 fun t => t.budget != 0 && (hopsHere s t).any fun h => (hopRes x t h).isNone).or <|
  (if (List.range 32).any fun p => (x.res.any fun r => r.module == s.moduleId && r.port == p) && portOverbooked s x p then
    some (4, 0) else none).or <|
  (first 5 (idRefused s x)).or <|
  (first 6 fun t => landRefused s t || ringLandRefused s t)

/-! ### Admission (R292, R296, R487) -/

/-- A schedule's row replaced. -/
def State.setSchedule (s : State) (x : Schedule) : State :=
  { s with schedules := s.schedules.map fun o => if o.row = x.row then x else o }

/-- A schedule's row freed. -/
def State.freeSchedule (s : State) (x : Schedule) : State := { s with schedules := s.schedules.filter (·.row != x.row) }

/-- A schedule refused here (R292): bookings freed, SCHEDULE_REFUSAL recorded. -/
def State.refuseSchedule (s : State) (x : Schedule) (reason transfer : Nat) : State :=
  (s.freeSchedule x).setVal (dsKey 4) (x.id + reason * 2 ^ 32 + transfer % 2 ^ 17 * 2 ^ 40)

/-- Something sent to every other member. -/
def State.tellMembers (s : State) (x : Schedule) (msg : Nat → Sent) : State :=
  (x.members.filter (· != s.moduleId)).foldl (fun s m => s.emit (msg m)) s

/-- A refusal that the other members hear of (R292, R487). -/
def State.refuseAll (s : State) (x : Schedule) (reason transfer : Nat) : State :=
  (s.tellMembers x fun m => .nofit m x.id transfer reason).refuseSchedule x reason transfer

/-- Bytes on the wire of a transfer (R296). -/
def wireBytes (t : Transfer) : Nat :=
  let c := if t.exact then ceilDiv (ceilDiv (t.stride * 33) 32) 64 * 64 else t.stride
  t.tiles * (c + 64 * ceilDiv c 4096)

/-- W of a transfer's reservation at a hop: the wire bytes of the guaranteed transfers that use it (R290, R296); for a
ring's transfer, of the rings' transfers only this ring's of the same phase and step (R348). -/
def reservationBytes (s : State) (x : Schedule) (m : Nat × Nat) (t : Transfer) : Nat :=
  let own := s.ringOf t.srcJs t.id
  ((x.transfers.filter fun u =>
    u.budget != 0 && u.vc == t.vc && u.hops.contains m &&
      (match own, s.ringOf u.srcJs u.id with
        | some a, some b => a.number == b.number && a.place t.id == b.place u.id
        | _, _ => true)).map wireBytes).foldl (· + ·) 0

/-- D_land of a landing address in ns (R296, R310). -/
def landNs (s : State) (a : Nat) : Nat := if inPool a then s.val (dsKey 7) else s.val (dsKey 8)

/-- The terms of this module for one transfer: one record for each hop here, and one for the destination, numbered after
the last hop (R487). -/
def ownTerms (s : State) (x : Schedule) (i : Nat) (t : Transfer) : List AdmitRecord :=
  ((hopsHere s t).map fun h =>
    let m := t.hops.getD h (0, 0)
    let units := match hopRes x t h with | some r => if t.budget = 0 then 0 else r.units | none => 0
    ({ transfer := BitVec.ofNat 16 i, hop := BitVec.ofNat 8 h, profile := BitVec.ofNat 8 (s.portProfile m.2)
       wireBytes := BitVec.ofNat 64 (if t.budget = 0 then 0 else reservationBytes s x m t), units := BitVec.ofNat 8 units
       rttNs := BitVec.ofNat 32 (s.portRtt m.2), asymNs := BitVec.ofNat 32 (s.portAsym m.2), landNs := 0 } : AdmitRecord)) ++
  (if t.dst = s.moduleId then
    [{ transfer := BitVec.ofNat 16 i, hop := BitVec.ofNat 8 t.hops.length, profile := 0, wireBytes := 0, units := 0, rttNs := 0
       asymNs := 0, landNs := BitVec.ofNat 32 (landNs s t.base) }] else [])

/-- Records cut into messages of at most 127 (R487); `fuel` bounds them. -/
def chunks127 : Nat → List AdmitRecord → List (List AdmitRecord)
  | 0, _ => []
  | n + 1, rs => if rs.isEmpty then [] else rs.take 127 :: chunks127 n (rs.drop 127)

/-- Terms taken at a source: a record replaces an earlier one for the same hop. -/
def addTerms (x : Schedule) (src : Nat) (recs : List AdmitRecord) : Schedule :=
  recs.foldl (fun x r =>
    { x with terms := (x.terms.filter fun e => !(e.2.transfer == r.transfer && e.2.hop == r.hop)) ++ [(src, r)] }) x

/-- A sum of fractions. -/
def fracAdd (a b : Nat × Nat) : Nat × Nat := (a.1 * b.2 + b.1 * a.2, a.2 * b.2)
/-- The larger of two fractions. -/
def fracMax (a b : Nat × Nat) : Nat × Nat := if a.1 * b.2 < b.1 * a.2 then b else a

/-- The records of one transfer. -/
def Schedule.termsOf (x : Schedule) (i : Nat) : List AdmitRecord := (x.terms.map (·.2)).filter fun r => r.transfer.toNat == i

/-- A_x in 4 ns units from the terms (R296): exact but for the last rounding. -/
def admissionTime (s : State) (x : Schedule) (i : Nat) (t : Transfer) : Nat :=
  let rs := (x.termsOf i).filter fun r => decide (r.hop.toNat < t.hops.length)
  let land := (((x.termsOf i).filter fun r => r.hop.toNat == t.hops.length).map fun r => r.landNs.toNat).foldl (· + ·) 0
  -- W ÷ r and 4,160 ÷ r in ns: 256 ÷ (100 × units) ns a byte
  let ser := (rs.map fun r => (r.wireBytes.toNat * 256, 100 * r.units.toNat)).foldl fracMax (0, 1)
  let one := (rs.map fun r => (4160 * 256, 100 * r.units.toNat)).foldl fracAdd (0, 1)
  let link := (rs.map fun r => (r.rttNs.toNat + 2 * r.asymNs.toNat, 2)).foldl fracAdd (0, 1)
  let far := ((rs.filter fun r => r.profile == 2).map fun r => r.rttNs.toNat + 50000).foldl max 0
  let near := ((rs.filter fun r => r.profile != 2).map fun r => r.rttNs.toNat + 2000).foldl max 0
  let whole := t.hops.length * s.val (dsKey 6) + land + s.val (dsKey 9) * far + s.val (dsKey 0x0A) * near
  let sum := fracAdd (fracAdd ser one) (fracAdd link (whole, 1))
  ceilDiv (sum.1 * 10001) (sum.2 * 40000)

/-- Whether every term of a transfer is there. -/
def termsComplete (x : Schedule) (i : Nat) (t : Transfer) : Bool :=
  (List.range (t.hops.length + 1)).all fun h => (x.termsOf i).any fun r => r.hop.toNat == h

/-- Transfers sourced here with their indices. -/
def sourcedHere (s : State) (x : Schedule) : List (Nat × Transfer) :=
  ((List.range x.transfers.length).zip x.transfers).filter fun e => e.2.src == s.moduleId

/-- A schedule with FIT from every source reads ACTIVE (R292, step 4). -/
def activate (s : State) (x : Schedule) : State :=
  s.setSchedule (if x.state = 2 && x.sources.all x.fits.contains then { x with state := 3 } else x)

/-- The round trips of a schedule's ports here, which its admission uses (R263, R295). -/
def ownRtts (s : State) (x : Schedule) : List (Nat × Nat) :=
  ((List.range 32).filter fun p => x.transfers.any fun t => t.hops.contains (s.moduleId, p)).map fun p => (p, s.portRtt p)

/-- Row 7 of R293 and R348 for a transfer sourced here with its admission time: A > B of a guaranteed one; a ring's transfer meets
R347 whatever its budget, and none meets it with a budget of 0, since A is not 0. -/
def budgetRefused (s : State) (t : Transfer) (time : Nat) : Bool :=
  if t.budget = 0 then (s.ringOf t.srcJs t.id).isSome else decide (t.budget < time) || ringBudgetRefused s t

/-- A source with all its terms decides (R292, step 3): FIT to every member, or NOFIT. -/
def decideFit (s : State) (x : Schedule) : State :=
  let own := sourcedHere s x
  if x.state != 2 || x.answered || own.isEmpty || !own.all (fun e => termsComplete x e.1 e.2) then activate s x
  else
    let times := own.map fun e => (e.1, if e.2.budget = 0 then 0 else admissionTime s x e.1 e.2)
    match own.find? fun e => budgetRefused s e.2 (mapGet 0 times e.1) with
    | some e => s.refuseAll x 7 e.1
    | none =>
      let y := { x with answered := true, fits := x.fits ++ [s.moduleId], admitted := times }
      activate (s.tellMembers x fun m => .admission m 0x21 x.id []) y

/-- The schedule LOADING or WAITING under an identifier (R487). -/
def State.pendingSchedule (s : State) (id : Nat) : Option Schedule := s.schedules.find? fun x => x.id == id && decide (x.state ≤ 2)

/-- The lowest free row of SCHEDULE_TABLE. -/
def freeRow (s : State) : Option Nat := (List.range 64).find? fun r => !(s.schedules.any (·.row == r))

/-- SCHEDULE_LOAD's own part (R292, step 1; R310). -/
def scheduleLoadBody (v : Nat) (s : State) : SetResult :=
  if s.schedules.any (·.state == 1) then .refuse stBusy 0
  else if 2 ^ 48 ≤ v then .refuse stRange 0
  else
    match freeRow s with
    | none => .refuse stState 0
    | some r =>
      .ok (({ s with
        schedules := s.schedules ++ [{ row := r, state := 1, addr := v, id := leAt ((s.seen .firmware).readMem v 64) 56 4 }] } : State).firmwareReads
          v (if readableImage s v 64 then 64 else 0))

/-- SCHEDULE_LOAD (R292). -/
def execScheduleLoad (rq : Rq) (v : DWord) (s : State) : Host.Outcome State Fault Refusal :=
  .next (s.dictSet rq 0x3400 1 (scheduleLoadBody v.toNat))

/-- SCHEDULE_LOCAL_CHECKS: the image read and checked, reservations booked, terms sent; or refused (R292, step 2). -/
def scheduleChecked (s : State) (x : Schedule) : State :=
  let h := BitVec.ofNat 512 (leAt ((s.seen .firmware).readMem x.addr 64) 0 64)
  let n := schBytes h
  if !readableImage s x.addr 64 || !readableImage s x.addr n || (s.seen .firmware).spanPoisoned x.addr n then s.refuseSchedule x 1 0
  else
    let bs := (s.seen .firmware).readMem x.addr n
    let y := readSchedule x h bs
    match imageRefused s x h bs with
    | some i => if y.members.contains s.moduleId then s.refuseAll y 1 i else s.refuseSchedule y 1 i
    | none =>
      match localRefusal s y with
      | some (reason, i) => s.refuseAll y reason i
      | none =>
        let all := ((List.range y.transfers.length).zip y.transfers).map fun e => (e.2.src, ownTerms s y e.1 e.2)
        let s := (y.sources.filter (· != s.moduleId)).foldl (fun s m =>
          let recs := (all.filter (·.1 == m)).flatMap (·.2)
          (chunks127 (recs.length + 1) recs).foldl (fun s c => s.emit (.admission m 0x20 y.id c)) s) s
        let own := (all.filter (·.1 == s.moduleId)).flatMap (·.2)
        decideFit s (addTerms { y with state := 2, portRtts := ownRtts s y } s.moduleId own)

/-- Bytes of a schedule image that the firmware reads: none where it may not, the header alone where the rest is not readable. -/
def imageRead (s : State) (x : Schedule) : Nat :=
  let n := schBytes (BitVec.ofNat 512 (leAt ((s.seen .firmware).readMem x.addr 64) 0 64))
  if !readableImage s x.addr 64 then 0 else if readableImage s x.addr n then n else 64

/-- SCHEDULE_LOCAL_CHECKS (R292). -/
def execScheduleLocalChecks (sched : Word) (s : State) : Host.Outcome State Fault Refusal :=
  match s.schedules.find? fun x => x.id == sched.toNat && x.state == 1 with
  | none => .next s
  | some x => .next ((scheduleChecked s x).firmwareReads x.addr (imageRead s x))

/-- ADMIT_TERMS: terms received by a source (R487). -/
def execAdmitTerms (src : BitVec 16) (sched : Word) (recs : List AdmitRecord) (s : State) : Host.Outcome State Fault Refusal :=
  if recs.isEmpty || 127 < recs.length then .next (s.bump ⟨0x1000, 0x0B, 0⟩ 1)
  else
    match s.pendingSchedule sched.toNat with
    | none => .next s
    | some x => .next (decideFit s (addTerms x src.toNat recs))

/-- ADMIT_FIT (R292, R487). -/
def execAdmitFit (src : BitVec 16) (sched : Word) (s : State) : Host.Outcome State Fault Refusal :=
  match s.pendingSchedule sched.toNat with
  | none => .next s
  | some x => .next (activate s (if x.fits.contains src.toNat then x else { x with fits := x.fits ++ [src.toNat] }))

/-- ADMIT_NOFIT: refused with reason 8 MEMBER, and every member is told (R292, R487). -/
def execAdmitNofit (_src : BitVec 16) (sched : Word) (transfer : BitVec 16) (_reason : Byte) (s : State) :
    Host.Outcome State Fault Refusal :=
  match s.pendingSchedule sched.toNat with
  | none => .next s
  | some x => .next (s.refuseAll x 8 transfer.toNat)

/-- ADMIT_ABORT: refused whole with reason 8 MEMBER, and every member is told (R292, R487). -/
def execAdmitAbort (_src : BitVec 16) (sched : Word) (s : State) : Host.Outcome State Fault Refusal :=
  match s.pendingSchedule sched.toNat with
  | none => .next s
  | some x => .next (s.refuseAll x 8 0)

/-- ADMIT_TIMEOUT: refused whole, reason 9 TIMEOUT; the members hear ADMIT_ABORT (R292, R293, R487). -/
def execAdmitTimeout (sched : Word) (s : State) : Host.Outcome State Fault Refusal :=
  match s.pendingSchedule sched.toNat with
  | none => .next s
  | some x => .next ((s.tellMembers x fun m => .admission m 0x23 x.id []).refuseSchedule x 9 0)

/-- SCHEDULE_RELEASE's own part (R295). -/
def scheduleReleaseBody (v : Nat) (s : State) : SetResult :=
  match s.schedules.find? (·.id == v) with
  | none => .refuse stState 0
  | some x =>
    if x.state ≤ 2 then .refuse stBusy 0
    else
      let running := x.transfers.any fun t =>
        (t.src == s.moduleId && s.stepRunning t.srcJs) || (t.dst == s.moduleId && s.stepRunning t.dstJs)
      let used := x.transfers.any fun t => t.src == s.moduleId && (s.idState t.srcJs t.id).phase != 0
      if running || used then .refuse stState 0 else .ok (s.freeSchedule x)

/-- SCHEDULE_RELEASE (R295). -/
def execScheduleRelease (rq : Rq) (v : Word) (s : State) : Host.Outcome State Fault Refusal :=
  .next (s.dictSet rq 0x3400 2 (scheduleReleaseBody v.toNat))

/-! ### Route images (R278 to R280) -/

/-- Bytes of a route image. -/
def routeImageBytes : Nat := 64 + 8 * 65536

/-- ROUTE_STATE's staged slot: 0 EMPTY, 1 CHECKING, 2 VALID, 3 REFUSED (R284). -/
def State.stagedState (s : State) : Nat := s.val (fabricKey 4) % 256

/-- Whether a SIG.ROUTESWAP waits at a core (R386). -/
def swapPending (s : State) : Bool :=
  s.cores.any fun e => match (e.2.queue 6) with | i :: _ => iOpcode i.w0 == 0x33 && headOk e.2 6 i | [] => false

/-- ROUTE_LOAD's own part (R278). -/
def routeLoadBody (v : Nat) (s : State) : SetResult :=
  if s.stagedState = 1 then .refuse stBusy 0
  else if 2 ^ 48 ≤ v then .refuse stRange 0
  else if swapPending s || !readableImage s v routeImageBytes then .refuse stState 0
  else .ok (({ s with routeAddr := v, staged := [] }.setVal (fabricKey 4) 1).setVal (fabricKey 7) 0)

/-- ROUTE_LOAD (R278). -/
def execRouteLoad (rq : Rq) (v : DWord) (s : State) : Host.Outcome State Fault Refusal :=
  .next (s.dictSet rq 0x3000 2 (routeLoadBody v.toNat))

/-- Whether an entry's reserved parts are zero (R275). -/
def routeFieldsOk (v : Nat) : Bool :=
  let b := BitVec.ofNat 64 v
  match getf b 62 2 with
  | 0 => getf b 0 62 == 0
  | 1 => getf b 0 62 == 0
  | 2 => getf b 32 13 == 0
  | _ => false

/-- The ports that the fields of a FORWARD entry name (R279). -/
def routePorts (e : RouteEntry) : List Nat :=
  [e.port, e.alt, e.esc] ++ (List.range 32).filter fun i => e.ingress.testBit i

/-- The port of an entry that fails the rank test of R279. -/
def rankFails (s : State) (e : RouteEntry) : Option Nat :=
  (List.range 32).findSome? fun i =>
    if !e.ingress.testBit i then none
    else
      let rin := s.val (portKey i 6)
      if s.val (portKey e.port 5) ≤ rin then some e.port
      else if e.altValid && decide (s.val (portKey e.alt 5) ≤ rin) then some e.alt
      else if !e.dateline && decide (s.val (portKey e.esc 5) ≤ rin) then some e.esc
      else none

/-- The first refusal of R279 of one kind over the entries: destination and port. -/
def firstEntry (vs : List Nat) (bad : Nat → Nat → Option Nat) : Option (Nat × Nat) :=
  (vs.foldl (fun (acc : Nat × Option (Nat × Nat)) v =>
    (acc.1 + 1, match acc.2 with | some x => some x | none => (bad acc.1 v).map fun p => (acc.1, p))) (0, none)).2

/-- The check of a route image (R279): none, or the reason from 1 with the first failing destination and port. -/
def routeRefusal (s : State) (header : BitVec 512) (crcOk : Bool) (vs : List Nat) : Option (Nat × Nat × Nat) :=
  if !crcOk || getf header 80 400 != 0 || getf header 16 16 != 0 || getf header 0 16 != 1 then some (1, 0, 0)
  else
    match firstEntry vs fun _ v => if routeFieldsOk v then none else some 0 with
    | some x => some (1, x)
    | none =>
      if getf header 64 16 != s.moduleId then some (2, 0, 0)
      else
        match firstEntry vs fun d v => if ((routeOf v).kind == 1) == (d == s.moduleId) then none else some 0 with
        | some x => some (3, x)
        | none =>
          match firstEntry vs fun _ v =>
              if (routeOf v).kind = 2 then
                (routePorts (routeOf v)).find? fun p => s.val (portKey p 5) == 0 || s.val (portKey p 6) == 0
              else none with
          | some x => some (4, x)
          | none =>
            (firstEntry vs fun _ v => if (routeOf v).kind = 2 then rankFails s (routeOf v) else none).map fun x => (5, x)

/-- A measurement register extended with a digest (R455). -/
def extendDigest (m d : Nat) : Nat := leNat (shake256 64 (natLe 64 m ++ natLe 64 d))

/-- ROUTE_CHECK_DONE: the staged slot reads VALID or REFUSED (R278, R279); a VALID image extends measurement 7 (R455). -/
def execRouteCheckDone (s : State) : Host.Outcome State Fault Refusal :=
  if s.stagedState != 1 then .next s
  else
    let bs := (s.seen .firmware).readMem s.routeAddr routeImageBytes
    let header := BitVec.ofNat 512 (leAt bs 0 64)
    let vs := (List.range 65536).map fun d => leAt bs (64 + 8 * d) 8
    let crc := crcHeaderOk (bs.take 64) (bs.drop 64) && !(s.seen .firmware).spanPoisoned s.routeAddr routeImageBytes
    match routeRefusal s header crc vs with
    | some (reason, d, p) =>
      .next (((s.setVal (fabricKey 4) (3 + 256 * reason)).setVal (fabricKey 7) (d + 2 ^ 16 * p)).firmwareReads s.routeAddr routeImageBytes)
    | none =>
      let tab := (List.range 65536).zip vs
      let measure := extendDigest s.routeMeasure (leNat (shake256 64 bs))
      let t : State := { s with staged := tab.filter (·.2 != 0), routeMeasure := measure }
      .next (((t.setVal (fabricKey 4) 2).setVal (fabricKey 6) (getf header 32 32)).firmwareReads s.routeAddr routeImageBytes)

/-- The tables exchanged (R280). -/
def State.swapRoutes (s : State) : State :=
  let a := s.val (fabricKey 5)
  let b := s.val (fabricKey 6)
  (({ s with routes := s.staged, staged := s.routes }).setVal (fabricKey 5) b).setVal (fabricKey 6) a

/-- ROUTE_SWAP's own part: the staged slot must be VALID (R280). -/
def routeSwapBody (s : State) : SetResult :=
  if s.stagedState = 1 then .refuse stBusy 0
  else if s.stagedState != 2 then .refuse stState 0 else .ok s.swapRoutes

/-- ROUTE_SWAP (R280). -/
def execRouteSwap (rq : Rq) (v : Byte) (s : State) : Host.Outcome State Fault Refusal :=
  .next (s.dictSet rq 0x3000 3 (boolCommand v.toNat routeSwapBody))

end Sys2Proof.Machine
end

