-- ==== Sys2Proof/Machine/Layouts.lean ====
section
/-! DEFINITION. Layout epochs (R331 to R334), collectives (R313 to R316), rings (R338 to R342), sequence contexts (R174, R175),
mappings (R374 to R378), STEP_ALIGN (R392) and replay (R396, R398). -/
namespace Sys2Proof.Machine

/-! ### Regions of a job stream -/

/-- Whether a span lies in one region of a job stream with `REG.READ` set. -/
def readableBy (s : State) (j a n : Nat) : Bool :=
  s.regions.any fun r => r.state == .active && decide (r.tier ≤ 2) && r.read && r.js == j && r.holds a n

/-- Whether a 64-byte descriptor lies 64 B aligned in a readable HBM region of a job stream (R174, R313, R338, R374). -/
def descriptorAt (s : State) (j a : Nat) : Bool := a % 64 == 0 && inHbm a && readableBy s j a 64

/-- The descriptor at an address, and whether its CRC is good and no atom of it poisoned. -/
def readDescriptor (s : State) (a : Nat) : BitVec 512 × Bool :=
  let bs := (s.seen .firmware).readMem a 64
  (BitVec.ofNat 512 (leAt bs 0 64), crcHeaderOk bs [] && !(s.seen .firmware).spanPoisoned a 64)

/-- A member table of `n` module IDs. -/
def readMembers (s : State) (a n : Nat) : List Nat :=
  let bs := (s.seen .firmware).readMem a (2 * n)
  (List.range n).map fun i => leAt bs (2 * i) 2

/-- Whether a member table lies readable, names this module at a rank, and has no equal entries (R315, R341, R376). -/
def membersOk (s : State) (j a n rank : Nat) (ms : List Nat) : Bool :=
  a % 2 == 0 && readableBy s j a (2 * n) && !(s.seen .firmware).spanPoisoned a (2 * n) && ms[rank]? == some s.moduleId && noRepeats ms

/-- EPOCH_STATE: 0 STABLE, 1 DRAINING, 2 DRAINED (R335). -/
def epochStateKey (j : Nat) : Key := ⟨0x9030 + j, 3, 0⟩
/-- EPOCH_STATE of a job stream. -/
def State.epochState (s : State) (j : Nat) : Nat := s.val (epochStateKey j)
/-- PREPARED_ROUTE_EPOCH. -/
def preparedRouteKey (j : Nat) : Key := ⟨0x9030 + j, 6, 0⟩

/-- The prepared epoch of a job stream that is DRAINING or DRAINED (R332). -/
def State.preparedEpoch (s : State) (j : Nat) : Option Nat := (s.prepared.find? (·.1 == j)).map (·.2)

/-- Whether an epoch is the current or the prepared one of a job stream (R315, R341). -/
def epochKnown (s : State) (j e : Nat) : Bool := e == s.val (keyEpoch j) || s.preparedEpoch j == some e

/-! ### Mappings (R374 to R378) -/

/-- The current mapping of a job stream, if any. -/
def State.mapNow (s : State) (j : Nat) : Option Mapping := (s.maps.find? (·.1 == j)).map (·.2)
/-- The prepared mapping of a job stream, if any. -/
def State.mapNext (s : State) (j : Nat) : Option Mapping := (s.mapsNext.find? (·.1 == j)).map (·.2)
/-- `MAP.LAYOUT_EPOCH`. -/
def Mapping.epoch (m : Mapping) : Nat := getf m.desc 352 32
/-- `MAP.SPARE`. -/
def Mapping.spare (m : Mapping) : Bool := bitf m.desc 155
/-- `MAP.ROUTE_CONTROL`. -/
def Mapping.routeControl (m : Mapping) : Bool := bitf m.desc 156
/-- Whether a job stream's current mapping is a spare mapping (R378). -/
def State.isSpare (s : State) (j : Nat) : Bool := match s.mapNow j with | some m => m.spare | none => false

/-- Size of an axis by its code 1 data, 2 tensor, 3 pipeline, 4 sequence, 5 expert. -/
def axisSize (d : BitVec 512) : Nat → Nat
  | 1 => getf d 276 12 + 1
  | 2 => getf d 270 6 + 1
  | 3 => getf d 264 6 + 1
  | 4 => getf d 256 8 + 1
  | 5 => getf d 248 8 + 1
  | _ => 0

/-- Distance of neighbours along an axis in the member table (R375): tensor, sequence, expert, pipeline, data. -/
def axisStride (d : BitVec 512) (axis : Nat) : Nat :=
  let t := axisSize d 2
  let s := axisSize d 4
  let e := axisSize d 5
  match axis with
  | 2 => 1
  | 4 => t
  | 5 => t * s
  | 3 => t * s * e
  | _ => t * s * e * axisSize d 3

/-- N_M of a mapping (R375). -/
def mapSize (d : BitVec 512) : Nat := axisStride d 1 * axisSize d 1

/-- The module's coordinate along an axis. -/
def Mapping.coord (m : Mapping) (axis : Nat) : Nat := getf m.desc 232 16 / axisStride m.desc axis % axisSize m.desc axis

/-- The module's group along an axis in coordinate order (R375). -/
def Mapping.group (m : Mapping) (axis : Nat) : List Nat :=
  let st := axisStride m.desc axis
  let base := getf m.desc 232 16 - m.coord axis * st
  (List.range (axisSize m.desc axis)).filterMap fun k => m.members[base + k * st]?

/-- The axis of a channel (R375): VC4 data, VC5 tensor, VC6 pipeline, VC7 sequence, VC8 expert, VC9 to VC11 by their fields. -/
def Mapping.axisOf (m : Mapping) (vc : Nat) : Nat :=
  if vc = 4 then 1 else if vc = 5 then 2 else if vc = 6 then 3 else if vc = 7 then 4 else if vc = 8 then 5
  else if vc = 9 then getf m.desc 165 4 else if vc = 10 then getf m.desc 161 4 else getf m.desc 157 4

/-- Whether a list is a subsequence of another. -/
def isSubseq : List Nat → List Nat → Bool
  | [], _ => true
  | _ :: _, [] => false
  | x :: xs, y :: ys => if x = y then isSubseq xs ys else isSubseq (x :: xs) ys

/-- The mapping of a job stream, current or prepared, that belongs to an epoch (R377). -/
def State.mapOfEpoch (s : State) (j e : Nat) : Option Mapping :=
  match s.mapNow j with
  | some m => if m.epoch = e then some m else (s.mapNext j).filter fun x => x.epoch == e
  | none => (s.mapNext j).filter fun x => x.epoch == e

/-- R377 for a collective. -/
def groupRefused (s : State) (x : Coll) : Bool :=
  match s.mapOfEpoch x.js x.epoch with
  | none => false
  | some m =>
    let axis := m.axisOf x.vc
    if x.vc ≤ 8 then x.members != m.group axis || x.rank != m.coord axis
    else axis == 0 || !isSubseq x.members (m.group axis) || !x.members.contains s.moduleId

/-- R377 for a ring. -/
def ringGroupRefused (s : State) (x : Ring) : Bool :=
  match s.mapOfEpoch x.js x.epoch with
  | none => false
  | some m => x.members != m.group 4 || x.rank != m.coord 4

/-- Row 1 of R376. -/
def mapFieldsOk (s : State) (j a : Nat) (d : BitVec 512) (crcOk : Bool) : Bool :=
  let heads := getf d 205 8
  let kv := getf d 197 8
  descriptorAt s j a && crcOk && getf d 16 137 == 0 && getf d 0 16 == 1 && getf d 153 2 == j &&
    getf d 432 48 % 2 == 0 && getf d 384 48 % 64 == 0 && decide (256 ≤ getf d 320 32) && decide (getf d 320 32 ≤ 16777216) &&
    decide (2 ≤ getf d 296 24) && getf d 213 16 != 0 && heads != 0 && kv != 0 && heads % kv == 0 &&
    (getf d 185 12 != 0 || getf d 248 8 == 0) && getf d 169 16 != 0 && decide (getf d 165 4 ≤ 5) && decide (getf d 161 4 ≤ 5) &&
    decide (getf d 157 4 ≤ 5) && (!bitf d 155 || getf d 232 16 == 0)

/-- MAP_REGISTER's own part (R376). -/
def mapRegisterBody (j v : Nat) (s : State) : SetResult :=
  if 2 ^ 48 ≤ v then .refuse stRange 0
  else
    let r := readDescriptor s v
    let d := r.1
    let n := mapSize d
    let spare := bitf d 155
    let table := getf d 432 48
    let ms := if spare || 65536 < n then [] else readMembers s table n
    let m : Mapping := { addr := v, desc := d, members := ms }
    let e := some (getf d 352 32)
    let others := (List.range 4).filter (· != j)
    let slots := getf d 288 8
    checkOrder
      [(1, !mapFieldsOk s j v d r.2),
       (2, match s.mapNow j with | some _ => e != s.preparedEpoch j | none => e != some (s.val (keyEpoch j))),
       (3, !spare && (decide (65536 < n) || decide (n ≤ getf d 232 16) || !membersOk s j table n (getf d 232 16) ms)),
       (4, bitf d 156 && others.any fun k =>
          (match s.mapNow k with | some x => x.routeControl | none => false) ||
          (match s.mapNext k with | some x => x.routeControl | none => false)),
       (5, slots != 0 && !readableBy s j (getf d 384 48) (slots * 64 * getf d 296 24))]
      (let t : State := if (s.mapNow j).isSome then { s with mapsNext := s.mapsNext.filter (·.1 != j) ++ [(j, m)] }
         else { s with maps := s.maps.filter (·.1 != j) ++ [(j, m)] }
       .ok ((t.firmwareReads v 64).firmwareReads table (2 * ms.length)))

/-- MAP_REGISTER (R376). -/
def execMapRegister (rq : Rq) (j : JsId) (v : DWord) (s : State) : Host.Outcome State Fault Refusal :=
  .next (s.dictSet rq (0x9060 + j.val) 1 (mapRegisterBody j.val v.toNat))

/-! ### Epochs (R332 to R334) -/

/-- EPOCH_PREPARE's own part (R332). -/
def epochPrepareBody (j v : Nat) (s : State) : SetResult :=
  let n := v % 2 ^ 32
  let e := s.val (keyEpoch j)
  let st := s.epochState j
  if st = 0 then
    if n = (e + 1) % 2 ^ 32 || (s.isSpare j && n != e) then
      .ok (({ s with prepared := (s.prepared.filter fun (x : Nat × Nat) => x.1 != j) ++ [(j, n)] }.setVal (epochStateKey j) 1).setVal (preparedRouteKey j) (v / 2 ^ 32))
    else .refuse stState 0
  else if n = e then
    .ok ({ s with prepared := s.prepared.filter (·.1 != j), mapsNext := s.mapsNext.filter (·.1 != j)
                  drainForced := s.drainForced.filter (· != j) }.setVal (epochStateKey j) 0)
  else .refuse stState 0

/-- EPOCH_PREPARE (R332). -/
def execEpochPrepare (rq : Rq) (j : JsId) (v : DWord) (s : State) : Host.Outcome State Fault Refusal :=
  .next (s.dictSet rq (0x9030 + j.val) 2 (epochPrepareBody j.val v.toNat))

/-- The last condition of R333: the prepared route epoch stands staged and VALID, or active. -/
def routeReady (s : State) (j : Nat) : Bool :=
  let e := s.val (preparedRouteKey j)
  s.routeEpoch == e || (s.stagedState == 2 && s.val (fabricKey 6) == e)

/-- Transfers of admitted schedules that a job stream sources here and whose use is ACTIVE. -/
def activeSources (s : State) (j : Nat) : List Transfer :=
  ((s.schedules.filter fun x => decide (3 ≤ x.state)).flatMap (·.transfers)).filter fun t =>
    t.src == s.moduleId && t.srcJs == j && (s.idState j t.id).phase == 1

/-- Transfers of admitted schedules that this module sources and that a job stream sends or receives, with an ACTIVE use (R333). -/
def drainSources (s : State) (j : Nat) : List Transfer :=
  ((s.schedules.filter fun x => decide (3 ≤ x.state)).flatMap (·.transfers)).filter fun t =>
    t.src == s.moduleId && (t.srcJs == j || t.dstJs == j) && (s.idState t.srcJs t.id).phase == 1

/-- Whether a use that a job stream sends or receives is open here (R333). -/
def landingActive (s : State) (j : Nat) : Bool :=
  s.landings.any fun l => l.phase == 0 && !l.lost &&
    (match s.landingOf l.src l.js l.id with | some (_, _, t) => t.dstJs == j || t.srcJs == j | none => false)

/-- The conditions of R333 apart from the route condition. -/
def drained (s : State) (j : Nat) : Bool :=
  !s.stepRunning j && (drainSources s j).isEmpty && !landingActive s j &&
    !((s.held ++ s.heldWaiting.map (·.2)).any fun h => h.js == j && h.msg.epoch == s.val (keyEpoch j))

/-- EPOCH_DRAINED: DRAINING ends when every condition holds, or after a forced drain when the route condition does (R333). -/
def execEpochDrained (j : JsId) (s : State) : Host.Outcome State Fault Refusal :=
  let n := j.val
  if s.epochState n = 1 && routeReady s n && (s.drainForced.contains n || drained s n) then
    .next ({ s with drainForced := s.drainForced.filter (· != n) }.setVal (epochStateKey n) 2)
  else .next s

/-- A use sourced here ended by a forced drain (R333): a guaranteed one with DEADLINE_TX, a best-effort one with no deadline
fault (R288); WITHDRAW goes out for both. -/
def State.endSourced (s : State) (t : Transfer) : State :=
  if t.budget = 0 then (s.retire t.srcJs t.id false).sendWithdraw t (s.idState t.srcJs t.id).gen
  else s.faultAtSource t.srcJs t 0x2406 true

/-- Waiting signals of a job stream enter the hold table while it has room (R237); `n` bounds their number. -/
def fillHeld (j : Nat) : Nat → State → State
  | 0, s => s
  | n + 1, s => if s.held.countP (·.js == j) < 1024 then fillHeld j n (admitHeld s j) else s

/-- EPOCH_DRAIN_TIMEOUT: uses sourced here end with WITHDRAW, held signals of the epoch are applied (R236, R333). -/
def execEpochDrainTimeout (j : JsId) (s : State) : Host.Outcome State Fault Refusal :=
  let n := j.val
  if s.epochState n != 1 || s.drainForced.contains n then .next s
  else
    let s := (drainSources s n).foldl (fun s t => s.endSourced t) s
    let e := s.val (keyEpoch n)
    let here := fun (h : Held) => h.js == n && h.msg.epoch == e
    let held := s.held.filter here
    let waiting := s.heldWaiting.filter fun x => here x.2
    let s := { s with held := s.held.filter (!here ·), heldWaiting := s.heldWaiting.filter fun x => !here x.2 }
    let s := waiting.foldl (fun s x => if x.1 < 32 then s.freeUnits x.1 1 syncUnits else s) s
    let s := (held ++ waiting.map (·.2)).foldl (fun s h => (applyHeld s h true).bump (syncKey 2 n) 1) s
    let s := fillHeld n s.heldWaiting.length s
    let s := s.note 0x1502 { js := some n, detail := e }
    let s := { s with drainForced := s.drainForced ++ [n] }
    .next (if routeReady s n then { s with drainForced := s.drainForced.filter (· != n) }.setVal (epochStateKey n) 2 else s)

/-- Whether a use of another job stream under a LIVE schedule is ACTIVE on a path through this module (R295, R334). -/
def otherUses (s : State) (j : Nat) : Bool :=
  (s.seenUses.any fun u => u.js != j) ||
    (List.range 4).any fun k => k != j && (activeSources s k).any fun t => match s.sourced k t.id with | some _ => true | none => false

/-- EPOCH_COMMIT's own part (R334). -/
def epochCommitBody (j : Nat) (s : State) : SetResult :=
  let swap := s.routeEpoch != s.val (preparedRouteKey j)
  let e := s.val (keyEpoch j)
  match s.epochState j, s.preparedEpoch j with
  | 2, some n =>
    if swap && (otherUses s j || !routeReady s j) then .refuse stState 0
    else
      let s := if swap then s.swapRoutes else s
      let s := s.setVal (keyEpoch j) n
      let s := { s with
        colls := s.colls.filter fun x => !(x.js == j && x.epoch == e)
        rings := s.rings.filter fun x => !(x.js == j && x.epoch == e)
        prepared := s.prepared.filter (·.1 != j) }
      let s := match s.mapNext j with
        | some m => { s with maps := (s.maps.filter fun (x : Nat × Mapping) => x.1 != j) ++ [(j, m)], mapsNext := s.mapsNext.filter fun (x : Nat × Mapping) => x.1 != j }
        | none => s
      .ok (s.setVal (epochStateKey j) 0)
  | _, _ => .refuse stState 0

/-- EPOCH_COMMIT (R334). -/
def execEpochCommit (rq : Rq) (j : JsId) (v : Byte) (s : State) : Host.Outcome State Fault Refusal :=
  .next (s.dictSet rq (0x9030 + j.val) 4 (boolCommand v.toNat (epochCommitBody j.val)))

/-! ### Collectives (R313 to R316) -/

/-- A collective from its descriptor and member table (R313). -/
def collOfDesc (number a : Nat) (d : BitVec 512) (ms : List Nat) : Coll :=
  { number := number, addr := a, js := getf d 288 2, epoch := getf d 400 32, stepOffset := getf d 368 32, idBase := getf d 348 20
    rank := getf d 324 12, root := getf d 312 12, chunks := getf d 296 16, vc := getf d 292 4, kind := getf d 290 2
    format := getf d 280 8, checkLog := getf d 275 5, rows := getf d 259 16, cols := getf d 243 16, members := ms }

/-- Formats of R313 for a kind. -/
def collFormatOk (kind f : Nat) : Bool :=
  if kind = 0 then decide (0x10 ≤ f) && decide (f ≤ 0x12) else decide (4 ≤ f) && decide (f ≤ 7)

/-- Layout of chunk tiles of a format: 3 for MX formats, else 0 (R42). -/
def chunkLayout (f : Nat) : Nat := if isMx f then 3 else 0

/-- The field limits, format and shape of R313 and R315. -/
def collFieldsOk (x : Coll) : Bool :=
  let n := x.members.length
  let l := chunkLayout x.format
  decide (x.rank < n) && (if x.kind = 2 then decide (x.root < n) else x.root == 0) && x.chunks != 0 &&
    decide (4 ≤ x.vc) && decide (x.vc ≤ 11) && x.kind != 3 && collFormatOk x.kind x.format &&
    (if x.kind = 0 then x.checkLog == 0 || (decide (4 ≤ x.checkLog) && decide (x.checkLog ≤ 16)) else x.checkLog == 0) &&
    x.rows != 0 && x.cols != 0 && (x.cols % 32 == 0 || x.format == 4 || x.format == 5) &&
    decide (needBytes x.format l x.rows x.cols ≤ 65536) && decide (x.chunks + x.slots ≤ 65536)

/-- Whether two identifier ranges overlap, modulo 2^20. -/
def idsMeet (a n b m : Nat) : Bool := n != 0 && m != 0 && (inIds a n b || inIds b m a)

/-- A collective put in the order of numbers. -/
def insertColl (x : Coll) : List Coll → List Coll
  | [] => [x]
  | y :: ys => if y.number < x.number then y :: insertColl x ys else x :: y :: ys

/-- COLL_REGISTER's own part (R315, R377). -/
def collRegisterBody (v : Nat) (s : State) : SetResult :=
  if 2 ^ 56 ≤ v then .refuse stRange 0
  else
    let a := v % 2 ^ 48
    let number := v / 2 ^ 48
    let r := readDescriptor s a
    let d := r.1
    let n := getf d 336 12 + 1
    let x := collOfDesc number a d (readMembers s (getf d 432 48) n)
    let bad := !descriptorAt s x.js a || !r.2 || getf d 16 227 != 0 || getf d 0 16 != 1 || !collFieldsOk x ||
      (s.colls.any (·.number == number)) || !epochKnown s x.js x.epoch ||
      !membersOk s x.js (getf d 432 48) n x.rank x.members ||
      (s.colls.any fun y => y.js == x.js && idsMeet y.idBase y.idCount x.idBase x.idCount) || groupRefused s x
    if bad then .refuse stState 0
    else
      let s := (List.range 5).foldl (fun s i => s.setVal (collCounter number i) 0) s
      .ok ((({ s with colls := insertColl x s.colls } : State).firmwareReads a 64).firmwareReads (getf d 432 48) (2 * n))

/-- COLL_REGISTER (R315). -/
def execCollRegister (rq : Rq) (v : DWord) (s : State) : Host.Outcome State Fault Refusal :=
  .next (s.dictSet rq 0x9040 1 (collRegisterBody v.toNat))

/-- COLL_RELEASE's own part (R316). -/
def collReleaseBody (n : Nat) (s : State) : SetResult :=
  match s.colls.find? (·.number == n) with
  | none => .refuse stState 0
  | some x => if s.stepRunning x.js then .refuse stState 0 else .ok { s with colls := s.colls.filter (·.number != n) }

/-- COLL_RELEASE (R316). -/
def execCollRelease (rq : Rq) (v : Byte) (s : State) : Host.Outcome State Fault Refusal :=
  .next (s.dictSet rq 0x9040 2 (collReleaseBody v.toNat))

/-! ### Contexts (R174, R175) -/

/-- The field limits of R174 and R175. -/
def ctxFieldsOk (d : BitVec 512) : Bool :=
  let maxPages := getf d 240 16
  let quota := getf d 224 16
  let window := getf d 216 8
  let kSelect := getf d 205 7
  let stride := getf d 96 32
  decide (1 ≤ maxPages) && decide (maxPages ≤ 8192) && decide (kSelect ≤ 64) && getf d 192 5 == 0 &&
    decide (1 ≤ getf d 184 8) && decide (getf d 184 8 ≤ 64) && getf d 182 2 != 3 && getf d 180 2 == 0 && getf d 176 2 == 0 &&
    getf d 128 48 % 256 == 0 && getf d 16 80 == 0 && getf d 0 16 == 1 &&
    (quota == 0 || (decide (getf d 212 4 + window + 1 ≤ quota) && decide (quota ≤ maxPages))) &&
    (window != 0 || (kSelect == 0 && quota == 0)) && decide (slotBytes (ctxDim d) ≤ stride) && stride % 256 == 0

/-- Whether a plane lies in one readable and writable region of a job stream. -/
def planeOk (s : State) (j : Nat) (p : Nat × Nat) : Bool :=
  s.regions.any fun r => r.state == .active && decide (r.tier ≤ 2) && r.read && r.write && r.js == j && r.holds p.1 p.2

/-- CONTEXT_REGISTER's own part (R175). -/
def contextRegisterBody (v : Nat) (s : State) : SetResult :=
  if 2 ^ 55 ≤ v then .refuse stRange 0
  else
    let a := v % 2 ^ 48
    let n := v / 2 ^ 48
    let r := readDescriptor s a
    let d := r.1
    let j := getf d 178 2
    let inUse := s.val (contextKey n) != 0
    if a % 64 != 0 || !inHbm a || !(s.regions.any fun r => r.state == .active && r.tier == 2 && r.js == j && r.holds a 64) ||
        !r.2 || !ctxFieldsOk d || inUse || !(ctxPlanes d).all (planeOk s j) then .refuse stState 0
    else
      let s := (List.range 5).foldl (fun s i => s.setVal (contextCounter n i) 0) s
      .ok (({ s.setVal (contextKey n) (a + j * 2 ^ 48 + 2 ^ 50) with contexts := mapInsert n d s.contexts } : State).firmwareReads a 64)

/-- CONTEXT_REGISTER (R175). -/
def execContextRegister (rq : Rq) (v : DWord) (s : State) : Host.Outcome State Fault Refusal :=
  .next (s.dictSet rq 0x9020 1 (contextRegisterBody v.toNat))

/-- CONTEXT_RELEASE's own part (R175). -/
def contextReleaseBody (n : Nat) (s : State) : SetResult :=
  if 127 < n then .refuse stRange 0
  else if s.val (contextKey n) = 0 then .refuse stState 0
  else .ok { s.setVal (contextKey n) 0 with contexts := mapErase s.contexts n }

/-- CONTEXT_RELEASE (R175). -/
def execContextRelease (rq : Rq) (v : Byte) (s : State) : Host.Outcome State Fault Refusal :=
  .next (s.dictSet rq 0x9020 2 (contextReleaseBody v.toNat))

/-! ### Rings (R338 to R342) -/

/-- Images of a page and gradient tiles of a page for a head dimension (R339). -/
def pageTiles (dim : Nat) : Nat × Nat := if dim = 64 then (8, 4) else if dim = 128 then (12, 4) else (24, 8)

/-- A ring from its descriptor, member table and context (R338, R339). -/
def ringOfDesc (number a : Nat) (d c : BitVec 512) (ms : List Nat) : Ring :=
  let pages := getf d 148 16
  let heads := getf c 184 8
  let p := pageTiles (ctxDim c)
  { number := number, addr := a, js := getf d 167 2, landBase := getf d 384 48, bufferBytes := getf d 352 32
    epoch := getf d 320 32, compute := getf d 288 32, bwdCompute := getf d 256 32, offer := getf d 232 24, skew := getf d 212 20
    idBase := getf d 192 20, rank := getf d 176 8, context := getf d 169 7, causal := bitf d 166, buffers := getf d 164 2
    shardPages := pages, members := ms, chunkTiles := 2 * pages * heads * p.1, gradTiles := 2 * pages * heads * p.2 }

/-- The field limits of R338 and the counts of R341. -/
def ringFieldsOk (x : Ring) : Bool :=
  decide (x.rank < x.members.length) && decide (2 ≤ x.buffers) && decide (1 ≤ x.shardPages) && decide (x.shardPages ≤ 4096) &&
    x.landBase % 64 == 0 && x.bufferBytes % 64 == 0 && decide (x.chunkTiles ≤ 65536) && decide (x.gradTiles ≤ 65536) &&
    decide (8256 * x.chunkTiles + 65600 * x.gradTiles ≤ x.bufferBytes)

/-- Whether a context serves a ring (R341): registered to the job stream, no selection, no eviction, room for its pages. -/
def ringContextOk (s : State) (j n pages : Nat) : Bool :=
  match s.contexts.find? (·.1 == n) with
  | none => false
  | some e => getf e.2 178 2 == j && getf e.2 205 7 == 0 && getf e.2 224 16 == 0 && decide (2 * pages ≤ getf e.2 240 16)

/-- CLOCK_MODE reads FIXED (R402). -/
def State.fixedClock (s : State) : Bool := s.val ⟨0x5000, 1, 0⟩ == 1

/-- A ring put in the order of numbers. -/
def insertRing (x : Ring) : List Ring → List Ring
  | [] => [x]
  | y :: ys => if y.number < x.number then y :: insertRing x ys else x :: y :: ys

/-- RING_REGISTER's own part (R341, R377). -/
def ringRegisterBody (v : Nat) (s : State) : SetResult :=
  if 2 ^ 52 ≤ v then .refuse stRange 0
  else
    let a := v % 2 ^ 48
    let number := v / 2 ^ 48
    let r := readDescriptor s a
    let d := r.1
    let n := getf d 184 8 + 1
    let x := ringOfDesc number a d (mapGet 0 s.contexts (getf d 169 7)) (readMembers s (getf d 432 48) n)
    let bad := !descriptorAt s x.js a || !r.2 || getf d 16 132 != 0 || getf d 0 16 != 1 ||
      (s.rings.any (·.number == number)) || !ringContextOk s x.js x.context x.shardPages ||
      !membersOk s x.js (getf d 432 48) n x.rank x.members || !epochKnown s x.js x.epoch || !ringFieldsOk x ||
      !(s.regions.any fun r => r.state == .active && decide (r.tier ≤ 2) && r.land && r.read && r.js == x.js &&
          r.holds x.landBase (x.buffers * x.bufferBytes)) ||
      (s.colls.any fun y => y.js == x.js && idsMeet y.idBase y.idCount x.idBase x.idCount) ||
      (s.rings.any fun y => y.js == x.js && idsMeet y.idBase y.idCount x.idBase x.idCount) ||
      ((x.compute != 0 || x.bwdCompute != 0) && !s.fixedClock) || ringGroupRefused s x
    if bad then .refuse stState 0
    else
      let s := (List.range 4).foldl (fun s i => s.setVal (ringCounter number i) 0) s
      .ok ((({ s with rings := insertRing x s.rings } : State).firmwareReads a 64).firmwareReads (getf d 432 48) (2 * n))

/-- RING_REGISTER (R341). -/
def execRingRegister (rq : Rq) (v : DWord) (s : State) : Host.Outcome State Fault Refusal :=
  .next (s.dictSet rq 0x9050 1 (ringRegisterBody v.toNat))

/-- RING_RELEASE's own part (R342). -/
def ringReleaseBody (n : Nat) (s : State) : SetResult :=
  if 15 < n then .refuse stRange 0
  else
    match s.rings.find? (·.number == n) with
    | none => .refuse stState 0
    | some x =>
      let admitted := (s.schedules.filter fun y => decide (3 ≤ y.state)).any fun y => y.transfers.any fun t =>
        ((t.src == s.moduleId && t.srcJs == x.js) || (t.dst == s.moduleId && t.dstJs == x.js)) && inIds x.idBase x.idCount t.id
      if s.stepRunning x.js || admitted then .refuse stState 0 else .ok { s with rings := s.rings.filter (·.number != n) }

/-- RING_RELEASE (R342). -/
def execRingRelease (rq : Rq) (v : Byte) (s : State) : Host.Outcome State Fault Refusal :=
  .next (s.dictSet rq 0x9050 2 (ringReleaseBody v.toNat))

/-! ### STEP_ALIGN and replay (R392, R396, R398) -/

/-- REPLAY_STATE: 0 IDLE, 1 ARMED, 2 RUNNING, 3 DONE_MATCH, 4 DONE_MISMATCH (R398). -/
def replayKey (j : Nat) : Key := ⟨0xA020 + j, 3, 0⟩
/-- DETERMINISTIC (R394). -/
def detKey (j : Nat) : Key := ⟨0x9060 + j, 4, 0⟩

/-- STEP_ALIGN's own part (R392). -/
def stepAlignBody (j v : Nat) (s : State) : SetResult :=
  if 2 ^ 48 ≤ v then .refuse stRange 0
  else if s.stepRunning j || s.val (keyTriggers j) != 0 || s.val (replayKey j) = 1 then .refuse stState 0
  else .ok ((s.setVal (keyStarted j) v).setVal (keyEnded j) v)

/-- STEP_ALIGN (R392). -/
def execStepAlign (rq : Rq) (j : JsId) (v : DWord) (s : State) : Host.Outcome State Fault Refusal :=
  .next (s.dictSet rq (0x9060 + j.val) 5 (stepAlignBody j.val v.toNat))

/-- REPLAY_ARM's own part (R396). -/
def replayArmBody (j : Nat) (record : List Byte) (s : State) : SetResult :=
  let r := BitVec.ofNat 512 (leAt record 0 64)
  if record.length != 64 then .refuse stType 0
  else if getf r 0 43 != 0 then .refuse stState 0
  else if !bitf r 46 || s.val (detKey j) = 0 || getf r 48 16 != s.moduleId || getf r 112 32 != s.val (keyEpoch j) ||
      s.stepRunning j || s.val (keyTriggers j) != 0 || s.val (replayKey j) = 1 || s.val (replayKey j) = 2 then .refuse stState 0
  else .ok ({ s with replays := (s.replays.filter fun (x : Nat × BitVec 512) => x.1 != j) ++ [(j, r)] }.setVal (replayKey j) 1)

/-- REPLAY_ARM (R396). -/
def execReplayArm (rq : Rq) (j : JsId) (record : List Byte) (s : State) : Host.Outcome State Fault Refusal :=
  .next (s.dictSet rq (0xA020 + j.val) 1 (replayArmBody j.val record))

/-- REPLAY_DISARM's own part (R398). -/
def replayDisarmBody (j : Nat) (s : State) : SetResult :=
  if s.val (replayKey j) = 1 then .ok ({ s with replays := s.replays.filter (·.1 != j) }.setVal (replayKey j) 0)
  else .refuse stState 0

/-- REPLAY_DISARM (R398). -/
def execReplayDisarm (rq : Rq) (j : JsId) (v : Byte) (s : State) : Host.Outcome State Fault Refusal :=
  .next (s.dictSet rq (0xA020 + j.val) 2 (boolCommand v.toNat (replayDisarmBody j.val)))

end Sys2Proof.Machine
end

