-- ==== Sys2Proof/Machine/Steps.lean ====
section
/-! DEFINITION. Steps: triggers (R77, R78, R231, R378), the step directory and its dispatch (R75, R76, R79), token manifests
(R383, R384), prefetch schedules and walks (R203 to R207), the end of a step (R78, R126, R316, R342, R427) and its record
(R395, R396), SIG.ROUTESWAP (R385, R386) and SEM_SET (R244). -/
namespace Sys2Proof.Machine

/-! ### Triggers -/

/-- TRIGGERS_DROPPED (R77). -/
def keyDropped (j : Nat) : Key := ⟨0x9010 + j, 7, 0⟩

/-- Whether the module starts steps: Ready or Running (R473). -/
def State.startsSteps (s : State) : Bool := s.lifecycle == 4 || s.lifecycle == 5

/-- A trigger of a job stream (R77, R78): counted as pending, or dropped, counted and noted at 15 pending, for a spare (R378),
in Maintenance (R473) and for a job stream that is not ENABLED (R437). -/
def State.fireTrigger (s : State) (j : Nat) : State :=
  if s.isSpare j then (s.bump (keyDropped j) 1).note 0x1601 { js := some j }
  else if s.startsSteps && s.val (keyJsState j) == 1 && decide (s.val (keyTriggers j) < 15) then
    s.setVal (keyTriggers j) (s.val (keyTriggers j) + 1)
  else
    -- the spec gives the note of a drop no code: its class is 1, the rest free (log entry 27)
    let f := (s.bump (keyDropped j) 1).free 12
    f.2.note (0x1000 + f.1) { js := some j }

/-- TRIGGER (R78). -/
def execTrigger (j : JsId) (_src : TriggerSource) (s : State) : Host.Outcome State Fault Refusal :=
  .next (s.fireTrigger j.val)

/-- SYNC_TRIGGER_ARRIVE: a sync packet with a trigger (R231, R233). A malformed message is dropped and counted. -/
def execSyncTriggerArrive (p : PortId) (pkt : Pkt) (s : State) : Host.Outcome State Fault Refusal :=
  let t := s.takeHanded p.val pkt
  let m := syncOf pkt.payload
  if !syncOk pkt.payload then
    .next ((t.2.consume t.1).bump (syncKey 6 ((t.2.jsOfCore m.dstCore).getD 0)) 1)
  else if m.kind = 1 then .next ((t.2.consume t.1).fireTrigger m.dstJs)
  else .next s

/-! ### The step directory (R75, R76) -/

/-- An entry of a step directory. -/
structure DirEntry where
  core : Nat
  addr : Nat
  len : Nat
  crc : Nat
  deriving DecidableEq, Repr

/-- A directory entry from its 16 bytes. -/
def dirEntryOf (e : BitVec 128) : DirEntry :=
  { core := getf e 72 8, addr := getf e 0 48, len := getf e 80 16, crc := getf e 96 32 }

/-- Whether an entry is as R75 and R76 ask. -/
def dirEntryOk (s : State) (j : Nat) (e : BitVec 128) : Bool :=
  let x := dirEntryOf e
  getf e 48 24 == 0 && x.len % 16 == 0 && decide (16 ≤ x.len) && decide (x.len ≤ 32768) && x.addr % 16 == 0 &&
    s.inMask j x.core && s.domain (domCluster x.core) == 1 && readableBy s j x.addr x.len

/-- The directory of a job stream: its program ID and entries, none when it is refused (R76). -/
def readDirectory (s : State) (j : Nat) : Option (Nat × List DirEntry) :=
  let a := s.val ⟨0x9010 + j, 1, 0⟩
  let h := BitVec.ofNat 512 (leAt (s.readMem a 64) 0 64)
  let n := getf h 16 16
  let bytes := s.readMem a (64 + 16 * n)
  if !descriptorAt s j a || getf h 64 416 != 0 || getf h 0 16 != 1 || n = 0 || decide (256 < n) ||
      !readableBy s j a (64 + 16 * n) || s.spanPoisoned a (64 + 16 * n) || !crcHeaderOk (bytes.take 64) (bytes.drop 64) then none
  else
    let es := (List.range n).map fun i => BitVec.ofNat 128 (leAt bytes (64 + 16 * i) 16)
    if es.all (dirEntryOk s j) && noRepeats (es.map fun e => (dirEntryOf e).core) then
      some (getf h 32 32, es.map dirEntryOf)
    else none

/-- The dispatcher of a crown as a requester (R209). -/
def dispatcher (c : Nat) : HbmRequester := .dispatcher (Fin.ofNat 4 c)

/-- Every crown's dispatcher reads the directory (R79, R209): its header, and the entries where the job stream may read them. -/
def readsDirectory (s : State) (j : Nat) : State :=
  let a := s.val ⟨0x9010 + j, 1, 0⟩
  let n := leAt (s.readMem a 64) 2 2
  if !descriptorAt s j a then s
  else (List.range 4).foldl (fun s c =>
    s.requestAlone (dispatcher c) c a (if readableBy s j a (64 + 16 * n) then 64 + 16 * n else 64) none) s

/-- The 128-bit words of a control stream. -/
def streamWords (bs : List Byte) (len : Nat) : List QWord :=
  (List.range (len / 16)).map fun i => BitVec.ofNat 128 (leAt bs (16 * i) 16)

/-- A core's stream loaded into its control store, unless the store holds it already (R76); whether its CRC is good. -/
def loadStream (s : State) (e : DirEntry) : State × Bool :=
  let k := s.core e.core
  if k.ctl.loaded = some (e.addr, e.crc) then (s, true)
  else
    let m := s.seen (dispatcher (e.core / 64))
    let s := s.requestAlone (dispatcher (e.core / 64)) (e.core / 64) e.addr e.len none
    let bs := m.readMem e.addr e.len
    if crc32c bs = e.crc && !m.spanPoisoned e.addr e.len then
      (s.setCore e.core { k with ctl := { k.ctl with stream := streamWords bs e.len, loaded := some (e.addr, e.crc) } }, true)
    else (s.setCore e.core { k with ctl := { k.ctl with loaded := none } }, false)

/-- The registers of a core at the start of a step of number `n` (R127). -/
def startRegs (s : State) (j c n : Nat) : List (Nat × DWord) :=
  [(1, c), (2, j), (3, n), (4, s.val (keyEpoch j))].filterMap fun e =>
    if e.2 % 2 ^ 64 = 0 then none else some (e.1, BitVec.ofNat 64 e.2)

/-- A core starts at the first word of its stream (R79, R126, R127, R147). -/
def startCore (s : State) (j c n : Nat) : State :=
  let k := s.core c
  s.setCore c { k with
    ctl := { k.ctl with running := true, pc := 0, regs := startRegs s j c n }
    summaries := [], vecSeq := 0, hung := false }

/-! ### Locks and phases at a step start -/

/-- A job stream locks (R471); a Ready module is Running from then on (R474). -/
def State.lockStream (s : State) (j : Nat) : State :=
  let s := s.setVal (keyJsLock j) 1
  if s.lifecycle = 4 then s.setLifecycle 5 else s

/-- A job stream unlocks; when it was the last, a Running module is Ready (R474). -/
def State.unlockStream (s : State) (j : Nat) : State :=
  let s := s.setVal (keyJsLock j) 0
  if s.lifecycle = 5 && !((List.range 4).any fun i => s.locked i) then s.setLifecycle 4 else s

/-- Clusters 8c + k that hold a core of a job stream's CORE_MASK. -/
def clustersOf (s : State) (j : Nat) : List Nat :=
  (List.range 32).filter fun k => (List.range 8).any fun i => s.inMask j (8 * k + i)

/-- A step start sets the job stream's clusters to phase 0 (R408), a phase boundary of their crowns (R411). -/
def startPhases (s : State) (j : Nat) : State :=
  (clustersOf s j).foldl (fun s k =>
    { s with phases := mapSet 0 s.phases k 0
             phaseMet := if s.phaseMet.contains (k / 8) then s.phaseMet else s.phaseMet ++ [k / 8] }) s

/-! ### Token manifests (R383, R384) -/

/-- Whether an entry of a manifest is as R383 and R384 ask, order and sums apart. -/
def maneOk (s : State) (j budget microBatches : Nat) (e : BitVec 256) : Bool :=
  let len := getf e 184 24
  let ctx := getf e 129 7
  let ctxOk := s.contexts.any fun c => c.1 == ctx && getf c.2 178 2 == j
  getf e 208 48 % 4 == 0 && len != 0 && getf e 0 124 == 0 && decide (getf e 136 16 < microBatches) &&
    readableBy s j (getf e 208 48) (4 * len) && ctxOk &&
    (if bitf e 128 then
      match s.rings.find? fun r => r.number == getf e 124 4 && r.js == j with
      | some r => r.context == ctx && len == 512 * r.shardPages
      | none => false
     else decide (len ≤ budget))

/-- Whether a list rises or stays. -/
def ascending : List Nat → Bool
  | a :: b :: t => decide (a ≤ b) && ascending (b :: t)
  | _ => true

/-- The manifest of step `n`: its address and entry count, none when it is refused (R384). -/
def readManifest (s : State) (j n : Nat) (m : Mapping) : Option (Nat × Nat) :=
  let stride := 64 * getf m.desc 296 24
  let a := getf m.desc 384 48 + n % getf m.desc 288 8 * stride
  let h := BitVec.ofNat 512 (leAt (s.readMem a 64) 0 64)
  let count := getf h 32 16
  let size := 64 + 32 * count
  let bs := s.readMem a size
  let es := (List.range count).map fun i => BitVec.ofNat 256 (leAt bs (64 + 32 * i) 32)
  let batches := es.map fun e => getf e 136 16
  let budget := getf m.desc 320 32
  if getf h 96 384 != 0 || getf h 16 16 != 0 || getf h 0 16 != 1 || count = 0 || decide (stride < size) || getf h 48 48 != n ||
      s.spanPoisoned a size || !crcHeaderOk (bs.take 64) (bs.drop 64) || !ascending batches ||
      !es.all (maneOk s j budget (getf m.desc 169 16)) ||
      batches.any (fun b => decide (budget <
        ((es.filter fun e => getf e 136 16 == b).map fun e => getf e 184 24).foldl (· + ·) 0)) then none
  else some (a, count)

/-- The manifest of a step looked at (R384): what the hash will cover, MAP_MANIFEST and its count. -/
def checkManifest (s : State) (j n : Nat) : State :=
  match s.mapNow j with
  | none => s
  | some m =>
    if getf m.desc 288 8 = 0 then s
    else
      match readManifest (s.seen .firmware) j n m with
      | some x =>
        (s.setStep j { s.stepOf j with manifest := some x }).firmwareReads x.1 (64 + 32 * x.2)
      | none =>
        (s.withdrawal 0x2601 { domain := 3, clock := clkBand, js := some j, detail := n }).bump ⟨0x9060 + j, 7, 0⟩ 1

/-! ### Prefetch schedules (R203 to R205) -/

/-- A prefetch entry from its 64 bytes (R204). -/
def pfEntryOf (e : BitVec 512) : PfEntry :=
  { srcBase := getf e 464 48, extBase := getf e 416 48, extLimit := getf e 368 48, dstBase := getf e 320 48
    srcStride := getf e 288 32, granules := getf e 276 12, slots := getf e 268 8, count := getf e 244 24
    landCore := getf e 236 8, landSem := getf e 228 8, creditCore := getf e 220 8, creditSem := getf e 212 8 }

/-- B of R204. -/
def PfEntry.bytes (x : PfEntry) : Nat := 256 * x.granules
/-- The source of chunk `n`. -/
def PfEntry.source (x : PfEntry) (n : Nat) : Nat := x.srcBase + n * x.srcStride
/-- The slot of chunk `n`. -/
def PfEntry.slot (x : PfEntry) (n : Nat) : Nat := x.dstBase + n % x.slots * x.bytes
/-- Whether chunk `n` reads within the extent (R206, rule 2). -/
def PfEntry.within (x : PfEntry) (n : Nat) : Bool :=
  decide (x.extBase ≤ x.source n) && decide (x.source n + x.bytes ≤ x.extLimit)

/-- Whether an entry is as R204 and R205 ask. -/
def pfEntryOk (s : State) (j cluster : Nat) (e : BitVec 512) : Bool :=
  let x := pfEntryOf e
  let coreOk := fun q => q / 8 == cluster && s.inMask j q
  getf e 0 212 == 0 && x.srcBase % 64 == 0 && x.extBase % 4096 == 0 && x.extLimit % 4096 == 0 &&
    decide (x.extBase < x.extLimit) && x.dstBase % 256 == 0 && x.srcStride % 64 == 0 && x.granules != 0 && x.slots != 0 &&
    (s.regions.any fun r => r.state == .active && decide (r.tier ≤ 2) && r.js == j && r.read && r.prefetch &&
      r.holds x.extBase (x.extLimit - x.extBase)) &&
    inPool x.dstBase && poolCluster x.dstBase == cluster &&
    (s.regions.any fun r => r.state == .active && r.tier == 1 && r.js == j && r.write && r.holds x.dstBase (x.slots * x.bytes)) &&
    coreOk x.landCore && coreOk x.creditCore

/-- The schedule of a cluster: its ID and its entries, none when it is refused (R205). -/
def readPrefetch (s : State) (j cluster a : Nat) : Nat × Option (List PfEntry) :=
  let h := BitVec.ofNat 512 (leAt (s.readMem a 64) 0 64)
  let n := getf h 16 16
  let size := 64 + 64 * n
  let bs := s.readMem a size
  let es := (List.range n).map fun i => BitVec.ofNat 512 (leAt bs (64 + 64 * i) 64)
  (getf h 32 32,
    if !descriptorAt s j a || n = 0 || decide (1024 < n) || getf h 64 416 != 0 || getf h 0 16 != 1 || !readableBy s j a size ||
        s.spanPoisoned a size || !crcHeaderOk (bs.take 64) (bs.drop 64) || !es.all (pfEntryOk s j cluster) then none
    else some (es.map pfEntryOf))

/-- The schedules of a job stream's clusters read at a step start: walks begin, PREFETCH_SCHEDULE for a refused one
(R205). -/
def startWalks (s : State) (j : Nat) : State :=
  (clustersOf s j).foldl (fun s k =>
    let a := s.val ⟨0x4018 + j, 1, k⟩
    if a = 0 then s
    else
      match readPrefetch (s.seen (.prefetch (Fin.ofNat 32 k))) j k a with
      | (id, some es) =>
        ({ s with walks := s.walks ++ [{ cluster := k, js := j, scheduleId := id, entries := es }] } : State).requestAlone
          (.prefetch (Fin.ofNat 32 k)) (k / 8) a (64 + 64 * es.length) none
      | (id, none) =>
        s.withdrawal 0x2101 { domain := 1, instanceNo := k / 8, clock := clkNoc (k / 8), locKind := 2, location := k
                              js := some j, sourceId := some id, detail := a }) s

/-! ### Dispatch (R79) -/

/-- Whether the dispatcher takes the next trigger of a job stream (R77 to R79, R332). -/
def canDispatch (s : State) (j : Nat) : Bool :=
  s.startsSteps && s.val (keyJsState j) == 1 && s.val (keyTriggers j) != 0 && !s.stepRunning j && s.epochState j == 0

/-- Where the dispatcher's faults are recorded. -/
def dispatchAt (j core row : Nat) : FaultAt :=
  { domain := 1, instanceNo := core / 64, clock := clkNoc (core / 64), js := some j, detail := row }

/-- The step begins: STEPS_STARTED, PENDING_TRIGGERS, a clean withdrawal state, its number and seed, the lock (R79, R396,
R426, R471). -/
def beginStep (s : State) (j programId : Nat) (cores : List Nat) : State :=
  let s := (s.setVal (keyTriggers j) (s.val (keyTriggers j) - 1)).bump (keyStarted j) 1
  let s := (s.setVal (keyWithdrawn j) 0).setVal (keyFirstFault j) 0
  let replay := s.val (replayKey j) == 1
  let r := ((s.replays.find? (·.1 == j)).map (·.2)).getD 0
  let old := s.stepOf j
  let st : StepInfo :=
    { cores := cores, programId := programId
      number := if replay then getf r 144 48 else s.val (keyStarted j)
      seed := if replay then getf r 192 64 else s.val (numKey j 1 0)
      epoch := s.val (keyEpoch j), moduleId := s.moduleId, deterministic := s.deterministic j, replay := replay
      records := old.records, waitingRecords := old.waitingRecords }
  let s := if replay then s.setVal (replayKey j) 2 else s
  startPhases ((s.setStep j st).lockStream j) j

/-- A listed core loads and starts, or acts as if it had executed END: disabled (R437), or its stream fails (R79, row 3). -/
def startListed (j n : Nat) (s : State) (e : DirEntry) : State :=
  let r := loadStream s e
  if !(r.1.val ⟨0x5001, 1, 0⟩).testBit e.core then
    -- disabled: FUNCTION_DISABLED at once, once for the job stream
    if r.1.val (keyFirstFault j) = 0x2801 then r.1 else r.1.coreFault 0x2801 e.core 15 0xFFF 0
  else if r.2 then startCore r.1 j e.core n
  else r.1.withdrawal 0x200C { dispatchAt j e.core 3 with locKind := 1, location := e.core + 15 * 2 ^ 8 + 0xFFF * 2 ^ 12 }

/-- STEP_DISPATCH (R79): a refused directory takes the trigger and starts no step (log entry 12); else the step starts. -/
def execStepDispatch (j : JsId) (s : State) : Host.Outcome State Fault Refusal :=
  let n := j.val
  if !canDispatch s n then .next s
  else
    let d := readDirectory (s.seen (dispatcher 0)) n
    let s := readsDirectory s n
    match d with
    | none => .next ((s.setVal (keyTriggers n) (s.val (keyTriggers n) - 1)).withdrawal 0x200C (dispatchAt n 0 2))
    | some (id, es) =>
      let s := beginStep s n id (es.map (·.core))
      let s := checkManifest (startWalks s n) n (s.stepOf n).number
      .next (es.foldl (startListed n (s.stepOf n).number) s)

/-- DISPATCH_TIMEOUT: row 2, 3 or 4 of R79 misses its bound; of the listed cores only those in `started` run (row 4). -/
def execDispatchTimeout (j : JsId) (row : Nat) (started : List CoreId) (s : State) : Host.Outcome State Fault Refusal :=
  let n := j.val
  if !canDispatch s n || row < 2 || 4 < row then .next s
  else
    match (if row = 2 then some (0, []) else readDirectory (s.seen (dispatcher 0)) n) with
    | none => .next s
    | some (id, es) =>
      let s := readsDirectory s n
      let s := beginStep s n id (es.map (·.core))
      let s := if row = 4 then checkManifest (startWalks s n) n (s.stepOf n).number else s
      let run := if row = 4 then es.filter fun e => started.any (·.val == e.core) else []
      let s := run.foldl (startListed n (s.stepOf n).number) s
      .next (s.withdrawal 0x200C (dispatchAt n 0 row))

/-! ### Prefetch walks (R206, R207) -/

/-- Whether a walk has done anything yet. -/
def PfWalk.begun (w : PfWalk) : Bool := w.entry != 0 || w.chunk != 0 || w.credited

/-- Whether a walk of an engine may go on: a new one starts only once the chunks of ended ones have landed (R207). -/
def State.walkRuns (s : State) (w : PfWalk) : Bool :=
  !w.stopped && (w.begun || !s.walks.any fun v => v.cluster == w.cluster && v.stopped)

/-- The walk that an engine runs for a job stream. -/
def State.walkOf (s : State) (k j : Nat) : Option PfWalk :=
  s.walks.find? fun w => w.cluster == k && w.js == j && s.walkRuns w

/-- The running walk of an engine for a job stream replaced. -/
def State.setWalk (s : State) (x : PfWalk) : State :=
  { s with walks := s.walks.map fun w => if w.cluster = x.cluster && w.js = x.js && !w.stopped then x else w }

/-- The walk at the next chunk of its entry, or at the next entry (R206, rule 1). -/
def PfWalk.next (w : PfWalk) (e : PfEntry) : PfWalk :=
  if e.count = w.chunk + 1 then { w with entry := w.entry + 1, chunk := 0, credited := false }
  else { w with chunk := w.chunk + 1, credited := false }

/-- Whether a walk's next chunk can go: it is dropped, lies in the first ring, or has its credit (R206, rules 2 and 3). -/
def PfWalk.ready (w : PfWalk) : Bool :=
  match w.entries[w.entry]? with
  | some e => !e.within w.chunk || decide (w.chunk < e.slots) || w.credited
  | none => false

/-- Whether it is a job stream's turn at an engine: among the walks that can go on, the one served longest ago stands first
(R206). -/
def State.walkTurn (s : State) (k j : Nat) : Bool :=
  match s.walks.find? fun w => w.cluster == k && s.walkRuns w && w.ready with
  | some w => w.js == j
  | none => false

/-- The running walk of an engine for a job stream has been served: it goes behind the engine's others. -/
def State.servedWalk (s : State) (x : PfWalk) : State :=
  { s with walks := (s.walks.filter fun w => !(w.cluster == x.cluster && w.js == x.js && !w.stopped)) ++ [x] }

/-- PF_CREDIT_TAKE (R206, rule 3): without a credit the engine waits, for a free number of cycles (log entry 19). -/
def execPfCreditTake (k : ClusterId) (j : JsId) (s : State) : Host.Outcome State Fault Refusal :=
  match s.walkOf k.val j.val with
  | none => .next s
  | some w =>
    match w.entries[w.entry]? with
    | none => .next s
    | some e =>
      if !e.within w.chunk || w.chunk < e.slots || w.credited then .next s
      else
        let c := s.core e.creditCore
        let v := (c.sem e.creditSem).toNat
        if v = 0 then
          let f := s.free 32
          .next (f.2.bump (pfKey 6 k.val) (f.1 + 1))
        else
          .next ((s.setCore e.creditCore (c.setSem e.creditSem (BitVec.ofNat 32 (v - 1)))).setWalk { w with credited := true })

/-- Poisoned atoms of a span, counted from its first (R219). -/
def badAtomsOf (s : State) (a n : Nat) : List Nat := (List.range (n / 64)).filter fun i => s.atomPoisoned (a / 64 + i)

/-- The chunk of a walk that is issued under a token: what is read is what memory holds now (R206, R211). -/
def issuedChunk (m : State) (w : PfWalk) (e : PfEntry) (token : Nat) : PfChunk :=
  let a := e.source w.chunk
  { entry := w.entry, n := w.chunk, token := token, addr := a, data := m.readMem a e.bytes, bad := badAtomsOf m a e.bytes }

/-- PF_CHUNK_ISSUE (R206, rules 2 and 4). -/
def execPfChunkIssue (k : ClusterId) (j : JsId) (s : State) : Host.Outcome State Fault Refusal :=
  match s.walkOf k.val j.val with
  | none => .next s
  | some w =>
    match w.entries[w.entry]? with
    | none => .next s
    | some e =>
      if !w.ready || !s.walkTurn k.val j.val then .next s
      else if !e.within w.chunk then
        .next ((s.servedWalk { w with entry := w.entry + 1, chunk := 0, credited := false }).bump (pfKey 4 k.val) 1)
      else
        let x := issuedChunk (s.seen (.prefetch k)) w e s.nextToken
        .next ((s.requestAlone (.prefetch k) (k.val / 8) x.addr e.bytes none).servedWalk
          ({ w with inFlight := w.inFlight ++ [x] }.next e))

/-- A chunk stands in its slot, poison with it (R219): landed slots it overwrites unread are unused (R207). -/
def landChunk (s : State) (w : PfWalk) (e : PfEntry) (x : PfChunk) : State :=
  let d := e.slot x.n
  let n := x.data.length
  let s := x.bad.foldl (fun s i => s.poisonAtom (d / 64 + i)) (s.writeMem d x.data)
  let s := s.bump (pfKey 1 w.cluster) 1
  let hit := fun (u : Nat × Nat × DWord) => spansMeet u.1 u.2.1 d n
  let lost := (s.walks.flatMap fun w => w.unread.filter hit).length
  let s := { s with walks := s.walks.map fun w => { w with unread := w.unread.filter fun u => !hit u } }
  if lost = 0 then s else s.bump (pfKey 3 w.cluster) lost

/-- The chunk of a walk that lands next: all read, and the first of its entry (R206, rule 5). -/
def landable (s : State) (w : PfWalk) : Option PfChunk :=
  w.inFlight.find? fun x => !s.tokenBusy x.token && (w.inFlight.find? (·.entry == x.entry)) == some x

/-- PF_CHUNK_LAND: a chunk becomes visible; it signals unless its walk has ended (R206, rule 5, R207). -/
def execPfChunkLand (k : ClusterId) (j : JsId) (s : State) : Host.Outcome State Fault Refusal :=
  match s.walks.find? fun w => w.cluster == k.val && w.js == j.val && !w.inFlight.isEmpty with
  | none => .next s
  | some w =>
    match landable s w with
    | none => .next s
    | some x =>
      match w.entries[x.entry]? with
      | none => .next s
      | some e =>
        let here := fun (v : PfWalk) => v.cluster == k.val && v.js == j.val && v.stopped == w.stopped
        let s := landChunk s w e x
        let drop := fun (v : PfWalk) => if here v then { v with inFlight := removeFirst (· == x) v.inFlight } else v
        let gone := { s with walks := s.walks.map drop }
        if w.stopped then
          .next ({ gone with walks := gone.walks.filter fun v => !(v.stopped && v.inFlight.isEmpty) }.bump (pfKey 3 k.val) 1)
        else
          let now := s.clock (clkNoc (k.val / 8))
          let keep := fun (v : PfWalk) => if here v then { v with unread := v.unread ++ [(e.slot x.n, x.data.length, now)] } else v
          let s := { gone with walks := gone.walks.map keep }
          let s := s.setCore e.landCore { s.core e.landCore with hung := false }
          .next (s.semAdd e.landCore e.landSem 1)

/-- Chunks of an entry from `n` on that lie in its extent, none where they never end (R206, R207). -/
def chunksLeft (e : PfEntry) (n : Nat) : Option Nat :=
  if !e.within n then some 0
  else if e.srcStride = 0 then (if e.count = 0 then none else some (e.count - n))
  else
    let fit := (e.extLimit - e.bytes - e.source n) / e.srcStride + 1
    some (if e.count = 0 then fit else min fit (e.count - n))

/-- A walk ends with its step (R207): chunks not issued are abandoned, landed ones that nothing read are unused. The count
of an endless entry is free (log entry 2). -/
def stopWalk (s : State) (w : PfWalk) : State :=
  let lefts := (List.range (w.entries.length - w.entry)).map fun i =>
    match w.entries[w.entry + i]? with
    | some e => chunksLeft e (if i = 0 then w.chunk else 0)
    | none => some 0
  let n := (lefts.map fun x => x.getD 0).foldl (· + ·) 0
  let f := s.free 48
  let s := if lefts.contains none then f.2.bump (pfKey 5 w.cluster) (n + f.1) else if n = 0 then s else s.bump (pfKey 5 w.cluster) n
  if w.unread.isEmpty then s else s.bump (pfKey 3 w.cluster) w.unread.length

/-- Every walk of a job stream ends (R207). -/
def stopWalks (s : State) (j : Nat) : State :=
  let mine := s.walks.filter fun w => w.js == j && !w.stopped
  let s := mine.foldl stopWalk s
  { s with walks := (s.walks.map fun w => if w.js = j then { w with stopped := true, unread := [] } else w).filter fun w =>
      !(w.stopped && w.inFlight.isEmpty) }

/-! ### The end of a step (R78) -/

/-- Whether a core has ended its step: END executed, queues empty, nothing in flight (R78). -/
def coreEnded (k : Core) : Bool :=
  !k.ctl.running && (List.range 7).all fun st => (k.queue st).isEmpty && (k.flight st).isEmpty

/-- Unread summaries discarded, each counted and with a note (R126, R137). -/
def discardSummaries (s : State) (c : Nat) : State :=
  let k := s.core c
  let s' := s.setCore c { k with summaries := [] }
  k.summaries.foldl (fun s e => (s.bump ⟨0x8011, 6, c⟩ 1).note 0x1001 (coreFaultAt s c 15 0xFFF e.tag.toNat)) s'

/-- Rounds of the collectives and rings that the step used (R316, R342). -/
def countRounds (s : State) (j : Nat) : State :=
  let withdrawn := s.val (keyWithdrawn j) == 1
  (s.stepOf j).roundsUsed.foldl (fun s u =>
    let key := fun which => if u.1 = 0 then collCounter u.2 which else ringCounter u.2 which
    let s := s.bump (key 0) 1
    if withdrawn then s.bump (key 1) 1 else s) s

/-- When a withdrawn step ends: WITHDRAW for every use sourced here that is ACTIVE with tiles never offered (R427). -/
def withdrawSweep (s : State) (j : Nat) : State :=
  if s.val (keyWithdrawn j) != 1 then s
  else
    (activeSources s j).foldl (fun s t =>
      let x := s.idState j t.id
      if (List.range t.tiles).all fun i => x.offered.contains i then s
      else (s.retire j t.id false).sendWithdraw t x.gen) s

/-- The record of the step without its hash (R395). -/
def stepRecord (s : State) (j : Nat) : BitVec 512 :=
  let st := s.stepOf j
  let b := fun (x : Bool) => if x then 1 else 0
  let r := setf (setf (0 : BitVec 512) 192 64 st.seed) 144 48 st.number
  let r := setf (setf (setf r 112 32 st.epoch) 80 32 st.programId) 64 16 (s.val (keyFirstFault j))
  let r := setf (setf (setf r 48 16 st.moduleId) 47 1 (s.val (keyWithdrawn j))) 46 1 (b st.deterministic)
  setf (setf (setf r 45 1 (b st.timingDependent)) 44 1 (b st.replay)) 43 1 (b st.manifest.isSome)

/-- STEP_END (R78): the record is ready to be written once its hash is (R395). -/
def execStepEnd (j : JsId) (s : State) : Host.Outcome State Fault Refusal :=
  let n := j.val
  if !s.startsSteps || !s.stepRunning n || !(s.stepOf n).cores.all (fun c => coreEnded (s.core c)) then .next s
  else
    let s := (s.stepOf n).cores.foldl discardSummaries s
    let s := stopWalks (countRounds s n) n
    let r := stepRecord s n
    let st := s.stepOf n
    let s := s.setStep n { st with waitingRecords := st.waitingRecords ++ [(r, st.manifest)] }
    .next (withdrawSweep (s.bump (keyEnded n) 1) n)

/-! ### Step records (R395, R396) -/

/-- What the hash of a manifest covers: every entry, followed by its tokens. -/
def hashInput (s : State) (a count : Nat) : List Byte :=
  (List.range count).flatMap fun i =>
    let m := s.seen .firmware
    let e := m.readMem (a + 64 + 32 * i) 32
    let b := BitVec.ofNat 256 (leAt e 0 32)
    e ++ m.readMem (getf b 208 48) (4 * getf b 184 24)

/-- A record appended to STEP_LOG, which keeps the last 16 (R395). -/
def appendRecord (s : State) (j : Nat) (r : BitVec 512) : State :=
  let st := s.stepOf j
  let row := fun i => (⟨0x9060 + j, 6, i⟩ : Key)
  if st.records < 16 then (s.setVal (row st.records) r.toNat).setStep j { st with records := st.records + 1 }
  else (List.range 16).foldl (fun s' i => s'.setVal (row i) (if i = 15 then r.toNat else s.val (row (i + 1)))) s

/-- The end of a replay (R396). -/
def endReplay (s : State) (j : Nat) (r : BitVec 512) : State :=
  let armed := ((s.replays.find? (·.1 == j)).map (·.2)).getD 0
  let s := { s with replays := s.replays.filter fun (x : Nat × BitVec 512) => x.1 != j }
  if bitf r 43 && bitf armed 43 && getf r 256 256 == getf armed 256 256 then s.setVal (replayKey j) 3
  else (s.setVal (replayKey j) 4).note 0x1603 { js := some j, detail := getf armed 144 48 }

/-- STEP_RECORD_WRITE: the oldest record that waits is written with its hash (R395, R396). -/
def execStepRecordWrite (j : JsId) (s : State) : Host.Outcome State Fault Refusal :=
  let n := j.val
  let st := s.stepOf n
  match st.waitingRecords with
  | [] => .next s
  | (r, m) :: rest =>
    let r := match m with
      | some (a, count) => setf r 256 256 (leNat (shake256 32 (hashInput s a count)))
      | none => r
    let s := appendRecord (s.setStep n { st with waitingRecords := rest }) n r
    .next (if bitf r 44 then endReplay s n r else s)

/-! ### SIG.ROUTESWAP (R385, R386) -/

/-- SIG.ROUTESWAP's own part. -/
def sigRouteswapIssue (c : Nat) (s : State) (i : StationInsn) (token : Nat) : Issue :=
  let target := iField i.w0 0 32
  match s.jsOfCore c with
  | none => withdrawnIssue s c 6 i token 0x2602 0xFFF target
  | some j =>
    match swapOutcome s j target with
    | .fault => withdrawnIssue s c 6 i token 0x2602 0xFFF target
    | .noop => plainIssue i token none s
    | .wait => .stall
    | .swap => plainIssue i token none s.swapRoutes

/-- SIG.ROUTESWAP. -/
def execSigRouteswap (c : CoreId) (s : State) : Host.Outcome State Fault Refusal :=
  .next (issueStation s c.val 6 0x33 (sigRouteswapIssue c.val))

/-! ### SEM_SET (R244) -/

/-- SEM_SET's own part. -/
def semSetBody (data : List Byte) (s : State) : SetResult :=
  let c := leAt data 0 1
  let sem := leAt data 1 1
  if data.length != 12 then .refuse stType 0
  else if leAt data 2 2 != 0 then .refuse stRange 0
  else
    match s.jsOfCore c with
    | none => .refuse stState 0
    | some j =>
      let k := s.core c
      if (k.sem sem).toNat != leAt data 4 4 then .refuse stState 0
      else
        let s := s.setCore c (k.setSem sem (BitVec.ofNat 32 (leAt data 8 4)))
        .ok ((s.coreFault 0x2204 c 15 0xFFF sem).bump (syncKey 8 j) 1)

/-- SEM_SET (R244). -/
def execSemSet (rq : Rq) (data : List Byte) (s : State) : Host.Outcome State Fault Refusal :=
  .next (s.dictSet rq 0xA010 3 (semSetBody data))

end Sys2Proof.Machine
end

