-- ==== Sys2Proof/Machine/Doff.lean ====
section
/-! DEFINITION. The doffed state (R431 to R435) and its causes: clocks, watchdogs, regulators, the thermal trip (R420), lining
alarms (R464) and the reserve (R219); and what reads and scrubs find in memory (R218 to R221, R529). -/
namespace Sys2Proof.Machine

/-! ### The sequence of R432 -/

/-- A core whose queues and instructions in flight are abandoned (R432, R525). -/
def stripCore (k : Core) : Core :=
  { k with queues := [], flights := [], watches := [], ctl := { k.ctl with running := false } }

/-- Work in flight is abandoned, never completed: queues, instructions, requests, walks, packets, transfers and host commands
(R432, R509). -/
def State.abandonWork (s : State) : State :=
  { s with
    cores := s.cores.foldl (fun m e => mapSet {} m e.1 (stripCore e.2)) []
    increments := [], hbm := [], hbmWaiting := [], walks := [], codec := [], laneHolds := [], held := [], heldWaiting := []
    toSwitch := [], arrived := [], handed := [], landings := [], seenUses := [], ids := []
    links := s.links.foldl (fun m e => mapSet {} m e.1 { e.2 with queue := [], stream := [], heads := [], blocks := [] }) []
    queues := s.queues.foldl (fun m e => mapSet {} m e.1 { e.2 with avail := [], active := [] }) [] }

/-- Ports that send WITHDRAWN and IDLE bolts in a doff: UP, DRAINING or LOST (R432). -/
def doffPorts (s : State) : List Nat :=
  (List.range 32).filter fun p => s.portState p == 6 || s.portState p == 7 || s.portState p == 8

/-- Domains that a doff leaves as they are: 68, 70, 71 and FAILED ones (R40, R432). -/
def keptDomain (s : State) (d : Nat) : Bool := d == 68 || d == 70 || d == 71 || s.domain d == 4

/-- The SRAM of cores and pools lost; HBM kept in self-refresh (R38, R432). -/
def State.loseSram (s : State) : State := { s with cores := [] }.clearMem poolBase poolSpan

/-- Step 5 of R432: lanes stopped, laser inputs gated, every other domain OFF, stacks in self-refresh unless FAILED, state Doffed;
the replay regions of the ports go with them (R264). -/
def State.doffEnd (s : State) : State :=
  let s := (List.range 32).foldl (fun s p => ((s.clearSession p 0 0).removeReplay p).setPortState p 0) s
  let s := (List.range 72).foldl (fun s d => if keptDomain s d then s else s.setDomain d 0) s
  let s := (List.range 32).foldl (fun s k => if s.val (stackKey k 1) = 3 then s else s.setVal (stackKey k 1) 0) s
  { s.loseSram with doffStep := 5, lifeShown := 6 }

/-- A doff overrides every drain (R437): what was DRAINING is disabled. -/
def State.endDrains (s : State) : State :=
  let s := (List.range 4).foldl (fun s j => if s.val (keyJsState j) = 2 then s.setVal (keyJsState j) 0 else s) s
  s.setVal ⟨0x5001, 2, 0⟩ 0

/-- Whether a doff's causes count: power is on and the management controller is not held in reset. -/
def State.canDoff (s : State) : Bool := s.lifecycle != 0 && !s.mrstLow

/-- Steps 1 to 3 of R432 for a record, without the bolts of steps 3 and 4 after a trip. From here on the life-cycle state counts
as Doffed (R433); LIFECYCLE_STATE shows it from step 5. -/
def State.startDoff (s : State) (code : Nat) (r : BitVec 512) : State :=
  let s := s.setVal ⟨0x7000, 7, 0⟩ r.toNat
  let ports := doffPorts s
  let s := { s.abandonWork.endDrains with lifeShown := s.lifecycle, busMaster := false, doffStep := 3, doffNow := true }.setVal
    ⟨0x1000, 7, 0⟩ 6
  if s.thermTrip then s.doffEnd else ports.foldl (fun s p => s.emit (.withdrawnBolts p (withdrawnBytes s p code))) s

/-- A doff's cause (R431, R432): on top of a doff under way it is recorded and changes nothing more. -/
def State.doff (s : State) (code : Nat) (a : FaultAt) : State :=
  if !s.canDoff then s
  else
    let r := faultRecord s code a false
    let s := s.logRecord r
    if s.doffStep != 0 then s else s.startDoff code r

/-- DOFF_WITHDRAWN_END: IDLE bolts follow (R432, step 4). -/
def execDoffWithdrawnEnd (s : State) : Host.Outcome State Fault Refusal :=
  if s.doffStep != 3 then .next s
  else .next ((doffPorts s).foldl (fun s p => s.emit (.idleBolts p (idleBolt s p))) { s with doffStep := 4 })

/-- DOFF_IDLE_END: step 5 of R432. -/
def execDoffIdleEnd (s : State) : Host.Outcome State Fault Refusal :=
  if s.doffStep != 4 then .next s else .next s.doffEnd

/-! ### Causes -/

/-- The management controller stops where a doff's cause puts it in doubt (R431, R434). -/
def State.doubt (s : State) (b : Bool) : State := if b && s.doffStep != 0 then { s with inDoubt := true } else s

/-- Where a clock domain's faults are recorded (R441). -/
def domainAt : ClockDomain → FaultAt
  | .core c => { domain := 0, instanceNo := c.val, clock := clkCore c.val }
  | .noc c => { domain := 1, instanceNo := c.val, clock := clkNoc c.val }
  | .hbm p => { domain := 2, instanceNo := p.val, clock := clkHbm p.val }
  | .band => { domain := 3, clock := clkBand }
  | .pcie => { domain := 4, clock := clkPcie }
  | .mgmt => {}

/-- CLOCK_LOSS (R431). -/
def execClockLoss (d : ClockDomain) (s : State) : Host.Outcome State Fault Refusal :=
  .next ((s.doff 0x3801 (domainAt d)).doubt (d == .mgmt && s.doffStep == 0))

/-- WATCHDOG: the band firmware watchdog expires (R431). -/
def execWatchdog (s : State) : Host.Outcome State Fault Refusal :=
  .next (s.doff 0x3802 { domain := 3, clock := clkBand })

/-- MGMT_WATCHDOG (R431, R434). -/
def execMgmtWatchdog (s : State) : Host.Outcome State Fault Refusal :=
  .next ((s.doff 0x3803 {}).doubt (s.doffStep == 0))

/-- A domain whose regulator has failed reads FAILED, and so do the stacks of a PHY pair (R40, R221). -/
def State.failDomain (s : State) (d : Nat) : State :=
  let s := s.setDomain d 4
  if d < 64 && 8 ≤ d % 16 && d % 16 < 12 then
    let k := 8 * (d / 16) + 2 * (d % 16 - 8)
    (s.setVal (stackKey k 1) 3).setVal (stackKey (k + 1) 1) 3
  else s

/-- REG_FAULT: a domain's regulator fails; the domain reads FAILED (R40, R417, R431). -/
def execRegFault (d : DomainId) (s : State) : Host.Outcome State Fault Refusal :=
  if !s.canDoff then .next s
  else
    let s1 := if s.doffStep = 0 then s.failDomain d.val else s
    .next ((s1.doff 0x3702 { locKind := 5, location := d.val }).doubt (d.val == 70 && s.doffStep == 0))

/-- A sensor's code in `FREC.LOCATION` kind 6 (R442). -/
def sensorCode (sn : Sensor) : Nat :=
  256 * (match sn.kind with | .crown => 0 | .band => 1 | .stack => 2 | .engine => 3) + sn.number.toNat

/-- A record with another `FREC.SEQUENCE`. -/
def withSequence (r : BitVec 512) (n : Nat) : BitVec 512 := setf r 96 32 n

/-- A trip found in the window of another cause is recorded before that cause (R420, R431): it takes its place and number, and
the records from there on move back by one. -/
def State.tripFirst (s : State) (a : FaultAt) : State :=
  let first := BitVec.ofNat 512 (s.val ⟨0x7000, 7, 0⟩)
  let n := getf first 96 32
  let r := withSequence (faultRecord s 0x3703 a false) n
  let later := fun (x : BitVec 512) => decide (n ≤ getf x 96 32)
  let log := (s.faultLog.filter fun x => !later x) ++ [r] ++
    (s.faultLog.filter later).map fun x => withSequence x (getf x 96 32 + 1)
  let s := (s.bump ⟨0x7000, 2, 0⟩ 1).setVal ⟨0x7000, 7, 0⟩ r.toNat
  if log.length ≤ 1024 then { s with faultLog := log, frecSeq := s.frecSeq + 1 }
  else { s.bump ⟨0x7000, 3, 0⟩ 1 with faultLog := log.drop 1, frecSeq := s.frecSeq + 1 }

/-- THERM_TRIP: the comparator, powered while the rails are up, asserts THERMTRIP_N and gates the laser inputs (R420, R515), and
the module doffs; a trip in the window of another cause is handled as the trip; a later one is recorded only (R431). -/
def execThermTrip (sn : Sensor) (s : State) : Host.Outcome State Fault Refusal :=
  let a : FaultAt := { locKind := 6, location := sensorCode sn }
  if s.lifecycle = 0 then .next s
  else if s.mrstLow then .next { s with thermTrip := true }
  else if s.doffStep = 0 then .next ({ s with thermTrip := true }.doff 0x3703 a)
  else if s.doffNow && !s.thermTrip then .next ({ s with thermTrip := true }.tripFirst a).doffEnd
  else .next (s.doff 0x3703 a)

/-- LINING_STATE (R466). -/
def liningKey : Key := ⟨0x6000, 1, 0⟩

/-- ALARM_CAUSE of an alarm (R466). -/
def alarmCode : AlarmCause → Nat
  | .selfTest => 1
  | .entropy => 2
  | .monitor => 3
  | .keyStorage => 4
  | .tamper => 5

/-- Every volatile key of R463 zeroised: session secrets and link keys of every port, and the DRBG's state. -/
def State.zeroiseVolatile (s : State) : State :=
  { s with drbg := none, links := s.links.foldl (fun m e => mapSet {} m e.1 { e.2 with keys := {} }) [] }

/-- LINING_ALARM: volatile keys zeroised, the cause recorded, the module doffs (R464); on top of a doff it is recorded only
(R431). -/
def execLiningAlarm (cause : AlarmCause) (s : State) : Host.Outcome State Fault Refusal :=
  if !s.canDoff then .next s
  else
    let s := if s.doffStep = 0 then (s.zeroiseVolatile.setVal liningKey 4).setVal ⟨0x6000, 0x16, 0⟩ (alarmCode cause) else s
    .next (s.doff 0x3804 {})

/-! ### What reads and scrubs find (R218 to R221) -/

/-- A corrected word (R218, R221). -/
def State.foundCorrected (s : State) (a : Nat) : State :=
  let s := if inHbm a then s.bump (stackKey (hbmPlace a).stack 2) 1 else s
  s.note 0x1101 (memFaultAt a)

/-- An uncorrectable atom: found once, poisoned; in the reserve it doffs the module (R219). -/
def State.foundUncorrectable (s : State) (a : Nat) : State :=
  if s.atomPoisoned (a / 64) then s
  else
    let s := s.poisonAtom (a / 64)
    let s := if inHbm a then (s.bump (stackKey (hbmPlace a).stack 3) 1).bump (stackKey (hbmPlace a).stack 4) 1 else s
    if inReserve a then s.doff 0x3101 (memFaultAt a) else s.note 0x1102 (memFaultAt a)

/-- What the code finds at a read of a word. -/
def State.foundError (s : State) (a : Nat) : EccResult → State
  | .clean => s
  | .corrected => s.foundCorrected a
  | .uncorrectable => s.foundUncorrectable a

/-- What read an uncorrectable atom receives poison: the tiles of a LOAD or RECV, which take the RAW zero form of R73
(R219; DESIGN CHOICE, log entry 52), and the atom of a prefetched chunk. -/
def State.poisonReader (s : State) (q : HbmReq) (atom : Nat) : State :=
  match q.who with
  | .core c =>
    let k := s.core c.val
    let fix := fun st (f : InFlight) =>
      if f.token = q.token then { f with outs := f.outs.map fun o => { o with tile := poisonTile s c.val st o.handle 0 0 } } else f
    s.setCore c.val { k with flights := k.flights.map fun e => (e.1, e.2.map (fix e.1)) }
  | .prefetch _ =>
    let fix := fun (x : PfChunk) => if x.token = q.token then { x with bad := x.bad ++ [atom - x.addr / 64] } else x
    { s with walks := s.walks.map fun w => { w with inFlight := w.inFlight.map fix } }
  | _ => s

/-- Atoms that a request touches. -/
def atomsOf (q : HbmReq) : Nat := (q.addr + q.bytes - 1) / 64 - q.addr / 64 + 1

/-- Atoms that a request reads: all those that a read touches, and those that a write covers in part, whose other bytes it
merges (R195). -/
def readAtoms (q : HbmReq) : List Nat :=
  ((List.range (atomsOf q)).map (q.addr / 64 + ·)).filter fun a =>
    !q.write || !(decide (q.addr ≤ 64 * a) && decide (64 * a + 64 ≤ q.addr + q.bytes))

/-- Rows opened and entries chosen by age at a stack, both free amounts (R211, R221, log entry 13). -/
def State.countRows (s : State) (a : Nat) : State :=
  let k := (hbmPlace a).stack
  (s.countCycles (stackKey k 8) (inHbm a)).countCycles (stackKey k 0x0A) (inHbm a)

/-- A counter of a stack raised where the address lies in HBM (R221). -/
def State.countStack (s : State) (sub a n : Nat) : State := if inHbm a && n != 0 then s.bump (stackKey (hbmPlace a).stack sub) n else s

/-- What the code finds in an atom that a request reads; its reader is told (R218, R219). -/
def findInRequest (q : HbmReq) (s : State) (e : Nat × EccResult) : State :=
  let s := s.foundError (64 * e.1) e.2
  if e.2 = .uncorrectable then s.poisonReader q e.1 else s

/-- Whether a request would pass an earlier one to a byte that one of the two writes (R211). -/
def passesEarlier (s : State) (q : HbmReq) : Bool :=
  (s.hbm.takeWhile (· != q)).any fun x => (x.write || q.write) && spansMeet x.addr x.bytes q.addr q.bytes

/-- Atoms of one stack (R190, R191). -/
def stackAtoms : Nat := crownSpan / 8 / 64

/-- An atom that the patrol has read; a pass of its stack ends with the last atom (R220, R221). -/
def State.patrolRead (s : State) (q : HbmReq) : State :=
  let k := (hbmPlace q.addr).stack
  let mine := fun (a : Nat) => (hbmPlace (64 * a)).stack == k
  let seen := if s.patrolled.contains (q.addr / 64) then s.patrolled else s.patrolled ++ [q.addr / 64]
  if seen.countP mine = stackAtoms then { s with patrolled := seen.filter fun a => !mine a }.bump (stackKey k 5) 1
  else { s with patrolled := seen }

/-- HBM_REQUEST_DONE: the `n`-th request of a requester is done, unless it would pass an earlier one. Its slot is freed, what it
writes is visible, atoms are counted, and the atoms that it reads are found as `errs` says, by number from its first (R194,
R209 to R211, R218 to R221). -/
def execHbmRequestDone (r : HbmRequester) (n : Nat) (errs : List (Nat × EccResult)) (s : State) :
    Host.Outcome State Fault Refusal :=
  match takeNth (fun (q : HbmReq) => q.who == r) s.hbm n with
  | none => .next s
  | some (q, rest) =>
    if passesEarlier s q then .next s
    else
      let s := (s.seatRequests rest s.hbmWaiting).countRows q.addr
      let reads := readAtoms q
      let s := (s.countStack 6 q.addr reads.length).countStack 7 q.addr (if q.write then atomsOf q else 0)
      let s := ((errs.map fun e => (q.addr / 64 + e.1, e.2)).filter fun e => reads.contains e.1).foldl (findInRequest q) s
      let s := if q.write then s.writeMem q.addr q.data else s
      .next (if r = .firmware && q.token = 0 then s.patrolRead q else s)

/-- PATROL_SCRUB: the firmware's requester presents the read of an atom of an ON stack, by its place there, that the running pass
has not read (R192, R209, R220); token 0 marks the patrol's requests. -/
def execPatrolScrub (k : StackId) (pseudo : Fin 32) (row : Fin 49152) (cell : Fin 256) (s : State) : Host.Outcome State Fault Refusal :=
  let a := hbmAddress k.val pseudo.val row.val cell.val
  let asked := (s.hbm ++ s.hbmWaiting).any fun q => q.who == .firmware && q.token == 0 && q.addr == a
  if s.val (stackKey k.val 1) != 2 || s.lifecycle = 6 || asked || s.patrolled.contains (a / 64) then .next s
  else .next (s.request .firmware 4 0 a 64 none)

end Sys2Proof.Machine
end

