-- ==== Sys2Proof/Machine/HostPort.lean ====
section
/-! DEFINITION. The host interface (R492 to R509): queue pairs and their commands, doorbells, interrupts, the window, BAR0
registers, and the resets of the interface alone. -/
namespace Sys2Proof.Machine

/-! ### When the interface answers -/

/-- Whether the BARs respond: link up, not D3hot (R508), the module powered. -/
def State.barsRespond (s : State) : Bool := s.linkUp && !s.d3hot && decide (1 ≤ s.lifecycle) && !s.mrstLow

/-- Whether a BAR write has an effect: the module is not doffed (R433). -/
def State.hostWrites (s : State) : Bool := s.barsRespond && s.lifecycle != 6

/-- READY of HOST_STATUS (R495, R509). -/
def State.hostReady (s : State) : Bool := s.barsRespond && decide (3 ≤ s.lifecycle) && decide (s.lifecycle ≤ 5)

/-- What the host has posted to BAR2 becomes visible (R194, R506); the requests hold their slots until they are done. -/
def State.landPosted (s : State) : State :=
  let posted := fun (q : HbmReq) => q.who == .pcie && q.write
  let done := fun (q : HbmReq) => if posted q then { q with data := [] } else q
  let t := ((s.hbm ++ s.hbmWaiting).filter posted).foldl (fun s q => s.writeMem q.addr q.data) s
  { t with hbm := t.hbm.map done, hbmWaiting := t.hbmWaiting.map done }

/-! ### Queues (R497 to R499) -/

/-- A queue pair. -/
def State.hostQueue (s : State) (q : Nat) : HostQueue := mapGet {} s.queues q
/-- A queue pair replaced. -/
def State.setHostQueue (s : State) (q : Nat) (x : HostQueue) : State := { s with queues := mapSet {} s.queues q x }

/-- The job stream of a queue. -/
def HostQueue.js (x : HostQueue) : Nat := getf x.cfg 29 2
/-- The MSI-X vector of a queue's CQ. -/
def HostQueue.vector (x : HostQueue) : Nat := getf x.cfg 21 8
/-- Entries of the SQ. -/
def HostQueue.sqSize (x : HostQueue) : Nat := 2 ^ getf x.cfg 17 4
/-- Entries of the CQ. -/
def HostQueue.cqSize (x : HostQueue) : Nat := 2 ^ getf x.cfg 13 4
/-- Whether the CQ has room for one more entry (R502). -/
def HostQueue.cqRoom (x : HostQueue) : Bool := (x.cqTail + 1) % x.cqSize != x.cqHead

/-- A queue enters ERROR (R498, R499). -/
def State.queueError (s : State) (q code : Nat) : State :=
  (s.setHostQueue q { s.hostQueue q with state := 3, error := code }).event 2

/-- A CQ entry was written with a vector (R504): a message, or the next one covers it. -/
def State.queueVector (s : State) (v : Nat) : State :=
  if v = 0 || s.msixPending.contains v then s
  else if s.msixBusy.contains v then
    (if s.msixOwed.contains v then s else { s with msixOwed := s.msixOwed ++ [v] })
  else
    let s' := s.sendVector v
    if s'.msixPending.contains v then s' else { s' with msixBusy := s'.msixBusy ++ [v] }

/-- Pending messages whose vectors are unmasked go out while bus mastering is on (R504, R507). -/
def State.sendPending (s : State) : State :=
  if !s.busMaster then s
  else
    let ready := s.msixPending.filter fun v => (s.msixEntry v >>> 96) % 2 == 0
    ready.foldl (fun s v =>
      let s := { s with msixPending := s.msixPending.filter (· != v) }.sendVector v
      if v = 0 then s else { s with msixBusy := s.msixBusy.filter (· != v) ++ [v] }) s

/-- A CQ entry (R502). -/
def cqEntry (x : HostQueue) (q status detail commandId : Nat) : BitVec 128 :=
  let e := setf (setf (0 : BitVec 128) 64 64 detail) 48 1 (if x.phase then 1 else 0)
  setf (setf (setf (setf e 40 8 q) 32 8 status) 16 16 x.sqHead) 0 16 commandId

/-- Completions of ended commands written while the CQ has room (R502, R507); `n` bounds their number. A DRAINING queue
whose completions are all written is DISABLED (R498). -/
def flushQueue (q : Nat) : Nat → State → State
  | 0, s =>
    let x := s.hostQueue q
    if x.state = 2 && x.active.isEmpty then s.setHostQueue q { x with state := 0, error := 0 } else s
  | n + 1, s =>
    let x := s.hostQueue q
    match takeNth (fun (c : HostCommand) => c.done.isSome) x.active 0 with
    | none => flushQueue q n s
    | some (c, rest) =>
      if !x.cqRoom || !s.busMaster then flushQueue q n s
      else
        let d := c.done.getD (0, 0)
        let tail := (x.cqTail + 1) % x.cqSize
        let s := s.emit (.completion q (x.cqBase.toNat + 16 * x.cqTail) (cqEntry x q d.1 d.2 (getf c.entry 16 16)))
        let s := s.setHostQueue q { x with active := rest, cqTail := tail, phase := if tail = 0 then !x.phase else x.phase }
        flushQueue q n (s.queueVector x.vector)

/-- Completions of a queue written as far as there is room. -/
def State.flush (s : State) (q : Nat) : State := flushQueue q ((s.hostQueue q).active.length + 1) s

/-- A queue is disabled (R437, R498): nothing more is fetched, commands fetched end WITHDRAWN; a copy that has not
completed has moved no bytes (log entry 41). `write` tells whether completions are written. -/
def State.disableQueue (s : State) (q : Nat) (write : Bool) : State :=
  let x := s.hostQueue q
  if x.state = 0 then s.setHostQueue q { x with cfg := setf x.cfg 31 1 0 }
  else
    let ended := x.active.any (·.done.isNone)
    let tokens := x.active.map (·.token)
    let s := if ended then s.withdrawal 0x2801 { domain := 4, clock := clkPcie, js := some x.js, detail := q } else s
    let s := { s with hbmWaiting := s.hbmWaiting.filter fun r => !(r.token != 0 && tokens.contains r.token) }
    let active := if write then x.active.map fun c => if c.done.isNone then { c with done := some (6, 0) } else c else []
    let x := { x with cfg := setf x.cfg 31 1 0, state := 2, avail := [], active := active }
    (s.setHostQueue q x).flush q

/-- QCFG written (R498): fields only in DISABLED; ENABLE enables in DISABLED, a cleared ENABLE disables. -/
def State.writeQcfg (s : State) (q : Nat) (v : Word) : State :=
  let x := s.hostQueue q
  let v := setf v 0 13 0
  if x.state = 0 then
    if !bitf v 31 || !s.hostReady then s.setHostQueue q { x with cfg := setf v 31 1 0 }
    else
      let x : HostQueue := { sqBase := x.sqBase, cqBase := x.cqBase, cfg := v, state := 1 }
      let inRange := fun n => decide (4 ≤ n) && decide (n ≤ 12)
      let s := s.setHostQueue q x
      if s.val (keyJsState x.js) = 1 && inRange (getf v 17 4) && inRange (getf v 13 4) then s else s.queueError q 4
  else if !bitf v 31 && bitf x.cfg 31 then s.disableQueue q true
  else s

/-- QCFG_ENABLE_SET: a QCFG value with ENABLE is written (R498). -/
def execQcfgEnableSet (q : QueueId) (v : Word) (s : State) : Host.Outcome State Fault Refusal :=
  .next (if s.hostWrites && bitf v 31 then s.writeQcfg q.val v else s)

/-- QCFG_ENABLE_CLEAR: a QCFG value without ENABLE is written (R498). -/
def execQcfgEnableClear (q : QueueId) (v : Word) (s : State) : Host.Outcome State Fault Refusal :=
  .next (if s.hostWrites && !bitf v 31 then s.writeQcfg q.val v else s)

/-- SQ_TAIL_DOORBELL: entries become available (R499). Fewer entries than the new tail covers are a host error of the fetch;
more cannot be (log entry 41). -/
def execSqTailDoorbell (q : QueueId) (v : Word) (entries : List SqEntry) (s : State) : Host.Outcome State Fault Refusal :=
  let n := q.val
  let x := s.hostQueue n
  let tail := v.toNat % 65536
  let count := (tail + x.sqSize - x.sqTail) % x.sqSize
  if !s.hostWrites || x.state != 1 then .next s
  else if x.sqSize ≤ tail then .next (s.queueError n 1)
  else if count < entries.length then .next s
  else
    let new := entries.map fun (e : SqEntry) => BitVec.ofNat 512 (leAt e 0 64)
    let s := s.landPosted.setHostQueue n { x with sqTail := tail, avail := x.avail ++ new }
    .next (if entries.length < count then s.queueError n 3 else s)

/-- CQ_HEAD_DOORBELL: entries are returned to the module (R499, R502). -/
def execCqHeadDoorbell (q : QueueId) (v : Word) (s : State) : Host.Outcome State Fault Refusal :=
  let n := q.val
  let x := s.hostQueue n
  let head := v.toNat % 65536
  let size := x.cqSize
  if !s.hostWrites || x.state != 1 then .next s
  else if size ≤ head || (x.cqTail + size - x.cqHead) % size < (head + size - x.cqHead) % size then .next (s.queueError n 2)
  else .next ((s.landPosted.setHostQueue n { x with cqHead := head }).flush n)

/-! ### Host commands (R500 to R503) -/

/-- Whether an SQ entry's reserved fields are zero and its spans in range (R500). -/
def entryOk (e : BitVec 512) : Bool :=
  let op := getf e 0 8
  let len := getf e 192 40
  getf e 232 280 == 0 && getf e 176 16 == 0 && getf e 32 32 == 0 && getf e 9 7 == 0 &&
    (if op = 0 || op = 3 then len == 0
     else decide (op ≤ 3) && len % 64 == 0 && decide (64 ≤ len) && decide (len ≤ 2 ^ 36) && getf e 128 48 % 64 == 0 &&
       getf e 64 64 % 64 == 0)

/-- The next entry of an ENABLED queue that may start: bus mastering on, no fence that still waits (R500, R503, R507). -/
def startable (s : State) (q : Nat) : Option (BitVec 512) :=
  let x := s.hostQueue q
  match x.avail with
  | [] => none
  | e :: _ => if x.state != 1 || !s.hostWrites || !s.busMaster || (bitf e 8 && !x.active.isEmpty) then none else some e

/-- The entry is fetched: SQ_HEAD moves on and the command is held. -/
def State.fetchCommand (s : State) (q : Nat) (c : HostCommand) : State :=
  let x := s.hostQueue q
  s.setHostQueue q { x with avail := x.avail.drop 1, sqHead := (x.sqHead + 1) % x.sqSize, active := x.active ++ [c] }

/-- HOST_NOP; it also takes an entry of a reserved opcode, which is MALFORMED (R500, R502). -/
def execHostNop (q : QueueId) (s : State) : Host.Outcome State Fault Refusal :=
  match startable s q.val with
  | none => .next s
  | some e =>
    if getf e 0 8 != 0 && getf e 0 8 ≤ 3 then .next s
    else
      let status := if entryOk e then 0 else 1
      .next ((s.fetchCommand q.val { entry := e, done := some (status, 0) }).flush q.val)

/-- HOST_TRIGGER: one trigger for the queue's job stream (R500, R502). -/
def execHostTrigger (q : QueueId) (s : State) : Host.Outcome State Fault Refusal :=
  match startable s q.val with
  | none => .next s
  | some e =>
    if getf e 0 8 != 3 then .next s
    else if !entryOk e then .next ((s.fetchCommand q.val { entry := e, done := some (1, 0) }).flush q.val)
    else
      let j := (s.hostQueue q.val).js
      let s' := s.fireTrigger j
      let status := if s.val (keyTriggers j) < s'.val (keyTriggers j) then 0 else 5
      .next ((s'.fetchCommand q.val { entry := e, done := some (status, 0) }).flush q.val)

/-- Whether a copy's module span lies in one region of its job stream that grants HOST (R501). -/
def hostSpanOk (s : State) (j : Nat) (e : BitVec 512) : Bool := s.access (some j) (getf e 128 48) (getf e 192 40) .host

/-- A copy starts: checked, then its requests are presented (R209, R501). -/
def startCopy (s : State) (q op : Nat) : State :=
  match startable s q with
  | none => s
  | some e =>
    if getf e 0 8 != op then s
    else if !entryOk e then (s.fetchCommand q { entry := e, done := some (1, 0) }).flush q
    else if !hostSpanOk s (s.hostQueue q).js e then (s.fetchCommand q { entry := e, done := some (2, 0) }).flush q
    else
      let s' := s.requestAlone .pcie 4 (getf e 128 48) (getf e 192 40) (if op = 1 then some [] else none)
      s'.fetchCommand q { entry := e, token := s.nextToken }

/-- COPY_IN (R501). -/
def execCopyIn (q : QueueId) (s : State) : Host.Outcome State Fault Refusal := .next (startCopy s q.val 1)

/-- COPY_OUT (R501). -/
def execCopyOut (q : QueueId) (s : State) : Host.Outcome State Fault Refusal := .next (startCopy s q.val 2)

/-- Bytes of a span with every poisoned atom as zeros, and the offset of the first such atom (R501). -/
def cleanBytes (s : State) (a n : Nat) : List Byte × Option Nat :=
  let bad := (List.range (n / 64)).filter fun i => s.atomPoisoned (a / 64 + i)
  (bad.foldl (fun bs i => spliceBytes bs (64 * i) (List.replicate 64 0)) (s.readMem a n), bad.head?.map (64 * ·))

/-- The end of a copy: new state, status and detail; none where the operands do not fit it. -/
def endCopy (s : State) (j : Nat) (e : BitVec 512) (data : List Byte) (res : HostResult) : Option (State × Nat × Nat) :=
  let a := getf e 128 48
  let n := getf e 192 40
  if !hostSpanOk s j e then some (s, 2, 0)
  else if getf e 0 8 = 1 then
    match res with
    | .ok => if data.length = n then some (s.writeMem a data, 0, n) else none
    | .hostError => if data.length < n && data.length % 64 = 0 then some (s.writeMem a data, 3, data.length) else none
  else
    let c := cleanBytes s a n
    let out := s.emit (.hostWrite (getf e 64 64) (match res with | .ok => c.1 | .hostError => c.1.take data.length))
    match res with
    | .ok => some (out, match c.2 with | some off => (4, off) | none => (0, n))
    | .hostError => if data.length < n then some (out, 3, data.length) else none

/-- COPY_COMPLETE: the `n`-th copy of a queue ends once its requests are done; its CQ entry is written when there is room
(R501, R502). -/
def execCopyComplete (q : QueueId) (n : Nat) (data : List Byte) (res : HostResult) (s : State) :
    Host.Outcome State Fault Refusal :=
  let x := s.hostQueue q.val
  match takeNth (fun (c : HostCommand) => c.done.isNone) x.active n with
  | none => .next s
  | some (c, rest) =>
    if s.tokenBusy c.token || !s.busMaster || !s.hostWrites then .next s
    else
      match endCopy s x.js c.entry data res with
      | none => .next s
      | some (s, status, detail) =>
        .next ((s.setHostQueue q.val { x with active := rest ++ [{ c with done := some (status, detail) }] }).flush q.val)

/-- MSIX_INTERVAL_EXPIRE: 2 µs after a vector's last message (R504). -/
def execMsixIntervalExpire (v : Byte) (s : State) : Host.Outcome State Fault Refusal :=
  let n := v.toNat
  if !s.msixBusy.contains n then .next s
  else
    let owed := s.msixOwed.contains n
    let s := { s with msixBusy := s.msixBusy.filter (· != n), msixOwed := s.msixOwed.filter (· != n) }
    .next (if owed then s.queueVector n else s)

/-- JS_DOORBELL: a write of 1 is one trigger (R496, R509); posted writes to BAR2 are visible before it (R506). -/
def execJsDoorbell (j : JsId) (v : Word) (s : State) : Host.Outcome State Fault Refusal :=
  .next (if s.hostWrites && s.hostReady && v == 1 then s.landPosted.fireTrigger j.val else s)

/-! ### The window (R505, R506) -/

/-- A window access or entry write that is discarded or refused sets WINDOW. -/
def State.windowMiss (s : State) : State := { s with windowMisses := min 0xFFFFFFFF (s.windowMisses + 1) }.event 4

/-- The entry of a page; every entry reads zero while READY reads 0 (R505, R509). -/
def State.windowEntry (s : State) (page : Nat) : DWord := if s.hostReady then mapGet 0 s.windows page else 0

/-- WINDOW_ENTRY_WRITE (R505). -/
def execWindowEntryWrite (n : Fin 262144) (v : DWord) (s : State) : Host.Outcome State Fault Refusal :=
  if !s.hostReady || 2 ^ (s.bar2Log2 - 21) ≤ n.val then .next s
  else
    let v := setf (setf v 48 14 0) 0 21 0
    let a := getf v 21 27 * 0x200000
    let ok := s.regions.any fun r => r.state == .active && decide (r.tier ≤ 2) && r.host && r.holds a 0x200000
    if bitf v 63 && !ok then
      .next ({ s with windows := mapErase s.windows n.val
                      windowRefusals := min 0xFFFFFFFF (s.windowRefusals + 1) }.event 4)
    else .next { s with windows := mapSet 0 s.windows n.val v }

/-- Bytes of a host read of a memory as it stands: those of a poisoned atom are free (log entry 2). -/
def hostBytes (m : State) (a : Nat) : Nat → State → List Byte × State
  | 0, s => ([], s)
  | n + 1, s =>
    let f := s.free 8
    let bad := m.atomPoisoned (a / 64)
    let r := hostBytes m (a + 1) n (if bad then f.2 else s)
    ((if bad then BitVec.ofNat 8 f.1 else m.readByte a) :: r.1, r.2)

/-- `n` bytes of a repeated 32-bit word. -/
def wordBytes (w n : Nat) : List Byte := (List.range n).map fun i => BitVec.ofNat 8 (w / 2 ^ (8 * (i % 4)))

/-- A read through BAR2, by requests of the PCI Express endpoint (R209, R433, R506). -/
def bar2Read (s : State) (offset n : Nat) : State :=
  if s.lifecycle = 6 then s.emit (.readData (wordBytes 0xD0FFD0FF n))
  else
    let w := s.windowEntry (offset / 0x200000)
    if !bitf w 63 then s.windowMiss.emit (.readData (wordBytes 0xFFFFFFFF n))
    else
      let a := getf w 21 27 * 0x200000 + offset % 0x200000
      let r := hostBytes (s.seen .pcie) a n (s.requestAlone .pcie 4 a n none)
      r.2.emit (.readData r.1)

/-- A write through BAR2, visible as its requests are done (R194, R209, R433, R506). -/
def bar2Write (s : State) (offset : Nat) (data : List Byte) : State :=
  if s.lifecycle = 6 then s
  else
    let w := s.windowEntry (offset / 0x200000)
    if !bitf w 63 || !bitf w 62 then s.windowMiss
    else
      let a := getf w 21 27 * 0x200000 + offset % 0x200000
      s.requestAlone .pcie 4 a data.length (some data)

/-- BAR2_ACCESS: a read of at most 4,096 bytes or a write of at most 512 within one 4 KiB page and the BAR's size (R493,
R506). -/
def execBar2Access (offset : BitVec 39) (op : Bar2Op) (s : State) : Host.Outcome State Fault Refusal :=
  let o := offset.toNat
  let n := match op with | .read n => n | .write d => d.length
  let most := match op with | .read _ => 4096 | .write _ => 512
  if !s.barsRespond || n = 0 || most < n || 4096 < o % 4096 + n || 2 ^ s.bar2Log2 ≤ o then .next s
  else
    match op with
    | .read n => .next (bar2Read s o n)
    | .write d => .next (bar2Write s o d)

/-- BAR2_RESIZE: 1 GiB to 512 GiB; every window entry is cleared (R505). -/
def execBar2Resize (log2 : Byte) (s : State) : Host.Outcome State Fault Refusal :=
  let n := log2.toNat
  if !s.linkUp || n < 30 || 39 < n then .next s else .next { s with bar2Log2 := n, windows := [] }

/-! ### BAR0 registers (R494, R495) -/

/-- EVENT_CAUSE_W1C (R495). -/
def execEventCauseW1c (v : Word) (s : State) : Host.Outcome State Fault Refusal :=
  .next (if s.hostWrites then { s with eventCause := s.eventCause &&& (31 - v.toNat % 32) } else s)

/-- The 32-bit word that a global register shows (R495). -/
def State.globalWord (s : State) (off : Nat) : Nat :=
  match off with
  | 0x00 => 16 * (s.lifecycle % 16) + (if s.hostReady then 1 else 0)
  | 0x08 => s.bar2Log2
  | 0x10 => s.eventCause
  | 0x14 => s.eventMask
  | 0x20 => s.windowMisses
  | 0x24 => s.windowRefusals
  | _ => 0

/-- The 32-bit word at an offset of a queue's registers (R497). -/
def HostQueue.word (x : HostQueue) (off : Nat) : Nat :=
  match off with
  | 0x00 => getf x.sqBase 0 32
  | 0x04 => getf x.sqBase 32 32
  | 0x08 => getf x.cqBase 0 32
  | 0x0C => getf x.cqBase 32 32
  | 0x10 => x.cfg.toNat
  | 0x14 => x.error * 256 + x.state
  | 0x18 => x.sqHead
  | 0x1C => x.cqTail
  | _ => 0

/-- What BAR0 holds at an aligned offset: 32 bits, reserved fields, write-only doorbells and unmapped offsets zero (R7, R15, R494
to R497, R505); 0xD0FF_D0FF in a doffed module (R433). -/
def bar0Word (s : State) (off : Nat) : Nat :=
  if s.lifecycle = 6 then 0xD0FFD0FF
  else if off < 0x1000 then s.globalWord off
  else if 0x10000 ≤ off && off < 0x11000 then (s.hostQueue ((off - 0x10000) / 64)).word (off % 64)
  else if 0x30000 ≤ off && off < 0x31000 then s.msixEntry ((off - 0x30000) / 16) / 2 ^ (8 * (off % 16)) % 2 ^ 32
  else if 0x31000 ≤ off && off < 0x31020 then
    ((List.range 32).map fun i => if s.msixPending.contains (8 * (off - 0x31000) + i) then 2 ^ i else 0).foldl (· + ·) 0
  else if 0x200000 ≤ off && off < 0x400000 then
    let page := (off - 0x200000) / 8
    if 2 ^ (s.bar2Log2 - 21) ≤ page then 0 else (s.windowEntry page).toNat / 2 ^ (8 * (off % 8)) % 2 ^ 32
  else 0

/-- The bytes that a read of BAR0 returns (R494): aligned reads of 32 or 64 bits, zero for any other; a doffed module answers every
read alike (R433). Reading changes nothing but the two registers that have rows of their own (log entry 62). -/
def bar0Read (s : State) (off bytes : Nat) : List Byte :=
  if s.lifecycle != 6 && (!(bytes == 4 || bytes == 8) || off % bytes != 0) then List.replicate bytes 0
  else ((List.range (ceilDiv bytes 4)).flatMap fun i => natLe 4 (bar0Word s (off + 4 * i))).take bytes

/-- A read of a register that clears with it, which a doffed module does not do (R15, R433, R495). -/
def readClear (s : State) (off : Nat) (clear : State → State) : State :=
  if !s.barsRespond then s
  else (if s.lifecycle = 6 then s else clear s).emit (.readData (bar0Read s off 4))

/-- WINDOW_MISSES_READ (R495). -/
def execWindowMissesRead (s : State) : Host.Outcome State Fault Refusal :=
  .next (readClear s 0x20 fun s => { s with windowMisses := 0 })

/-- WINDOW_REFUSALS_READ (R495). -/
def execWindowRefusalsRead (s : State) : Host.Outcome State Fault Refusal :=
  .next (readClear s 0x24 fun s => { s with windowRefusals := 0 })

/-- EVENT_MASK written: vector 0 sends when the masked causes become non-zero (R495). -/
def State.writeEventMask (s : State) (v : Nat) : State :=
  let s' := { s with eventMask := v % 32 }
  if s.eventBits = 0 && s'.eventBits != 0 then s'.sendVector 0 else s'

/-- Half `h` of a 64-bit register replaced. -/
def setHalf (x : DWord) (h v : Nat) : DWord := setf x (32 * h) 32 v

/-- A 32-bit word written to a register that has no row of its own (R494, R497). -/
def State.writeBar0 (s : State) (off v : Nat) : State :=
  if off = 0x14 then s.writeEventMask v
  else if 0x10000 ≤ off && off < 0x11000 then
    let q := (off - 0x10000) / 64
    let x := s.hostQueue q
    let r := off % 64
    if x.state != 0 then s
    else if r = 0 || r = 4 then s.setHostQueue q { x with sqBase := setf (setHalf x.sqBase (r / 4) v) 0 12 0 }
    else if r = 8 || r = 12 then s.setHostQueue q { x with cqBase := setf (setHalf x.cqBase (r / 4 - 2) v) 0 12 0 }
    else if r = 16 && v / 2 ^ 31 % 2 = 0 then s.writeQcfg q (BitVec.ofNat 32 v)
    else s
  else if 0x30000 ≤ off && off < 0x31000 then
    let n := (off - 0x30000) / 16
    let e := (setf (BitVec.ofNat 128 (s.msixEntry n)) (8 * (off % 16)) 32 v).toNat
    { s with msixTable := mapSet (2 ^ 96) s.msixTable n e }.sendPending
  else s

/-- BAR0_REGISTER_WRITE: an aligned write of 4 or 8 bytes (R494). -/
def execBar0RegisterWrite (offset : BitVec 26) (bytes : Nat) (v : DWord) (s : State) : Host.Outcome State Fault Refusal :=
  let o := offset.toNat
  if !s.hostWrites || !(bytes == 4 || bytes == 8) || o % bytes != 0 then .next s
  else
    let s := s.writeBar0 o (v.toNat % 2 ^ 32)
    .next (if bytes = 8 then s.writeBar0 (o + 4) (v.toNat / 2 ^ 32) else s)

/-! ### Power states and resets of the interface (R507, R508) -/

/-- BUS_MASTER_ENABLE: a bit set again resumes what paused (R507). -/
def execBusMasterEnable (on : Bool) (s : State) : Host.Outcome State Fault Refusal :=
  if !s.linkUp || s.d3hot || s.lifecycle = 6 then .next s
  else
    let s := { s with busMaster := on }.sendPending
    .next (if on then (List.range 64).foldl (fun s q => s.flush q) s else s)

/-- The host interface alone is reset: queues DISABLED without CQ entries, windows, MSI-X table and EVENT_CAUSE as at reset,
BAR2 64 GiB (R508). DESIGN CHOICE (log entry 52): R508 names no other register, so EVENT_MASK, WINDOW_MISSES, WINDOW_REFUSALS
and the queues' SQ_BASE, CQ_BASE and QCFG fields keep their values. -/
def State.resetHost (s : State) : State :=
  let s := (List.range 64).foldl (fun s q => s.disableQueue q false) s
  { s with windows := [], msixTable := [], msixPending := [], msixBusy := [], msixOwed := [], eventCause := 0, bar2Log2 := 36
           busMaster := false, d3hot := false }

/-- FUNCTION_LEVEL_RESET (R508). -/
def execFunctionLevelReset (s : State) : Host.Outcome State Fault Refusal :=
  .next (if s.linkUp then s.resetHost else s)

/-- HOT_RESET, or link down (R508). -/
def execHotReset (s : State) : Host.Outcome State Fault Refusal :=
  .next (if s.linkUp then { s.resetHost with linkUp := false } else s)

/-- D3HOT_ENTRY (R508). -/
def execD3hotEntry (s : State) : Host.Outcome State Fault Refusal :=
  .next (if s.linkUp then { s with d3hot := true } else s)

/-- D3HOT_EXIT: the return to D0 resets the interface (R508). -/
def execD3hotExit (s : State) : Host.Outcome State Fault Refusal :=
  .next (if s.d3hot then s.resetHost else s)

/-- PERST_N_ASSERT (R508, R525). -/
def execPerstNAssert (s : State) : Host.Outcome State Fault Refusal :=
  .next (if s.lifecycle = 0 then { s with perstLow := true } else { s.resetHost with linkUp := false, perstLow := true })

/-- PERST_N_RELEASE: link training starts (R508). -/
def execPerstNRelease (s : State) : Host.Outcome State Fault Refusal := .next { s with perstLow := false }

/-- PCIE_LINK_UP: the link completes training (R508, R522). -/
def execPcieLinkUp (s : State) : Host.Outcome State Fault Refusal :=
  .next (if s.perstLow || s.mrstLow || s.lifecycle = 0 then s else { s with linkUp := true })

end Sys2Proof.Machine
end

