-- ==== Sys2Proof/Machine/Enables.lean ====
section
/-! DEFINITION. Enables and disables: power domains (R34 to R40), ports (R283), cores and job streams (R437, R438), job stream
locks (R471), WITHDRAW_STEP (R429), and the clears of counters and of the fault log (R439, R444). -/
namespace Sys2Proof.Machine

/-! ### Power domains (R34, R36 to R39) -/

/-- The prerequisites of a domain (R34). -/
def domPrereqs (d : Nat) : List Nat :=
  if d < 64 then
    let spine := 16 * (d / 16) + 14
    let i := d % 16
    if i < 8 then [spine, 16 * (d / 16) + 12 + i / 4] else if i < 14 then [spine] else if i = 14 then [68] else [spine, 68]
  else if d < 68 || d = 69 then [68]
  else []

/-- Parts of a crown that need its HBM PHY pair 0: clusters, pool halves, the other pairs, the edge (R36). -/
def needsPair0 (d : Nat) : Bool := decide (d < 64) && d % 16 != 8 && d % 16 != 14

/-- Rules 2 to 6 of R36 for a write, as numbers with whether each refuses. -/
def domainRules (s : State) (d v : Nat) : List (Nat × Bool) :=
  let crown := (List.range 16).map fun i => 16 * (d / 16) + i
  [(2, v == 1 && (domPrereqs d).any fun e => !s.domainOn e),
   (3, v == 0 && (List.range 72).any fun e => (domPrereqs e).contains d && s.domain e != 0),
   (4, v == 0 && s.domainHolds d),
   (5, v == 0 && decide (d < 64) && d % 16 == 8 && crown.any fun e => needsPair0 e && s.domain e != 0),
   (6, v == 1 && needsPair0 d && s.domain (16 * (d / 16) + 8) != 1)]

/-- A port is disabled (R283, R437): DRAINING while it is UP, at once otherwise; uses whose first hop it is are lost, and the secrets of its session are discarded (R462). -/
def State.disablePort (s : State) (p : Nat) : State :=
  let st := s.portState p
  if st = 6 then ((s.setPortState p 7).discardSecrets p).loseUses p
  else if st < 2 || st = 7 then s
  else s.closePort p

/-- An accepted OFF of a domain: DRAINING; a quad disables its ports (R37). -/
def State.domainOff (s : State) (d : Nat) : State :=
  let s := s.setDomain d 2
  if 64 ≤ d && d < 68 then (List.range 8).foldl (fun s i => s.disablePort (8 * (d - 64) + i)) s else s

/-- An accepted ON of a domain: SWITCHING_ON; the stacks of a PHY pair train (R38, R39). -/
def State.domainStart (s : State) (d : Nat) : State :=
  let s := s.setDomain d 5
  if d < 64 && 8 ≤ d % 16 && d % 16 < 12 then
    let k := 8 * (d / 16) + 2 * (d % 16 - 8)
    (s.setVal (stackKey k 1) 1).setVal (stackKey (k + 1) 1) 1
  else s

/-- DOMAIN_STATE's own part: R36 in order, with R39 after its rule 1. A write that no rule refuses of the state that the domain
reads already has no effect: the spec does not say whether it passes through SWITCHING_ON or DRAINING (DESIGN CHOICE, log
entry 52). -/
def domainStateBody (d v : Nat) (s : State) : SetResult :=
  let st := s.domain d
  if 5 < v then .refuse stRange 0
  else if 1 < v || d = 68 || d = 70 || d = 71 || st = 4 then .refuse stState 1
  else if st = 5 || (st = 2 && v = 1) then .refuse stState 0
  else if st = 2 then .ok s
  else checkOrder (domainRules s d v) (.ok (if v = st then s else if v = 0 then s.domainOff d else s.domainStart d))

/-- DOMAIN_STATE_WRITE (R36). -/
def execDomainStateWrite (rq : Rq) (d : DomainId) (v : Byte) (s : State) : Host.Outcome State Fault Refusal :=
  .next (s.dictSet rq 0x2200 (d.val + 1) (domainStateBody d.val v.toNat))

/-- A port of a quad that goes ON: bring-up where it is enabled (R261, R283). -/
def State.wakePort (s : State) (p : Nat) : State :=
  if s.val (portKey p 1) = 1 then s.train p 1 0 else s.setPortState p 1

/-- The counters of the domain instances of a power domain: core and noc of a crown with its spine, hbm with its PHY pair
(R32, R34). -/
def domainClocks (d : Nat) : List Nat :=
  if 64 ≤ d then []
  else if d % 16 = 14 then [clkCore (d / 16), clkNoc (d / 16)]
  else if 8 ≤ d % 16 && d % 16 < 12 then [clkHbm (4 * (d / 16) + (d % 16 - 8))]
  else []

/-- What a power domain holds of its own at its reset state (R38, R223): the cores of a cluster with their semaphores, its
prefetch engine and its phase; the pools of a half; the codec's turn; the cycle counters (R32). -/
def State.resetDomain (s : State) (d : Nat) : State :=
  let s := s.zeroClocks (domainClocks d)
  let k := 8 * (d / 16) + d % 16
  if d = domCodec then { s with codec := [], laneHolds := [], codecLast := (32, 32) }
  else if d < 64 && d % 16 < 8 then
    { s with
      cores := s.cores.filter fun e => domCluster e.1 != d
      walks := s.walks.filter fun w => w.cluster != k
      phases := mapSet 0 s.phases k 0 }
  else if d < 64 && 12 ≤ d % 16 && d % 16 < 14 then
    s.clearMem (poolBase + (8 * (d / 16) + 4 * (d % 16 - 12)) * poolOne) (4 * poolOne)
  else s

/-- A domain reaches ON: it leaves reset (R32, R38, R223), and requests that waited for an edge go on (R37). -/
def State.domainReached (s : State) (d : Nat) : State :=
  let s := (s.setDomain d 1).resetDomain d
  if d < 64 then
    if 8 ≤ d % 16 && d % 16 < 12 then
      let k := 8 * (d / 16) + 2 * (d % 16 - 8)
      (s.setVal (stackKey k 1) 2).setVal (stackKey (k + 1) 1) 2
    else if d % 16 = 15 then s.seatRequests s.hbm s.hbmWaiting
    else s
  else if d < 68 then (List.range 8).foldl (fun s i => s.wakePort (8 * (d - 64) + i)) s
  else s

/-- DOMAIN_SWITCH_ON_DONE (R39). -/
def execDomainSwitchOnDone (d : DomainId) (s : State) : Host.Outcome State Fault Refusal :=
  if s.domain d.val != 5 then .next s else .next (s.domainReached d.val)

/-- A domain goes OFF: its SRAM is lost; HBM in self-refresh keeps its contents (R38); the replay regions of a quad's ports are
removed (R264). -/
def State.domainLost (s : State) (d : Nat) : State :=
  let s := (s.setDomain d 0).resetDomain d
  if 64 ≤ d && d < 68 then
    (List.range 8).foldl (fun s i => (s.removeReplay (8 * (d - 64) + i)).setPortState (8 * (d - 64) + i) 0) s
  else if d < 64 && 8 ≤ d % 16 && d % 16 < 12 then
    let k := 8 * (d / 16) + 2 * (d % 16 - 8)
    (s.setVal (stackKey k 1) 0).setVal (stackKey (k + 1) 1) 0
  else s

/-- DOMAIN_SWITCH_FAIL (R39). -/
def execDomainSwitchFail (d : DomainId) (s : State) : Host.Outcome State Fault Refusal :=
  if s.domain d.val != 5 then .next s
  else .next ((s.domainLost d.val).note 0x1802 { locKind := 5, location := d.val })

/-! ### The end of a drain (R437) -/

/-- Whether nothing crosses the die-to-die edge of a crown: no request at the memories, no SEND and no host copy under way (R27,
R37). -/
def edgeIdle (s : State) (c : Nat) : Bool :=
  !(s.hbm.any fun q => (edgesOf q).contains c) &&
    ((List.range 64).all fun i => ((s.core (64 * c + i)).flight 4).isEmpty) &&
    s.increments.all fun x => !crossesEdge x c

/-- Whether a DRAINING domain has nothing in flight. -/
def domainIdle (s : State) (d : Nat) : Bool :=
  if d = 69 then s.codec.isEmpty
  else if 64 ≤ d then (List.range 8).all fun i => decide (s.portState (8 * (d - 64) + i) < 2)
  else
    let i := d % 16
    let reqs := s.hbm ++ s.hbmWaiting
    if i < 8 then
      ((List.range 256).all fun c => domCluster c != d || coreEnded (s.core c)) &&
        !(s.walks.any fun w => w.cluster == 8 * (d / 16) + i) && !(s.increments.any fun x => domCluster x.dst == d)
    else if i < 12 then !(reqs.any fun r => inHbm r.addr && (hbmPlace r.addr).stack / 2 == 4 * (d / 16) + (i - 8))
    else if i < 14 then !(reqs.any fun r => inPool r.addr && poolCluster r.addr / 4 == 2 * (d / 16) + (i - 12))
    else if i = 15 then edgeIdle s (d / 16)
    else true

/-- CORE_DRAINING (R438). -/
def keyDraining : Key := ⟨0x5001, 2, 0⟩

/-- FUNCTION_DRAINED: the drain of a disabled function ends (R283, R437, R471). A port then sends CLOSING NAPs; what still waits
in its queue is dropped. A doff overrides every drain. -/
def execFunctionDrained (f : Func) (s : State) : Host.Outcome State Fault Refusal :=
  let domain := fun (d : Nat) => if s.domain d = 2 && domainIdle s d then s.domainLost d else s
  if s.doffStep != 0 then .next s else
  match f with
  | .port p =>
    if s.portState p.val = 7 && (s.link p.val).closingNaps = 0 then
      let s := s.dropQueue p.val
      .next (s.setLink p.val { s.link p.val with closingNaps := 17 })
    else .next s
  | .core c =>
    let m := s.val keyDraining
    if m.testBit c.val && coreEnded (s.core c.val) then .next (s.setVal keyDraining (m - 2 ^ c.val)) else .next s
  | .codec => .next (domain 69)
  | .jobStream j =>
    if s.val (keyJsState j.val) = 2 && !s.stepRunning j.val && (activeSources s j.val).isEmpty then
      .next ((s.setVal (keyJsState j.val) 0).unlockStream j.val)
    else .next s
  | .domain d => .next (domain d.val)

/-! ### Ports (R283) -/

/-- PORT_ENABLE's own part: an enable while DRAINING is refused; from DISABLED or FAILED it starts bring-up. -/
def portEnableBody (p v : Nat) (s : State) : SetResult :=
  if 1 < v then .refuse stType 0
  else if v = 0 then .ok ((s.setVal (portKey p 1) 0).disablePort p)
  else if s.portState p = 7 then .refuse stState 0
  else
    let s := s.setVal (portKey p 1) 1
    .ok (if (s.portState p = 1 || s.portState p = 9) && s.domain (domQuad (p / 8)) = 1 then s.train p 1 0 else s)

/-- PORT_ENABLE_WRITE (R283). -/
def execPortEnableWrite (rq : Rq) (p : PortId) (v : Byte) (s : State) : Host.Outcome State Fault Refusal :=
  .next (s.dictSet rq (0x3100 + p.val) 1 (portEnableBody p.val v.toNat))

/-- PORT_CLOSE_DONE: after the CLOSING NAPs, IDLE bolts, lanes stopped, DISABLED; its quad's OFF makes it OFF (R283). -/
def execPortCloseDone (p : PortId) (s : State) : Host.Outcome State Fault Refusal :=
  let n := p.val
  if s.portState n != 7 || (s.link n).closingNaps != 1 || s.doffStep != 0 then .next s
  else .next ((s.emit (.idleBolts n (idleBolt s n))).closePort n)

/-! ### Cores and job streams (R437, R438, R471) -/

/-- CORE_ENABLE (R438). -/
def keyEnabled : Key := ⟨0x5001, 1, 0⟩

/-- Bits of a mask. -/
def bitsOf (m : Nat) : List Nat := (List.range 256).filter fun i => m.testBit i

/-- A mask of bits. -/
def maskOf (bs : List Nat) : Nat := bs.foldl (fun m b => m ||| 2 ^ b) 0

/-- Job streams charged FUNCTION_DISABLED once each. -/
def State.chargeDisabled (s : State) (js : List Nat) : State :=
  ((List.range 4).filter js.contains).foldl (fun s j => s.withdrawal 0x2801 { js := some j }) s

/-- CORE_ENABLE's own part: a bit set for a DRAINING core is refused; a cleared one drains a core that has work (R437). -/
def coreEnableBody (m : Nat) (s : State) : SetResult :=
  let old := s.val keyEnabled
  let drain := s.val keyDraining
  let set := (bitsOf m).filter fun i => !old.testBit i
  let cleared := (bitsOf old).filter fun i => !m.testBit i
  if set.any drain.testBit then .refuse stState 0
  else
    let busy := cleared.filter fun c => !coreEnded (s.core c)
    let js := busy.filterMap s.jsOfCore
    let s := (s.setVal keyEnabled m).setVal keyDraining (drain ||| maskOf busy)
    .ok (s.chargeDisabled js)

/-- CORE_ENABLE_WRITE (R437). -/
def execCoreEnableWrite (rq : Rq) (mask : BitVec 256) (s : State) : Host.Outcome State Fault Refusal :=
  .next (s.dictSet rq 0x5001 1 (coreEnableBody mask.toNat))

/-- Host queues of a job stream that are disabled with it (R498). -/
def State.disableQueues (s : State) (j : Nat) : State :=
  (List.range 64).foldl (fun s q =>
    let x := s.hostQueue q
    if x.js = j && (x.state = 1 || x.state = 3) then s.disableQueue q true else s) s

/-- JS_STATE's own part: writes accept 0 and 1; a DRAINING job stream is not enabled; a step whose cores have not ended is ended
WITHDRAWN by the disable (R437). -/
def jsStateBody (j v : Nat) (s : State) : SetResult :=
  let st := s.val (keyJsState j)
  if 1 < v then .refuse stRange 0
  else if v = 1 then if st = 2 then .refuse stState 0 else .ok (s.setVal (keyJsState j) 1)
  else if st != 1 then .ok s
  else
    let busy := s.stepRunning j && !(s.stepOf j).cores.all fun c => coreEnded (s.core c)
    let s := s.setVal (keyJsState j) 2
    .ok ((if busy then s.chargeDisabled [j] else s).disableQueues j)

/-- JS_STATE_WRITE (R437). -/
def execJsStateWrite (rq : Rq) (j : JsId) (v : Byte) (s : State) : Host.Outcome State Fault Refusal :=
  .next (s.dictSet rq 0x9000 (j.val + 1) (jsStateBody j.val v.toNat))

/-- JS_LOCK's own part (R471, R473, R474). -/
def jsLockBody (j v : Nat) (s : State) : SetResult :=
  if 1 < v then .refuse stType 0
  else if v = 1 then if s.lifecycle = 3 then .refuse stState 0 else .ok (s.lockStream j)
  else if s.stepRunning j || s.val (keyTriggers j) != 0 then .refuse stState 0
  else .ok (s.unlockStream j)

/-- JS_LOCK_WRITE (R471). -/
def execJsLockWrite (rq : Rq) (j : JsId) (v : Byte) (s : State) : Host.Outcome State Fault Refusal :=
  .next (s.dictSet rq 0x9001 (j.val + 1) (jsLockBody j.val v.toNat))

/-- WITHDRAW_STEP's own part (R429). -/
def withdrawStepBody (j v : Nat) (s : State) : SetResult :=
  boolCommand v (fun s =>
    if !s.stepRunning j then .refuse stState 0
    else .ok ((s.setStep j { s.stepOf j with manualWithdraw := true }).withdrawal 0x2802 { js := some j })) s

/-- WITHDRAW_STEP (R429): every RECV of the job stream issues from here on as for a withdrawn transfer. -/
def execWithdrawStep (rq : Rq) (j : JsId) (v : Byte) (s : State) : Host.Outcome State Fault Refusal :=
  .next (s.dictSet rq (0x7010 + j.val) 4 (withdrawStepBody j.val v.toNat))

/-! ### Clears (R439, R444) -/

/-- Whether a cell of the store is a statistics counter that COUNTER_CLEAR names (R439, R444). -/
def clearsCell (v code : Nat) : Bool :=
  let index := code / 2 ^ 24
  let sub := code / 2 ^ 16 % 256
  (match entryOf index sub with | some e => e.counter | none => false) &&
    (v == 0xFFFFFFFF || (index == v % 65536 && (v / 65536 % 256 == 0xFF || sub == v / 65536 % 256)))

/-- COUNTER_CLEAR's own part. -/
def counterClearBody (v : Nat) (s : State) : SetResult :=
  if v / 2 ^ 24 != 0 && v != 0xFFFFFFFF then .refuse stRange 0
  else .ok { s with dict := s.dict.filter fun e => !clearsCell v e.1 }

/-- COUNTER_CLEAR (R439). -/
def execCounterClear (rq : Rq) (v : Word) (s : State) : Host.Outcome State Fault Refusal :=
  .next (s.dictSet rq 0x8000 1 (counterClearBody v.toNat))

/-- FAULT_LOG_CLEAR's own part. -/
def faultLogClearBody (v : Nat) (s : State) : SetResult := boolCommand v (fun s => .ok { s with faultLog := [] }) s

/-- FAULT_LOG_CLEAR (R444). -/
def execFaultLogClear (rq : Rq) (v : Byte) (s : State) : Host.Outcome State Fault Refusal :=
  .next (s.dictSet rq 0x7000 6 (faultLogClearBody v.toNat))

end Sys2Proof.Machine
end

