-- ==== Sys2Proof/Machine/KeyLink.lean ====
section
/-! DEFINITION. Key-agreement messages of a port and its key phases (R256, R458 to R462). A message is the one assembled
from KEY blocks, or arrives whole with its command (R458). -/
namespace Sys2Proof.Machine

/-- PEER_KEY_DIGEST of a port (R463). -/
def peerDigest (s : State) (p : Nat) : Nat := s.val ⟨0x6000, 0x10, p⟩

/-- HS1_RECEIVE: the peer's keys checked and answered with HS2 (R459). -/
def execHs1Receive (p : PortId) (msg : List Byte) (s : State) : Host.Outcome State Fault Refusal :=
  let n := p.val
  let msg := (s.keyMessage n 1 0 msg).bytes
  let u := s.dropMessage n 1
  let k := (u.link n).keys
  if !s.keying n then .next s
  else
    let st := sliceBytes msg 0 1568
    let eph := sliceBytes msg 1568 1568
    if msg.length != 3136 || !k.peerHs1.isEmpty || peerDigest s n = 0 || digest64 st != peerDigest s n ||
        !Config.kemKeyOk st || !Config.kemKeyOk eph then .next (u.keyFail n)
    else
      let r := u.random 2
      let a := Config.kemEncaps st (sliceBytes r.1 0 32)
      let b := Config.kemEncaps eph (sliceBytes r.1 32 32)
      .next ((r.2.setKeys n { k with peerHs1 := msg, hs2 := a.1 ++ b.1, ownSecrets := a.2 ++ b.2 }).sendKey n 2 0 (a.1 ++ b.1))

/-- T of a session (R459). -/
def transcriptOf (s : State) (p : Nat) (k : Keys) (hs2 : List Byte) : List Byte :=
  let lo := s.isLo p
  shake256 64 (labelBytes "KX4 LINK T" ++ orderLo lo k.hs1 k.peerHs1 ++ orderLo lo k.hs2 hs2 ++
    orderLo lo (natLe 2 s.moduleId) (natLe 2 (s.peerModule p)))

/-- HS2_RECEIVE: T, S_0, the phase 0 material, and CONFIRM (R459, R460). -/
def execHs2Receive (p : PortId) (msg : List Byte) (s : State) : Host.Outcome State Fault Refusal :=
  let n := p.val
  let msg := (s.keyMessage n 2 0 msg).bytes
  let u := s.dropMessage n 2
  let k := (u.link n).keys
  if !s.keying n then .next s
  else if msg.length != 3136 || k.hs2.isEmpty || !k.transcript.isEmpty then .next (u.keyFail n)
  else
    let lo := s.isLo n
    let peer := Config.kemDecaps s.staticKey.2 (sliceBytes msg 0 1568) ++ Config.kemDecaps k.ephKey (sliceBytes msg 1568 1568)
    let t := transcriptOf s n k msg
    let s0 := shake256 64 (labelBytes "KX4 LINK S0" ++ t ++ orderLo lo k.ownSecrets peer)
    let m := phaseKeys s0
    .next ((u.setKeys n { k with transcript := t, secret := s0, secretPhase := 0, material := [(0, m)], confirmSent := true }).sendKey
      n 3 0 (confirmTag m t lo))

/-- CONFIRM_RECEIVE: the peer's tag verified; the session starts (R460). -/
def execConfirmReceive (p : PortId) (msg : List Byte) (s : State) : Host.Outcome State Fault Refusal :=
  let n := p.val
  let msg := (s.keyMessage n 3 0 msg).bytes
  let u := s.dropMessage n 3
  let k := (u.link n).keys
  if !s.keying n then .next s
  else if msg.length = 16 && k.confirmSent && msg == confirmTag ((k.of 0).getD []) k.transcript (!s.isLo n) then
    .next (u.startSession n)
  else .next (u.keyFail n)

/-- Whether a re-key message of a phase is due on a port (R461). -/
def rekeyOpen (s : State) (p : Nat) : Bool := s.doffStep == 0 && (s.link p).keys.established && !(s.link p).keys.secret.isEmpty

/-- RK1_RECEIVE: answered with RK2 for the next phase (R461). -/
def execRk1Receive (p : PortId) (phase : BitVec 2) (msg : List Byte) (s : State) : Host.Outcome State Fault Refusal :=
  let n := p.val
  let m := s.keyMessage n 4 phase.toNat msg
  let msg := m.bytes
  let u := s.dropMessage n 4
  let k := (u.link n).keys
  if !rekeyOpen s n then .next s
  else if m.phase != (k.secretPhase + 1) % 4 || msg.length != 1568 || !k.rkOwn.isEmpty then .next (u.rekeyFail n)
  else
    let r := u.random 1
    let a := Config.kemEncaps msg r.1
    .next (((r.2.setKeys n { k with rkOwn := a.2 }).sendKey n 5 (k.secretPhase + 1) a.1).finishRekey n)

/-- RK2_RECEIVE: the next phase's secret (R461). -/
def execRk2Receive (p : PortId) (phase : BitVec 2) (msg : List Byte) (s : State) : Host.Outcome State Fault Refusal :=
  let n := p.val
  let m := s.keyMessage n 5 phase.toNat msg
  let msg := m.bytes
  let u := s.dropMessage n 5
  let k := (u.link n).keys
  if !rekeyOpen s n then .next s
  else
    match k.rkKey with
    | none => .next (u.rekeyFail n)
    | some dk =>
      if m.phase != (k.secretPhase + 1) % 4 || msg.length != 1568 || !k.rkPeer.isEmpty then .next (u.rekeyFail n)
      else .next ((u.setKeys n { k with rkPeer := Config.kemDecaps dk msg }).finishRekey n)

/-- KEY_PHASE_CHANGE: the transmit direction's change is due; it happens when the next secret is ready (R256, R461). -/
def execKeyPhaseChange (p : PortId) (s : State) : Host.Outcome State Fault Refusal :=
  let n := p.val
  let k := (s.link n).keys
  if !k.established || s.doffStep != 0 then .next s
  else if (k.of (k.txPhase + 1)).isSome then
    let s := s.setKeys n (pruneKeys { k with txPhase := k.txPhase + 1, phaseBolts := 0, due := false })
    .next ((s.startRekey n).pump n)
  else .next (s.setKeys n { k with due := true })

/-- LINK_REKEY_TIMEOUT: the next phase not ready 10 ms after it was due (R461). -/
def execLinkRekeyTimeout (p : PortId) (s : State) : Host.Outcome State Fault Refusal :=
  let n := p.val
  let k := (s.link n).keys
  if s.doffStep = 0 && k.established && (k.due || decide (2 ^ 30 ≤ k.phaseBolts)) && (k.of (k.txPhase + 1)).isNone then
    .next ((s.note 0x1903 (portFaultAt s n)).losePort n)
  else .next s

/-- ACCEPTANCE_WINDOW_CLOSE: the previous receive phase is no longer accepted (R256, R461). -/
def execAcceptanceWindowClose (p : PortId) (s : State) : Host.Outcome State Fault Refusal :=
  let n := p.val
  let k := (s.link n).keys
  .next (s.setKeys n (pruneKeys { k with rxPrevious := false }))

end Sys2Proof.Machine
end

