-- ==== Sys2Proof/Machine/Power.lean ====
section
/-! DEFINITION. Power, droop and heat (R400 to R420): the window, the budget, the learning split, the model states, the
ladder, temperature episodes, and the commands of cap and clock mode. Powers are exact rationals in W. -/
namespace Sys2Proof.Machine

/-! ### Operating points and floors (R400, R401, R404, R405) -/

/-- Relative dynamic power of a point (R400). -/
def relPower (p : Nat) : Rat := ((([33, 44, 56, 76, 100, 113, 127, 142] : List Nat).getD p 100 : Nat) : Rat) / 100

/-- An exact rational as FP32 bits. -/
def f32OfRat (x : Rat) : Nat := (toF32 (.fin (decide (x < 0)) x.num.natAbs x.den 0)).toNat

/-- Whether CLOCK_MODE is FIXED. -/
def State.fixedMode (s : State) : Bool := s.val ⟨0x5000, 1, 0⟩ == 1

/-- FLOOR_W or FLOOR_FIXED_W of the mode in force (R405). -/
def State.floorW (s : State) : Nat := if s.fixedMode then 1288 else 1220

/-- CROWN_OP (R400). -/
def opKey (c : Nat) : Key := ⟨0x2000, 0x0B, c⟩

/-- The power of a cluster held, if its domain is not OFF (R405). -/
def clusterFloor (s : State) (k : Nat) : Rat :=
  if s.domain (16 * (k / 8) + k % 8) = 0 then 0 else if s.fixedMode then 11 else 9

/-- The floor of a crown's domains other than its clusters (R405). -/
def otherFloor (s : State) (c : Nat) : Rat :=
  let on := fun (i : Nat) (w off : Rat) => if s.domain (16 * c + i) = 0 then off else w
  on 8 10 2 + on 9 10 2 + on 10 10 2 + on 11 10 2 + on 12 4 0 + on 13 4 0 + on 14 8 0 + on 15 6 0

/-- Clusters of a crown. -/
def crownClusters (c : Nat) : List Nat := (List.range 8).map fun i => 8 * c + i

/-- A sum. -/
def sumRat (xs : List Rat) : Rat := xs.foldl (· + ·) 0

/-- The floor of a crown (R405). -/
def crownFloor (s : State) (c : Nat) : Rat := otherFloor s c + sumRat ((crownClusters c).map (clusterFloor s))

/-- BAND_SHARE_W (R404). -/
def State.bandShare (s : State) : Nat := 380 + 56 * ((List.range 4).filter fun q => s.domain (64 + q) == 1).length

/-- The highest point a crown may use, by the hottest of its own sensors in hundredths of a degree (R401). -/
def highestPoint (s : State) (hottest : Int) : Nat :=
  if s.fixedMode then 4
  else
    let m := s.val ⟨0x5000, 3, 0⟩
    if s.val ⟨0x5000, 2, 0⟩ = 1 && decide (hottest < 9000) then m else min m 4

/-! ### Learning (R408, R409) -/

/-- The job stream whose work a cluster does: the lowest with a core of it. -/
def clusterStream (s : State) (k : Nat) : Option Nat :=
  (List.range 4).find? fun j => (List.range 8).any fun i => s.inMask j (8 * k + i)

/-- Where the learned power of a cluster's job stream and phase stands. -/
def learnedKey (s : State) (k j : Nat) : Nat := (32 * j + k) * 32 + mapGet 0 s.phases k / 16

/-- A cluster's predicted power at point 4 (R409): the prior, or what is learned from 4 samples on. -/
def clusterPrior (s : State) (k : Nat) : Rat :=
  let prior : Rat := 9 + ((mapGet 0 s.phases k % 16 : Nat) : Rat) * 61 / 15
  match clusterStream s k with
  | none => prior
  | some j =>
    let e := mapGet (0, 0) s.learned (learnedKey s k j)
    if e.2 < 4 then prior else e.1

/-- Power at point 4 as it is at another point: the dynamic part above the held cluster scales (R400). -/
def atPoint (p : Nat) (w : Rat) : Rat := 9 + (w - 9) * relPower p

/-- What a running count has gained since the last window. -/
def State.gained (s : State) (key now : Nat) : Nat :=
  let last := mapGet 0 s.lastCounts key
  if last ≤ now then now - last else now

/-- A counter summed over the cores of a cluster. -/
def clusterSum (s : State) (k index : Nat) : Nat :=
  ((List.range 8).map fun i => s.val ⟨index, 1, 8 * k + i⟩).foldl (· + ·) 0

/-- HBM atoms that the stacks of a crown have read and written (R221). -/
def crownAtoms (s : State) (c : Nat) : Nat :=
  ((List.range 8).map fun i => s.val (stackKey (8 * c + i) 6) + s.val (stackKey (8 * c + i) 7)).foldl (· + ·) 0

/-- The running counts of the activity estimate at a window's end (R411). -/
def windowCounts (s : State) : List (Nat × Nat) :=
  ((List.range 32).map fun k => (k, clusterSum s k 0x8010)) ++ ((List.range 32).map fun k => (32 + k, clusterSum s k 0x8011)) ++
    (List.range 4).map fun c => (64 + c, crownAtoms s c)

/-- A cluster's activity estimate for a window (R226, R409, R411). -/
def clusterActivity (s : State) (w : WindowSample) (k : Nat) : Rat :=
  let c := k / 8
  let term := fun (i n : Nat) => Config.activityCoeff c (mapGet 0 s.calibrations c) i * ((n : Nat) : Rat)
  term 0 (s.gained k (clusterSum s k 0x8010) + w.matWaits.getD k 0) +
    term 1 (s.gained (32 + k) (clusterSum s k 0x8011) + w.vecWaits.getD k 0) + term 2 (w.portTraffic.getD k 0)

/-- A crown's activity estimate for a window in W (R411). -/
def crownEstimate (s : State) (w : WindowSample) (c : Nat) : Rat :=
  let term := fun (i n : Nat) => Config.activityCoeff c (mapGet 0 s.calibrations c) i * ((n : Nat) : Rat)
  sumRat ((crownClusters c).map (clusterActivity s w)) + term 3 (s.gained (64 + c) (crownAtoms s c)) + term 4 1

/-- A crown's measurement in W (R411). -/
def crownMeasured (w : WindowSample) (c : Nat) : Rat := ((w.crownMeasured.getD c 0 : Nat) : Rat) / 1000

/-- A cluster's attributed power: its part of the crown's measurement by its activity estimate; a crown without activity gives
none to divide by, and the part is a free value (R409). -/
def attributed (s : State) (w : WindowSample) (k : Nat) : Rat × State :=
  let total := sumRat ((crownClusters (k / 8)).map (clusterActivity s w))
  if total = 0 then let f := s.free 24; (((f.1 : Nat) : Rat) / 1000, f.2)
  else (crownMeasured w (k / 8) * clusterActivity s w k / total, s)

/-- One cluster's sample of a window for one job stream (R409): weight 1/8; what the learned power starts from is free. -/
def learnOne (w : WindowSample) (k : Nat) (s : State) (j : Nat) : State :=
  let key := learnedKey s k j
  let e := mapGet (0, 0) s.learned key
  let a := attributed s w k
  let x := 9 + (a.1 - 9) / relPower (s.val (opKey (k / 8)))
  let start : Rat × State := if e.2 = 0 then let f := a.2.free 24; (((f.1 : Nat) : Rat) / 1000, f.2) else (e.1, a.2)
  { start.2 with learned := mapSet (0, 0) start.2.learned key (start.1 + (x - start.1) / 8, min 4 (e.2 + 1)) }

/-- Every cluster that works for a job stream learns (R409). -/
def learn (w : WindowSample) (s : State) : State :=
  (List.range 32).foldl (fun s k =>
    ((List.range 4).filter fun j => (clustersOf s j).contains k).foldl (learnOne w k) s) s

/-! ### The model (R412) -/

/-- MODEL_STATE. -/
def modelKey (c : Nat) : Key := ⟨0x2000, 0x0E, c⟩

/-- Whether an estimate is more than a quarter of the measurement away from it. -/
def modelOff (estimate measured : Rat) : Bool :=
  decide (measured / 4 < estimate - measured) || decide (measured / 4 < measured - estimate)

/-- The enforced power of a crown (R411, R412). -/
def enforcedPower (trusted : Bool) (estimate measured : Rat) : Rat :=
  if trusted then max estimate measured else measured * 11 / 10

/-- The enforced power of a window recorded; the counts of the estimate run on from here, and the coefficients of a RETRAINING
crown are calibrated anew (R411, R412). -/
def State.enforce (s : State) (w : WindowSample) (c : Nat) : State :=
  let st := s.val (modelKey c)
  { s with
    enforced := mapSet 0 s.enforced c (enforcedPower (st == 0) (crownEstimate s w c) (crownMeasured w c))
    calibrations := if st = 2 then mapSet 0 s.calibrations c (mapGet 0 s.calibrations c + 1) else s.calibrations }

/-- Whether a crown's enforced power exceeds its budget in W (R411). -/
def State.overBudget (s : State) (c : Nat) (budget : Rat) : Bool := decide (budget < mapGet 0 s.enforced c)

/-- A crown's model judged at the end of a window (R412). -/
def judgeModel (w : WindowSample) (s : State) (c : Nat) : State :=
  let off := modelOff (crownEstimate s w c) (crownMeasured w c)
  let runs := mapGet 0 s.modelRuns c
  let put := fun (s : State) (st n : Nat) => { s with modelRuns := mapSet 0 s.modelRuns c n }.setVal (modelKey c) st
  match s.val (modelKey c) with
  | 0 =>
    if !off then put s 0 0
    else if runs + 1 < 10 then put s 0 (runs + 1)
    else ((put s 1 0).bump ⟨0x2000, 0x0F, 0⟩ 1).note 0x1701 { domain := 0, instanceNo := c, clock := clkCore c, detail := c }
  | 1 => if s.phaseMet.contains c then put s 2 0 else s
  | _ => if off then put s 1 0 else if runs + 1 < 10 then put s 2 (runs + 1) else put s 0 0

/-- The factor on predictions of a crown (R412). -/
def modelScale (s : State) (c : Nat) : Rat := if s.val (modelKey c) = 0 then 1 else 11 / 10

/-! ### The budget (R410) and the ladder (R413) -/

/-- A power pool split among parts given by floor, want and limit (R410): floors first, the spare in proportion, what the
minimum freed given once more. -/
def splitPool (pool : Rat) (xs : List (Rat × Rat × Rat)) : List Rat :=
  let top := fun (x : Rat × Rat × Rat) => min x.2.1 x.2.2
  let spare := pool - sumRat (xs.map (·.1))
  let total := sumRat (xs.map fun x => x.2.1 - x.1)
  let first := xs.map fun x => x.1 + spare * (x.2.1 - x.1) / total
  let cut := (first.zip xs).map fun e => min e.1 (top e.2)
  let freed := sumRat first - sumRat cut
  let weight := fun (e : Rat × (Rat × Rat × Rat)) => if e.1 < top e.2 then e.2.2.1 - e.2.1 else 0
  let total2 := sumRat ((cut.zip xs).map weight)
  (cut.zip xs).map fun e => min (top e.2) (e.1 + freed * weight e / total2)

/-- A cluster's predicted power at a point and full duty, at least its floor. -/
def clusterAt (s : State) (p k : Nat) : Rat :=
  if s.domain (16 * (k / 8) + k % 8) = 0 then 0 else max (clusterFloor s k) (atPoint p (clusterPrior s k))

/-- A crown's predicted power at a point and full duty, with its HBM part (R410, R412). -/
def crownAt (s : State) (hbm : Rat) (p c : Nat) : Rat :=
  modelScale s c * (otherFloor s c + hbm + sumRat ((crownClusters c).map (clusterAt s p)))

/-- A level of the ladder: point, duty and hold. -/
structure Level where
  point : Nat
  duty : Nat
  hold : Nat
  deriving DecidableEq, Repr

/-- The ladder from its highest level (R413). -/
def ladder (s : State) (top : Nat) : List Level :=
  let low := if s.fixedMode then 4 else 0
  ((List.range (top + 1 - low)).map fun i => ⟨top - i, 16, 0⟩) ++ ((List.range 12).map fun i => ⟨low, 15 - i, 0⟩) ++
    (List.range 16).map fun i => ⟨low, 4, i + 1⟩

/-- The predicted power at a level: duty and hold scale what exceeds the floor (R414, R415). -/
def levelPower (fl full : Rat) (l : Level) : Rat :=
  fl + (full - fl) * ((l.duty : Nat) : Rat) / 16 * (1 - ((l.hold : Nat) : Rat) / 16)

/-- The highest level that fits a budget; the lowest where none does (R413). -/
def takeLevel (s : State) (hbm : Rat) (c top : Nat) (budget : Rat) : Level :=
  let fl := modelScale s c * crownFloor s c
  let ls := ladder s top
  (ls.find? fun l => decide (levelPower fl (crownAt s hbm l.point c) l ≤ budget)).getD (ls.getLast?.getD ⟨4, 16, 0⟩)

/-- The duty of a cluster on its own budget (R413). -/
def clusterDuty (fl full budget : Rat) : Nat :=
  (((List.range 13).map fun i => 16 - i).find? fun d => decide (levelPower fl full ⟨0, d, 0⟩ ≤ budget)).getD 4

/-! ### Heat (R418, R419) -/

/-- The hottest of a list of readings. -/
def hottest (ts : List Int) : Int :=
  match ts with
  | [] => 0
  | t :: ts => ts.foldl max t

/-- A sensor read (R418): its episodes begin and end with 2 °C of hysteresis. -/
def readSensor (s : State) (e : Nat × Int) : State :=
  let a : FaultAt := { locKind := 6, location := e.1 }
  let throttled := s.hot.contains e.1
  let limited := s.overheated.contains e.1
  let s := if throttled then if e.2 < 9300 then { s with hot := s.hot.filter (· != e.1) } else s
    else if 9500 ≤ e.2 then { s with hot := s.hot ++ [e.1] }.note 0x1702 a else s
  if limited then if e.2 < 10300 then { s with overheated := s.overheated.filter (· != e.1) } else s
  else if 10500 ≤ e.2 then { s with overheated := s.overheated ++ [e.1] }.note 0x1703 a else s

/-- Readings with the code of each sensor (R442): crowns 16 each, the band 8, stacks, engines. -/
def sensorReadings (w : WindowSample) : List (Nat × Int) :=
  let number := fun (first : Nat) (ts : List Int) => (List.range ts.length).map fun i => (first + i, ts.getD i 0)
  ((List.range 4).flatMap fun c => number (16 * c) ((w.crownTemps.getD c []).take 16)) ++ number 0x100 (w.bandTemps.take 8) ++
    number 0x200 (w.stackTemps.take 32) ++ number 0x300 (w.engineTemps.take 16)

/-- The temperature that limits a crown: its own sensors, its stacks and the band (R419). -/
def crownHeat (w : WindowSample) (c : Nat) : Int :=
  hottest ((w.crownTemps.getD c []).take 16 ++ (w.stackTemps.drop (8 * c)).take 8 ++ w.bandTemps.take 8)

/-- The thermal limit (R419). -/
def thermalLimit (fl want : Rat) (t : Int) : Rat := fl + (want - fl) * max 0 (1 - ((t : Int) - 9500 : Rat) / 1000)

/-! ### The window (R403) -/

/-- Readings of the window in their entries (R421, R422). -/
def recordReadings (w : WindowSample) (s : State) : State :=
  let milli := fun (v : Nat) => f32OfRat (((v : Nat) : Rat) / 1000)
  let celsius := fun (t : Int) => f32OfRat (((t : Int) : Rat) / 100)
  let s := (s.setVal ⟨0x2000, 6, 0⟩ (milli w.inputMilliwatts)).setVal ⟨0x2000, 7, 0⟩ (milli w.inputMillivolts)
  let s := (List.range 4).foldl (fun s c =>
    ((s.setVal ⟨0x2000, 9, c⟩ (milli (w.crownMeasured.getD c 0))).setVal ⟨0x2000, 0x0A, c⟩ (f32OfRat (crownEstimate s w c))).setVal
      ⟨0x2100, 1, c⟩ (celsius (hottest ((w.crownTemps.getD c []).take 16)))) s
  let s := s.setVal ⟨0x2100, 2, 0⟩ (celsius (hottest (w.bandTemps.take 8)))
  let s := (List.range 32).foldl (fun s k => s.setVal ⟨0x2100, 3, k⟩ (celsius (w.stackTemps.getD k 0))) s
  (List.range 16).foldl (fun s k => s.setVal ⟨0x2100, 4, k⟩ (celsius (w.engineTemps.getD k 0))) s

/-- CLUSTER_DUTY. -/
def dutyKey (k : Nat) : Key := ⟨0x2000, 0x0C, k⟩
/-- CROWN_HOLD. -/
def holdKey (c : Nat) : Key := ⟨0x2000, 0x0D, c⟩

/-- Windows that ended throttled or held are counted (R421). -/
def countWindow (s : State) (c : Nat) : State :=
  let s := if (crownClusters c).any fun k => decide (s.val (dutyKey k) < 16) then s.bump ⟨0x2000, 0x10, c⟩ 1 else s
  if s.val (holdKey c) = 0 then s else s.bump ⟨0x2000, 0x11, c⟩ 1

/-- A crown's level for the next window: budget, point to change to, duties, hold (R410, R413). -/
def applyBudget (hbm : List Rat) (w : WindowSample) (s : State) (e : Nat × Rat) : State :=
  let c := e.1
  let h := hbm.getD c 0
  let top := highestPoint s (hottest ((w.crownTemps.getD c []).take 16))
  let l := takeLevel s h c top e.2
  let ks := crownClusters c
  let parts := ks.map fun k => (clusterFloor s k, modelScale s c * clusterAt s top k, modelScale s c * clusterAt s top k)
  let shares := splitPool (e.2 - modelScale s c * (otherFloor s c + h)) parts
  let duties := (ks.zip shares).map fun x =>
    (x.1, min l.duty (clusterDuty (clusterFloor s x.1) (modelScale s c * clusterAt s l.point x.1) x.2))
  let s := s.setVal ⟨0x2000, 8, c⟩ (f32OfRat e.2)
  let s := duties.foldl (fun s x => s.setVal (dutyKey x.1) x.2) s
  let s := s.setVal (holdKey c) l.hold
  { s with opTarget := if l.point = s.val (opKey c) then mapErase s.opTarget c else mapInsert c l.point (mapErase s.opTarget c) }

/-- The split of the pool and the ladder at a window boundary (R404, R410, R413, R419). What HBM is predicted to draw the spec
does not give: a free value of each crown. -/
def splitBudget (w : WindowSample) (s : State) : State :=
  let hbm := (List.range 4).map fun c => (((Config.freeBits (s.tick + c)).toNat % 2 ^ 24 : Nat) : Rat) / 1000
  let s := { s with tick := s.tick + 4 }
  let parts := (List.range 4).map fun c =>
    let top := highestPoint s (hottest ((w.crownTemps.getD c []).take 16))
    let fl := crownFloor s c
    let want := max fl (crownAt s (hbm.getD c 0) top c)
    (fl, want, thermalLimit fl want (crownHeat w c))
  let s := (List.range 4).foldl (fun s c =>
    let x := parts.getD c (0, 0, 0)
    if x.2.2 < x.2.1 then s.bump ⟨0x2100, 8, c⟩ 1 else s) s
  let pool := 935 / 1000 * ((s.capNow : Nat) : Rat) - ((s.bandShare : Nat) : Rat)
  ((List.range 4).zip (splitPool pool parts)).foldl (applyBudget hbm w) s

/-- What ends with a window apart from power: the suppression of notes (R443) and the count of tag failures (R256). -/
def State.endWindow (s : State) : State :=
  { s with notedNow := [], doffNow := false
           links := s.links.foldl (fun m e => mapSet {} m e.1 { e.2 with tagFails := 0 }) [] }

/-- The ratio of the peer's clock to its own that the probe logic reports of a 1 ms window, a free value, on every port that
exchanges bolts (R249). -/
def State.countPeers (s : State) : State :=
  (List.range 32).foldl (fun s p =>
    if 3 ≤ s.val ⟨0x3100 + p, 3, 0⟩ && s.val ⟨0x3100 + p, 3, 0⟩ ≤ 7 && s.doffStep == 0 then
      let f := s.free 32
      f.2.setVal ⟨0x3100 + p, 0x0C, 0⟩ f.1
    else s) s

/-- Whether the input power of a window is within what the module holds: at most 1.10 C, and the mean of ten windows at most the
mean of their caps (R403, R406). -/
def inputHeld (w : WindowSample) (s : State) : Bool :=
  let all := s.inputHistory ++ [(w.inputMilliwatts, s.capNow)]
  decide (w.inputMilliwatts ≤ 1100 * s.capNow) &&
    (all.length < 10 || decide ((all.map (·.1)).foldl (· + ·) 0 ≤ 1000 * (all.map (·.2)).foldl (· + ·) 0))

/-- A window's input power kept for the mean over ten (R403). -/
def State.keepInput (s : State) (w : WindowSample) : State :=
  let all := s.inputHistory ++ [(w.inputMilliwatts, s.capNow)]
  { s with inputHistory := all.drop (all.length - 9) }

/-- POWER_WINDOW: the end of a 1 ms window (R403, R409 to R413, R418, R419). A doffed module only reads its sensors. A sample
whose input power breaks what R403 says the module holds is no window of the module (log entry 61). -/
def execPowerWindow (w : WindowSample) (s : State) : Host.Outcome State Fault Refusal :=
  if s.lifecycle < 2 || s.mrstLow || !inputHeld w s then .next s
  else
    let s := (sensorReadings w).foldl readSensor (recordReadings w s)
    let s := s.keepInput w
    if s.lifecycle = 2 || s.lifecycle = 6 then .next s.endWindow
    else
      let s := (List.range 4).foldl countWindow (learn w s)
      let s := (List.range 4).foldl (judgeModel w) s
      let s := (List.range 4).foldl (fun s c => s.enforce w c) s
      let s := { s with lastCounts := windowCounts s }
      let s := { s with capNow := s.val ⟨0x2000, 1, 0⟩, phaseMet := [] }
      .next (splitBudget w s).countPeers.endWindow

/-! ### Commands (R400, R402, R406, R407, R417) -/

/-- CAP_W's own part (R406): refusals are counted. -/
def capWBody (v : Nat) (s : State) : SetResult :=
  let refused := s.bump ⟨0x2001, 1, 0⟩ 1
  if 4000 < v || v < 1220 then .refuseIn refused stRange 0
  else if v < s.floorW then .refuseIn refused stState 0
  else .ok (s.setVal ⟨0x2000, 1, 0⟩ v)

/-- CAP_W_SET (R406): in force from the next window boundary. -/
def execCapWSet (rq : Rq) (v : Word) (s : State) : Host.Outcome State Fault Refusal :=
  .next (s.dictSet rq 0x2000 1 (capWBody v.toNat))

/-- CAP_FORCE's own part (R407). -/
def capForceBody (v : Nat) (s : State) : SetResult :=
  if v < s.floorW then .ok (s.doff 0x3701 { detail := v }) else .ok (s.setVal ⟨0x2000, 1, 0⟩ (min v 4000))

/-- CAP_FORCE (R407). -/
def execCapForce (rq : Rq) (v : Word) (s : State) : Host.Outcome State Fault Refusal :=
  .next (s.dictSet rq 0x2000 2 (capForceBody v.toNat))

/-- CLOCK_MODE's own part (R402). -/
def clockModeBody (v : Nat) (s : State) : SetResult :=
  if 1 < v then .refuse stRange 0
  else if (List.range 4).any s.stepRunning then .refuse stState 0
  else if v = 1 && s.val ⟨0x2000, 1, 0⟩ < 1288 then .refuse stState 0
  else if v = 0 && s.rings.any fun r => r.compute != 0 || r.bwdCompute != 0 then .refuse stState 0
  else .ok (s.setVal ⟨0x5000, 1, 0⟩ v)

/-- CLOCK_MODE_SET (R402). -/
def execClockModeSet (rq : Rq) (v : Byte) (s : State) : Host.Outcome State Fault Refusal :=
  .next (s.dictSet rq 0x5000 1 (clockModeBody v.toNat))

/-- OP_CHANGE_DONE: a crown's change of point completes (R400). -/
def execOpChangeDone (c : CrownId) (s : State) : Host.Outcome State Fault Refusal :=
  match s.opTarget.find? (·.1 == c.val) with
  | none => .next s
  | some e => .next ({ s with opTarget := mapErase s.opTarget c.val }.setVal (opKey c.val) e.2)

/-- DROOP_DETECT: the crown's core clock is stretched (R417). -/
def execDroopDetect (c : CrownId) (s : State) : Host.Outcome State Fault Refusal :=
  if s.stretched.contains c.val || s.lifecycle = 0 || s.lifecycle = 6 then .next s
  else .next ({ s with stretched := s.stretched ++ [c.val] }.bump ⟨0x2000, 0x12, c.val⟩ 1)

/-- DROOP_RECOVERY: the stretch ends; its cycles are counted (R417). -/
def execDroopRecovery (c : CrownId) (n : Nat) (s : State) : Host.Outcome State Fault Refusal :=
  if !s.stretched.contains c.val then .next s
  else .next ({ s with stretched := s.stretched.filter (· != c.val) }.bump ⟨0x2000, 0x13, c.val⟩ n)

end Sys2Proof.Machine
end

