-- ==== Sys2Proof/Machine/Lining.lean ====
section
/-! DEFINITION. The lining (R449 to R455, R462 to R466): signed images and banks, staging, measurements, and the lining
commands. -/
namespace Sys2Proof.Machine

/-! ### Signed images (R449, R450) -/

/-- `IMG.KIND`. -/
def imgKind (b : ImageBytes) : Nat := leAt b 2 1
/-- `IMG.STEPPING`. -/
def imgStepping (b : ImageBytes) : Nat := leAt b 5 1
/-- `IMG.KEY_SLOT`. -/
def imgSlot (b : ImageBytes) : Nat := leAt b 6 1
/-- `IMG.SECURITY_VERSION`. -/
def imgSecurity (b : ImageBytes) : Nat := leAt b 8 4
/-- `IMG.PAYLOAD_BYTES`. -/
def imgPayload (b : ImageBytes) : Nat := leAt b 12 4
/-- `IMG.BUILD`. -/
def imgBuild (b : ImageBytes) : Nat := leAt b 16 4
/-- Header and payload: what is signed. -/
def imgSigned (b : ImageBytes) : List Byte := b.take (64 + imgPayload b)
/-- The public key. -/
def imgKey (b : ImageBytes) : List Byte := sliceBytes b (64 + imgPayload b) 64
/-- Bytes of the whole image. -/
def imgBytes (b : ImageBytes) : Nat := 64 + imgPayload b + 64 + 29792

/-- Whether an image's header is well formed and its CRC verifies (R449). -/
def imgHeaderOk (b : ImageBytes) : Bool :=
  leAt b 0 2 == 1 && decide (1 ≤ imgKind b) && decide (imgKind b ≤ 5) && leAt b 3 2 == 0 && leAt b 7 1 == 0 &&
    decide (imgSlot b ≤ 7) && decide (imgSecurity b ≤ 64) && imgPayload b % 64 == 0 && decide (64 ≤ imgPayload b) &&
    decide (imgPayload b ≤ 33554432) && leAt b 20 40 == 0 && crc32c (b.take 60) == leAt b 60 4

/-- OWNER_KEY_DIGEST of a slot. -/
def ownerKey (slot : Nat) : Key := ⟨0x6000, 0x0A, slot⟩
/-- OWNER_KEY_REVOKED. -/
def revokedKey : Key := ⟨0x6000, 0x0D, 0⟩
/-- SECURITY_VERSION. -/
def securityKey : Key := ⟨0x6000, 4, 0⟩

/-- Whether an owner slot is fused and not revoked. -/
def State.ownerOk (s : State) (slot : Nat) : Bool := s.val (ownerKey slot) != 0 && !(s.val revokedKey).testBit slot

/-- Whether a public key is that of an image's slot, of the sort its kind needs (R450). -/
def slotKeyOk (s : State) (kind slot : Nat) (key : List Byte) : Bool :=
  if kind = 5 then decide (4 ≤ slot) && s.ownerOk (slot - 4) && digest64 key == s.val (ownerKey (slot - 4))
  else decide (slot < 4) && digest64 key == (Config.rootDigest slot).toNat

/-- The pairs of a configuration payload: index, subindex, value, reserved (R450). -/
def configPairs (b : ImageBytes) : List (Nat × Nat × Nat × Nat) :=
  (List.range (imgPayload b / 8)).map fun i =>
    let o := 64 + 8 * i
    (leAt b (o + 6) 2, leAt b (o + 5) 1, leAt b o 4, leAt b (o + 4) 1)

/-- Whether a pair names an entry of 32 bits or fewer whose persistence is Flash. -/
def pairOk (p : Nat × Nat × Nat × Nat) : Bool :=
  match entryOf p.1 p.2.1 with
  | some e => e.persist == .flash && e.rows == 0 && decide (e.width ≤ 4) && decide (p.2.2.1 < 2 ^ (8 * e.width)) && p.2.2.2 == 0
  | none => false

/-- The first failing condition of R450, from 1; 6 a configuration payload that names what it may not (log entry 42). -/
def imageRefusal (s : State) (b : ImageBytes) : Option Nat :=
  let checks : List (Nat × Bool) := [
    (1, !imgHeaderOk b || b.length != imgBytes b),
    (2, imgStepping b != 0xB0),
    (3, decide (imgSecurity b < s.val securityKey)),
    (4, !slotKeyOk s (imgKind b) (imgSlot b) (imgKey b)),
    (5, !Config.slhVerify (imgKey b) (imgSigned b) (b.drop (64 + imgPayload b + 64))),
    (6, imgKind b == 5 && !(configPairs b).all pairOk)]
  (checks.find? (·.2)).map (·.1)

/-! ### Banks (R449, R452, R528) -/

/-- A bank by number: 0 A, 1 B. -/
def State.bank (s : State) (b : Nat) : Bank := if b = 0 then s.bankA else s.bankB
/-- A bank replaced. -/
def State.setBank (s : State) (b : Nat) (x : Bank) : State := if b = 0 then { s with bankA := x } else { s with bankB := x }

/-- The image of a kind written to a bank since it was shipped. -/
def Bank.written (x : Bank) (kind : Nat) : Option ImageBytes := x.images.find? fun b => imgKind b == kind

/-- Whether a bank's image of a kind is valid; a shipped one is released, and only its version can fall behind. -/
def kindValid (s : State) (x : Bank) (kind : Nat) : Bool :=
  match x.written kind with
  | some b => (imageRefusal s b).isNone
  | none => x.shipped.contains kind && decide (s.val securityKey ≤ (Config.shippedSecurity kind).toNat)

/-- Whether a bank holds valid images of kinds 1 to 4 (R454). -/
def bankFirm (s : State) (x : Bank) : Bool := [1, 2, 3, 4].all (kindValid s x)

/-- Whether a bank boots: a configuration image, if present, is valid as well (R452). -/
def bankBoots (s : State) (x : Bank) : Bool := bankFirm s x && ((x.written 5).isNone || kindValid s x 5)

/-- BOOT_BANK. -/
def State.bootBank (s : State) : Nat := s.val ⟨0x6000, 6, 0⟩

/-- `IMG.BUILD`, `IMG.SECURITY_VERSION` and SHAKE256 digest of the booted image of a kind, if the bank has one. -/
def bootedImage (s : State) (kind : Nat) : Option (Nat × Nat × Nat) :=
  let x := s.bank s.bootBank
  match x.written kind with
  | some b => some (imgBuild b, imgSecurity b, digest64 (imgSigned b))
  | none =>
    if x.shipped.contains kind then
      some ((Config.shippedBuild kind).toNat, (Config.shippedSecurity kind).toNat, (Config.shippedDigest kind).toNat)
    else none

/-! ### Measurements (R455) -/

/-- The security state that measurement 6 covers, each item as its dictionary value. -/
def securityState (s : State) : List Byte :=
  let b := fun (k : Key) => natLe 1 (s.val k)
  b ⟨0x6000, 2, 0⟩ ++ b ⟨0x6000, 3, 0⟩ ++ b securityKey ++ b liningKey ++ b (fabricKey 0x0A) ++
    ((List.range 4).flatMap fun i => natLe 64 (s.val (ownerKey i))) ++
    (List.range 32).flatMap fun p => natLe 64 (s.val ⟨0x6000, 0x10, p⟩)

/-- A measurement register by index 1 to 8. -/
def State.measurement (s : State) (i : Nat) : Nat :=
  if i ≤ 5 then match bootedImage s i with | some x => extendDigest 0 x.2.2 | none => 0
  else if i = 6 then digest64 (securityState s)
  else if i = 7 then s.routeMeasure
  else extendDigest 0 (Config.storeDigest s.storeOpened).toNat

/-! ### Staging (R454) -/

/-- FW_STAGE_STATE. -/
def stageKey : Key := ⟨0x6000, 9, 0⟩

/-- Whether a staging is under way. -/
def State.staging (s : State) : Bool := s.val stageKey % 256 == 1

/-- Whether bytes lie in a readable HBM region. -/
def readableHbm (s : State) (a n : Nat) : Bool :=
  inHbm a && match s.regionAt a n with | some r => r.read && r.state == .active | none => false

/-- FW_STAGE's own part. -/
def fwStageBody (v : Nat) (s : State) : SetResult :=
  if s.staging then .refuse stBusy 0
  else if 2 ^ 48 ≤ v then .refuse stRange 0
  else if !readableHbm s v 64 then .refuse stState 0
  else .ok ({ s with stageAddr := v }.setVal stageKey 1)

/-- FW_STAGE (R454). -/
def execFwStage (rq : Rq) (v : DWord) (s : State) : Host.Outcome State Fault Refusal :=
  .next (s.dictSet rq 0x6000 8 (fwStageBody v.toNat))

/-- FW_STAGE_DONE: the image is copied into the inactive bank and verified there (R454). One whose header does not hold is
not copied: its length and kind are unknown; poisoned bytes fail the signature. -/
def execFwStageDone (s : State) : Host.Outcome State Fault Refusal :=
  if !s.staging then .next s
  else
    let head := (s.seen .firmware).readMem s.stageAddr 64
    let n := if imgHeaderOk head then imgBytes head else 64
    let img := (s.seen .firmware).readMem s.stageAddr n
    let refusal := if imgHeaderOk head && readableHbm s s.stageAddr n then
        if (s.seen .firmware).spanPoisoned s.stageAddr n then some ((imageRefusal s img).getD 5) else imageRefusal s img
      else some 1
    let b := 1 - s.bootBank
    let x := s.bank b
    let s := if refusal = some 1 then s else
      s.setBank b { shipped := x.shipped.filter (· != imgKind img)
                    images := x.images.filter (fun o => imgKind o != imgKind img) ++ [img] }
    let t := match refusal with
      | none => s.setVal stageKey 2
      | some r => (s.setVal stageKey (3 + 256 * r)).note 0x1904 { detail := s.stageAddr }
    .next (t.firmwareReads s.stageAddr (if readableHbm s s.stageAddr n then n else 64))

/-- BOOT_BANK_NEXT's own part (R454). -/
def bootBankNextBody (v : Nat) (s : State) : SetResult :=
  if 1 < v then .refuse stRange 0
  else if v != s.bootBank && !bankFirm s (s.bank v) then .refuse stState 0
  else .ok (s.setVal ⟨0x6000, 7, 0⟩ v)

/-- BOOT_BANK_NEXT_SET (R454). -/
def execBootBankNextSet (rq : Rq) (v : Byte) (s : State) : Host.Outcome State Fault Refusal :=
  .next (s.dictSet rq 0x6000 7 (bootBankNextBody v.toNat))

/-! ### Lining commands (R454, R465) -/

/-- A lining command's own part: refused while a staging is in progress (R465). -/
def liningCommand (body : State → SetResult) (s : State) : SetResult := if s.staging then .refuse stBusy 0 else body s

/-- ROLLBACK_COMMIT's own part: SECURITY_VERSION becomes the lowest of the running bank (R454). -/
def rollbackCommitBody (v : Nat) : State → SetResult :=
  liningCommand <| boolCommand v fun s =>
    let versions := [1, 2, 3, 4, 5].filterMap fun k => (bootedImage s k).map fun x => x.2.1
    .ok (s.setVal securityKey (max (s.val securityKey) (versions.foldl min 64)))

/-- ROLLBACK_COMMIT (R454, R465). -/
def execRollbackCommit (rq : Rq) (v : Byte) (s : State) : Host.Outcome State Fault Refusal :=
  .next (s.dictSet rq 0x6000 5 (rollbackCommitBody v.toNat))

/-- The effect of ZEROISE (R465), with the state that the lining then shows. -/
def State.zeroise (s : State) (shows : Nat) : State :=
  let ports := (List.range 32).filter fun p => s.portState p == 5 || s.portState p == 6
  let s := ports.foldl State.losePort s
  let s := { s.zeroiseVolatile with linkSeed := [], storeSalt := [] }.note 0x1906 {}
  s.setVal liningKey shows

/-- ZEROISE's own part. A RETIRED lining stays RETIRED. -/
def zeroiseBody (v : Nat) : State → SetResult :=
  liningCommand <| boolCommand v fun s => .ok (s.zeroise (if s.retired then 3 else 2))

/-- ZEROISE (R465). -/
def execZeroise (rq : Rq) (v : Byte) (s : State) : Host.Outcome State Fault Refusal :=
  .next (s.dictSet rq 0x6000 0x13 (zeroiseBody v.toNat))

/-- ENROL's own part: a new seed of 64 bytes, the store sealed under a new salt. A RETIRED lining has no fused secret to seal
with (log entry 43). -/
def enrolBody (v : Nat) : State → SetResult :=
  liningCommand <| boolCommand v fun s =>
    if s.retired then .refuse stState 0
    else
      let r := s.random 3
      .ok ({ r.2 with linkSeed := r.1.take 64, storeSalt := r.1.drop 64 }.setVal liningKey 1)

/-- ENROL (R465). -/
def execEnrol (rq : Rq) (v : Byte) (s : State) : Host.Outcome State Fault Refusal :=
  .next (s.dictSet rq 0x6000 0x14 (enrolBody v.toNat))

/-- RETIRE's own part. -/
def retireBody (v : Nat) : State → SetResult :=
  liningCommand fun s => if v != 0xC0DEDEAD then .refuse stRange 0 else .ok { s.zeroise 3 with retired := true }

/-- RETIRE (R465). -/
def execRetire (rq : Rq) (v : Word) (s : State) : Host.Outcome State Fault Refusal :=
  .next (s.dictSet rq 0x6000 0x15 (retireBody v.toNat))

/-- OWNER_KEY_ADD's own part: the lowest empty slot. -/
def ownerKeyAddBody (digest : List Byte) : State → SetResult :=
  liningCommand fun s =>
    if digest.length != 64 then .refuse stType 0
    else
      match (List.range 4).find? fun i => s.val (ownerKey i) == 0 with
      | none => .refuse stState 0
      | some i => .ok (s.setVal (ownerKey i) (leNat digest))

/-- OWNER_KEY_ADD (R465). -/
def execOwnerKeyAdd (rq : Rq) (digest : List Byte) (s : State) : Host.Outcome State Fault Refusal :=
  .next (s.dictSet rq 0x6000 0x0B (ownerKeyAddBody digest))

/-- OWNER_KEY_REVOKE's own part. -/
def ownerKeyRevokeBody (v : Nat) : State → SetResult :=
  liningCommand fun s => if 3 < v then .refuse stRange 0 else .ok (s.setVal revokedKey (s.val revokedKey ||| 2 ^ v))

/-- OWNER_KEY_REVOKE (R465). -/
def execOwnerKeyRevoke (rq : Rq) (slot : Byte) (s : State) : Host.Outcome State Fault Refusal :=
  .next (s.dictSet rq 0x6000 0x0C (ownerKeyRevokeBody slot.toNat))

/-- PEER_KEY_DIGEST of a port. -/
def peerKey (p : Nat) : Key := ⟨0x6000, 0x10, p⟩

/-- PEER_KEY_DIGEST's own part: a row that changes for a port KEYING or UP refuses the SET (R462). -/
def peerKeyDigestBody (table : List Byte) (s : State) : SetResult :=
  if table.length != 2048 then .refuse stType 0
  else
    let row := fun (p : Nat) => leAt table (64 * p) 64
    if (List.range 32).any fun p => (s.portState p == 5 || s.portState p == 6) && row p != s.val (peerKey p) then .refuse stState 0
    else .ok ((List.range 32).foldl (fun s p => s.setVal (peerKey p) (row p)) s)

/-- PEER_KEY_DIGEST_SET (R462). -/
def execPeerKeyDigestSet (rq : Rq) (table : List Byte) (s : State) : Host.Outcome State Fault Refusal :=
  .next (s.dictSet rq 0x6000 0x10 (peerKeyDigestBody table))

end Sys2Proof.Machine
end

