-- ==== Sys2Proof/Machine/Spdm.lean ====
section
/-! DEFINITION. The SPDM responder (R456, R457): the exchange of versions and algorithms, certificates, signed answers through
the signer's queue, and large messages. Codes and the places of the fields used here are those of the published
standard; fields of its encodings that the spec does not give are the bytes of `Config.protocolBytes` (log entry 7). -/
namespace Sys2Proof.Machine

/-- Bytes padded with zeros to a length, and cut there. -/
def padTo (n : Nat) (bs : List Byte) : List Byte := sliceBytes bs 0 n

/-- A hexadecimal digit in ASCII (R488). -/
def hexDigit (n : Nat) : Byte := BitVec.ofNat 8 (if n < 10 then 48 + n else 55 + n)

/-- SERIAL_NUMBER (R488). -/
def serialText : List Byte := padTo 64 ((List.range 16).map fun i => hexDigit (Config.serial.toNat / 16 ^ (15 - i) % 16))

/-- A requester's connection. -/
def State.conn (s : State) (who : Requester) : SpdmConn := mapGet {} s.spdm (requesterId who)
/-- A connection replaced. -/
def State.setConn (s : State) (who : Requester) (x : SpdmConn) : State := { s with spdm := mapSet {} s.spdm (requesterId who) x }

/-- An SPDM ERROR with its error code. -/
def State.spdmError (s : State) (who : Requester) (code : Nat) (body : List Byte) : State :=
  s.emit (.spdm who 0x7F (BitVec.ofNat 8 code :: body))

/-- A response, held for CHUNK_GET behind ERROR LargeResponse where one message does not carry it (R456). -/
def State.spdmReply (s : State) (who : Requester) (code : Nat) (body : List Byte) : State :=
  if body.length ≤ Config.spdmChunk + 1 then s.emit (.spdm who code body)
  else
    let c := s.conn who
    let h := (c.handle + 1) % 256
    (s.setConn who { c with handle := h, response := some (0, BitVec.ofNat 8 code :: body) }).spdmError who 0x0F [BitVec.ofNat 8 h]

/-! ### Requests and answers -/

/-- The requests that the responder serves, large messages apart (R456). -/
inductive SpdmRequest where
  | version | capabilities
  | algorithms (req : List Byte)
  | digests
  | certificate (offset length : Nat)
  | challenge (nonce : List Byte)
  | measurements (index : Nat) (nonce : List Byte)
  deriving DecidableEq, Repr

/-- What a request is answered with: a response, an ERROR, or a response that the lining signs first. -/
inductive SpdmAnswer where
  | reply (code : Nat) (body : List Byte)
  | error (code : Nat)
  | signed (code : Nat) (body : List Byte)
  deriving DecidableEq, Repr

/-- How far a connection must have come for a request. -/
def SpdmRequest.needs : SpdmRequest → Nat
  | .version => 0
  | .capabilities => 1
  | .algorithms _ => 2
  | _ => 3

/-- Whether a request offers an algorithm. -/
def offers (req name : List Byte) : Bool := (List.range (req.length + 1)).any fun i => name.isPrefixOf (req.drop i)

/-- The two algorithms of the responder, which a requester must offer: extended ones under Jorset's PCI vendor ID (R456, R492). -/
def spdmAlgorithms : List (List Byte) := [Config.extAlgorithm 0x1E4F 0, Config.extAlgorithm 0x1E4F 1]

/-- The certificate chain of slot 0, for this module's part number and serial number (R456, R488). -/
def certificate : List Byte := Config.certChain (labelBytes "JUK4-768") serialText

/-- A DMTF measurement block of a register, as a raw bit stream of 64 bytes (R455, R456): index, specification 1, size, value type
with the bit of a raw stream, value size, value. The other bits of the type are open. -/
def measurementBlock (s : State) (i : Nat) : List Byte :=
  let typ := ((Config.protocolBytes (16 + i)).getD 0 0).toNat % 128
  [BitVec.ofNat 8 i, 1] ++ natLe 2 67 ++ [BitVec.ofNat 8 (128 + typ)] ++ natLe 2 64 ++ natLe 64 (s.measurement i)

/-- The measurement blocks that an index names: 0 their number, 1 to 8 one register, 0xFF all (R455, R456). -/
def measurementBlocks (s : State) (index : Nat) : Option (List Byte) :=
  if index = 0 then some [8]
  else if index ≤ 8 then some (1 :: measurementBlock s index)
  else if index = 0xFF then some (8 :: ((List.range 8).flatMap fun i => measurementBlock s (i + 1)))
  else none

/-- A request's answer, with the connection after it. Every register is sampled at once, as the request is taken (R457). -/
def spdmAnswer (s : State) (c : SpdmConn) : SpdmRequest → SpdmConn × SpdmAnswer
  | .version => ({ c with stage := 1, request := none, response := none }, .reply 0x04 (Config.protocolBytes 0))
  | .capabilities => ({ c with stage := max 2 c.stage }, .reply 0x61 (Config.protocolBytes 1))
  | .algorithms req =>
    let chosen := spdmAlgorithms.filter (offers req)
    ({ c with stage := if chosen.length = 2 then 3 else 2 }, .reply 0x63 (Config.protocolBytes 2 ++ chosen.flatten))
  | .digests => (c, .reply 0x01 (shake256 64 certificate))
  | .certificate offset length =>
    let rest := certificate.drop offset
    let part := rest.take length
    (c, if rest.isEmpty then .error 0x01 else .reply 0x02 (natLe 2 part.length ++ natLe 2 (rest.length - part.length) ++ part))
  | .challenge nonce => (c, .signed 0x03 (shake256 64 certificate ++ nonce))
  | .measurements index nonce =>
    (c, match measurementBlocks s index with
      | none => .error 0x01
      | some b => if s.retired then .error 0x05 else if nonce.isEmpty then .reply 0x60 b else .signed 0x60 (b ++ nonce))

/-- A response sent: alone, or in the acknowledgement of the last chunk of its request (R456). -/
def State.spdmSend (s : State) (who : Requester) (ack : List Byte) (code : Nat) (body : List Byte) : State :=
  if ack.isEmpty then s.spdmReply who code body else s.spdmReply who 0x05 (ack ++ BitVec.ofNat 8 code :: body)

/-- An answer delivered. One that needs a signature goes to the signer: one is signed and four wait; a further one is Busy (R457);
a RETIRED lining signs none (R465). -/
def State.deliver (s : State) (who : Requester) (ack : List Byte) : SpdmAnswer → State
  | .reply code body => s.spdmSend who ack code body
  | .error code => if ack.isEmpty then s.spdmError who code [] else s.spdmSend who ack 0x7F [BitVec.ofNat 8 code]
  | .signed code body =>
    if s.retired then if ack.isEmpty then s.spdmError who 0x05 [] else s.spdmSend who ack 0x7F [5]
    else if 5 ≤ s.signing.length then if ack.isEmpty then s.spdmError who 0x03 [] else s.spdmSend who ack 0x7F [3]
    else { s with signing := s.signing ++ [{ who := who, code := code, body := body, ack := ack }] }

/-- A request served when the responder is reachable and the connection has come far enough (R434, R456); ERROR
UnexpectedRequest before. -/
def serveSpdm (who : Requester) (ack : List Byte) (req : SpdmRequest) (s : State) : State :=
  if !s.reachable then s
  else if (s.conn who).stage < req.needs then s.deliver who ack (.error 0x04)
  else
    let a := spdmAnswer s (s.conn who) req
    (s.setConn who a.1).deliver who ack a.2

/-! ### The commands -/

/-- GET_VERSION: a new connection. -/
def execGetVersion (who : Requester) (s : State) : Host.Outcome State Fault Refusal := .next (serveSpdm who [] .version s)

/-- GET_CAPABILITIES. -/
def execGetCapabilities (who : Requester) (s : State) : Host.Outcome State Fault Refusal :=
  .next (serveSpdm who [] .capabilities s)

/-- NEGOTIATE_ALGORITHMS: SLH-DSA-SHAKE-256f and SHAKE256, where the request offers them (R456). -/
def execNegotiateAlgorithms (who : Requester) (req : List Byte) (s : State) : Host.Outcome State Fault Refusal :=
  .next (serveSpdm who [] (.algorithms req) s)

/-- GET_DIGESTS: the digest of the chain of slot 0. -/
def execGetDigests (who : Requester) (s : State) : Host.Outcome State Fault Refusal := .next (serveSpdm who [] .digests s)

/-- GET_CERTIFICATE: a part of the chain, with its length and what remains. -/
def execGetCertificate (who : Requester) (offset length : BitVec 16) (s : State) : Host.Outcome State Fault Refusal :=
  .next (serveSpdm who [] (.certificate offset.toNat length.toNat) s)

/-- CHALLENGE. -/
def execChallenge (who : Requester) (nonce : List Byte) (s : State) : Host.Outcome State Fault Refusal :=
  .next (serveSpdm who [] (.challenge nonce) s)

/-- GET_MEASUREMENTS: one with a nonce asks for a signature. -/
def execGetMeasurements (who : Requester) (index : Byte) (nonce : List Byte) (s : State) : Host.Outcome State Fault Refusal :=
  .next (serveSpdm who [] (.measurements index.toNat nonce) s)

/-- SIGNING_COMPLETE: the oldest request is answered with its signature (R457). -/
def execSigningComplete (s : State) : Host.Outcome State Fault Refusal :=
  match s.signing with
  | [] => .next s
  | x :: rest =>
    let s := { s with signing := rest }
    .next (if s.reachable then s.spdmSend x.who x.ack x.code (x.body ++ Config.slhSign (BitVec.ofNat 8 x.code :: x.body)) else s)

/-! ### Large messages -/

/-- The request that the bytes of a message spell: version, code, two parameters, and what follows them. -/
def spdmRequestOf (bs : List Byte) : Option SpdmRequest :=
  let rest := bs.drop 4
  match leAt bs 1 1 with
  | 0x81 => some .digests
  | 0x82 => some (.certificate (leAt rest 0 2) (leAt rest 2 2))
  | 0x83 => some (.challenge (rest.take 32))
  | 0x84 => some .version
  | 0xE0 => some (.measurements (leAt bs 3 1) (if leAt bs 2 1 % 2 = 1 then rest.take 32 else []))
  | 0xE1 => some .capabilities
  | 0xE3 => some (.algorithms rest)
  | _ => none

/-- The last chunk of a request: its acknowledgement carries the answer; ERROR UnsupportedRequest for a request that the responder
does not serve (R456). -/
def serveLarge (who : Requester) (ack bs : List Byte) (s : State) : State :=
  match spdmRequestOf bs with
  | some req => serveSpdm who ack req s
  | none => s.deliver who ack (.error 0x07)

/-- CHUNK_SEND: a large request in order; its last chunk is acknowledged with the response. -/
def execChunkSend (who : Requester) (handle : Byte) (seq : BitVec 16) (last : Bool) (data : List Byte) (s : State) :
    Host.Outcome State Fault Refusal :=
  let c := s.conn who
  let held : Option (List Byte) := if seq = 0 then some [] else
    match c.request with
    | some (h, n, bs) => if h = handle.toNat && n = seq.toNat then some bs else none
    | none => none
  let ack := handle :: natLe 2 seq.toNat
  if !s.reachable then .next s
  else if c.stage < 3 then .next (s.spdmError who 0x04 [])
  else
    match held with
    | none => .next ((s.setConn who { c with request := none }).spdmError who 0x01 [])
    | some bs =>
      if last then .next (serveLarge who ack (bs ++ data) (s.setConn who { c with request := none }))
      else .next ((s.setConn who { c with request := some (handle.toNat, seq.toNat + 1, bs ++ data) }).spdmReply who 0x05 ack)

/-- CHUNK_GET: the next part of a large response. -/
def execChunkGet (who : Requester) (handle : Byte) (seq : BitVec 16) (s : State) : Host.Outcome State Fault Refusal :=
  let c := s.conn who
  if !s.reachable then .next s
  else
    match c.response with
    | none => .next (s.spdmError who 0x04 [])
    | some (n, bs) =>
      if handle.toNat != c.handle || seq.toNat != n then .next ((s.setConn who { c with response := none }).spdmError who 0x01 [])
      else
        let part := bs.take (Config.spdmChunk + 1)
        let rest := bs.drop (Config.spdmChunk + 1)
        let s := s.setConn who { c with response := if rest.isEmpty then none else some (n + 1, rest) }
        .next (s.emit (.spdm who 0x06 (handle :: natLe 2 n ++ part)))

end Sys2Proof.Machine
end

