-- ==== Sys2Proof/Machine/Reads.lean ====
section
/-! DEFINITION. What a GET of a dictionary entry reads (R468 to R470, R491): the store's value, or, for tables and levels that
another part of the state holds, that part in the entry's layout. -/
namespace Sys2Proof.Machine

/-- Rows of a table in order, each as an integer of a number of bytes. -/
def rowsOf (width n : Nat) (row : Nat → Nat) : List Byte := (List.range n).flatMap fun i => natLe width (row i)

/-- The byte length of an entry's value. -/
def Entry.length (e : Entry) : Nat := e.width * e.cells * max 1 e.rows

/-- The value of an entry as the store holds it; a subindex 0 has its fixed value. -/
def storedValue (s : State) (e : Entry) (index sub : Nat) : List Byte :=
  if sub = 0 then natLe e.width e.dflt else rowsOf e.width (e.cells * max 1 e.rows) fun i => s.val ⟨index, sub, i⟩

/-- LIFECYCLE_STATE as it reads: a doff shows at its step 5 (R432, R473). -/
def State.lifecycleShown (s : State) : Nat := if s.doffStep = 3 || s.doffStep = 4 then s.lifeShown else s.lifecycle

/-- A row of SCHEDULE_TABLE (R309). -/
def scheduleRow (s : State) (n : Nat) : Nat :=
  match s.schedules.find? (·.row == n) with
  | none => 0
  | some x => x.id + x.state * 2 ^ 32 + (if 2 ≤ x.state && x.routeEpoch = s.routeEpoch then 2 ^ 35 else 0)

/-- Reservations booked at a port (R309). -/
def reservationCount (s : State) (p : Nat) : Nat :=
  ((s.schedules.filter fun x => decide (2 ≤ x.state)).flatMap fun x =>
    x.res.filter fun r => r.module == s.moduleId && r.port == p).length

/-- A row of SESSION_STATE (R466). -/
def sessionRow (s : State) (p : Nat) : Nat :=
  let k := (s.link p).keys
  if !k.established then 0
  else 1 + k.txPhase % 4 * 2 + k.rxPhase % 4 * 8 + (if k.txPhase < k.secretPhase then 32 else 0)

/-- A tile table entry in its layout (R53). -/
def tteWord (e : TileEntry) : Nat :=
  let st := match e.state with | .free => 0 | .filling => 1 | .present => 2 | .draining => 3
  st * 2 ^ 62 + (if e.bound then 2 ^ 61 else 0) + e.readers % 64 * 2 ^ 55 + e.base.toNat * 2 ^ 40 + e.capacity.toNat * 2 ^ 32 +
    e.releases.toNat * 2 ^ 29 + e.released.toNat * 2 ^ 26

/-- PEEK_CORE (R491). -/
def State.peekCore (s : State) : Nat := s.val ⟨0xA000, 1, 0⟩ % 256

/-- The tile peek entries (R491). -/
def peekValue (s : State) (sub : Nat) : List Byte :=
  let k := s.core s.peekCore
  let e := k.tte (s.val ⟨0xA000, 2, 0⟩)
  match sub with
  | 3 => natLe 8 (tteWord e)
  | 4 => if e.bound then bytesGet k.spad (256 * e.base.toNat) 64 else List.replicate 64 0
  | 5 => padTo 65536 (if e.bound then bytesGet k.spad (256 * (e.base.toNat + 1)) (256 * (e.capacity.toNat + 1)) else [])
  | _ => bytesGet k.spad (256 * s.val ⟨0xA000, 6, 0⟩) 256

/-- A row of COLL_TABLE or RING_TABLE (R316, R342). -/
def registeredRow (x : Option (Nat × Nat)) : Nat := match x with | some (addr, js) => addr + js * 2 ^ 48 + 2 ^ 50 | none => 0

/-- The address of a job stream's mapping, 0 when none (R376). -/
def mapAddr (m : List (Nat × Mapping)) (j : Nat) : Nat := match m.find? (·.1 == j) with | some e => e.2.addr | none => 0

/-- Entries of a job stream that another part of the state holds: quota use (R201), mappings (R376). -/
def streamValue (s : State) (index sub : Nat) : Option (List Byte) :=
  if 0x4010 ≤ index && index < 0x4014 && 5 ≤ sub then
    let j := index - 0x4010
    some (natLe 8 (if sub = 5 then maskBits (s.coreMask j) * 0x600000 else s.usedBytes j (sub - 5)))
  else if 0x9060 ≤ index && index < 0x9064 then
    let j := index - 0x9060
    if sub = 2 then some (natLe 8 (mapAddr s.maps j)) else if sub = 3 then some (natLe 8 (mapAddr s.mapsNext j)) else none
  else none

/-- Entries that another part of the state holds. -/
def derivedValue (s : State) (index sub : Nat) : Option (List Byte) :=
  match index, sub with
  | 0x1000, 0x06 => some serialText
  | 0x1000, 0x07 => some (natLe 1 s.lifecycleShown)
  | 0x1000, 0x08 => some (rowsOf 4 5 fun i => match bootedImage s (i + 1) with | some x => x.1 | none => 0)
  | 0x2000, 0x05 => some (natLe 4 s.bandShare)
  | 0x3000, 0x09 =>
    some (natLe 1 (if (List.range 4).any fun j => s.val (detKey j) == 1 then 0 else s.val (fabricKey 9)))
  | 0x3000, 0x0B => some (natLe 1 s.farPorts)
  | 0x3200, 0x02 => some (rowsOf 2 512 fun i => s.reservedUnits (i / 16) (i % 16) + managementUnits (i % 16))
  | 0x3200, 0x03 => some (rowsOf 1 32 (reservationCount s))
  | 0x3400, 0x03 => some (rowsOf 8 64 (scheduleRow s))
  | 0x4000, 0x03 =>
    some (rowsOf 32 1024 fun n => match s.regions.find? (·.number == n) with | some r => (regionRow r).toNat | none => 0)
  | 0x4000, 0x04 => some (natLe 8 (0xBE00000000 - s.hbmAllocated))
  | 0x6000, 0x0E => some (if s.linkSeed.isEmpty then List.replicate 1568 0 else padTo 1568 s.staticKey.1)
  | 0x6000, 0x0F => some (if s.linkSeed.isEmpty then List.replicate 64 0 else shake256 64 (padTo 1568 s.staticKey.1))
  | 0x6000, 0x11 => some (rowsOf 64 8 fun i => s.measurement (i + 1))
  | 0x6000, 0x12 => some (rowsOf 8 32 (sessionRow s))
  | 0x7000, 0x01 => some (rowsOf 64 1024 fun i => match s.faultLog[i]? with | some r => r.toNat | none => 0)
  | 0x8014, 0x01 => some (rowsOf 8 4 fun j => (s.held.filter (·.js == j)).length)
  | 0x9040, 0x03 => some (rowsOf 8 256 fun n => registeredRow ((s.colls.find? (·.number == n)).map fun x => (x.addr, x.js)))
  | 0x9050, 0x03 => some (rowsOf 8 16 fun n => registeredRow ((s.rings.find? (·.number == n)).map fun x => (x.addr, x.js)))
  | 0xA000, 0x03 => some (peekValue s 3)
  | 0xA000, 0x04 => some (peekValue s 4)
  | 0xA000, 0x05 => some (peekValue s 5)
  | 0xA000, 0x07 => some (peekValue s 7)
  | 0xA010, 0x02 => some (rowsOf 4 256 fun n => ((s.core (s.val ⟨0xA010, 1, 0⟩ % 256)).sem n).toNat)
  | _, _ => streamValue s index sub

/-- A new maintenance nonce for a requester (R476): it replaces an earlier one. -/
def issueNonce (who : Requester) (s : State) : List Byte × State :=
  let r := s.random 1
  let id := requesterId who
  (r.1, { r.2 with nonces := mapInsert id (BitVec.ofNat 256 (leNat r.1)) (mapErase r.2.nonces id) })

/-- The value of an entry as a GET of a requester reads it, with the state it leaves. -/
def readEntry (who : Requester) (s : State) (e : Entry) (index sub : Nat) : List Byte × State :=
  if index = 0x1100 && sub = 4 then issueNonce who s
  else
    match derivedValue s index sub with
    | some bs => (bs, s)
    | none => (storedValue s e index sub, s)

/-- The checks of a GET of a known entry (R470, R484, R491): none, or the refusal. -/
def getRefusal (s : State) (who : Requester) (e : Entry) (index sub : Nat) : Option (Nat × Nat) :=
  let peek := index == 0xA000 && sub != 0 && (sub == 7 || (decide (3 ≤ sub) && decide (sub ≤ 5)))
  if e.access = .wo || e.access = .cmd then some (stAccess, 0)
  else if peek && !s.holdsRight who then some (stRight, 0)
  else if peek && s.domain (domCluster s.peekCore) != 1 then some (stState, 0)
  else none

/-- Whether the current state forbids an operation on an index (R473): in Secure boot only GETs of 0x1000 and 0x6000. -/
def notReady (s : State) (index : Nat) (plainGet : Bool) : Bool :=
  s.lifecycle == 2 && !(plainGet && (index == 0x1000 || index == 0x6000))

end Sys2Proof.Machine
end

