-- ==== Sys2Proof/Machine/Requests.lean ====
section
/-! DEFINITION. Requests of the parameter dictionary (R475 to R491): GET, SET in parts, GET_RANGE, subscriptions, the maintenance
right, STATE_REQUEST and RESET, and the MCTP control messages (R479). -/
namespace Sys2Proof.Machine

/-! ### State and maintenance commands (R474, R476, R477, R489) -/

/-- STATE_REQUEST's own part: Maintenance from Ready, Ready from Maintenance (R474). -/
def stateRequestBody (v : Nat) (s : State) : SetResult :=
  if v = 3 then if s.lifecycle = 4 then .ok (s.setLifecycle 3) else .refuse stState 0
  else if v = 4 then if s.lifecycle = 3 then .ok (s.setLifecycle 4) else .refuse stState 0
  else .refuse stRange 0

/-- STATE_REQUEST (R474). -/
def execStateRequest (rq : Rq) (v : Byte) (s : State) : Host.Outcome State Fault Refusal :=
  .next (s.dictSet rq 0x1100 1 (stateRequestBody v.toNat))

/-- RESET's own part: the reset runs 10 ms after the acknowledgement (R489, R525). -/
def resetBody (v : Nat) (s : State) : SetResult := if v != 1 then .refuse stRange 0 else .ok { s with resetDue := true }

/-- RESET (R489). -/
def execReset (rq : Rq) (v : Word) (s : State) : Host.Outcome State Fault Refusal :=
  .next (s.dictSet rq 0x1100 2 (resetBody v.toNat))

/-- MAINT_HOLDER. -/
def holderKey : Key := ⟨0x1100, 7, 0⟩

/-- The bytes that a claim signs (R476). -/
def claimText (nonce : BitVec 256) (id : Nat) : List Byte := labelBytes "KX4 MAINT" ++ natLe 32 nonce.toNat ++ natLe 4 id

/-- MAINT_CLAIM's own part (R476): the conditions in their order; the attempt spends the requester's nonce. -/
def maintClaimBody (who : Requester) (claim : List Byte) (s : State) : SetResult :=
  let id := requesterId who
  let slot := leAt claim 0 1
  if s.staging then .refuse stBusy 0
  else if claim.length != 29860 then .refuse stType 0
  else if 3 < slot || leAt claim 1 3 != 0 then .refuse stRange 0
  else
    let key := sliceBytes claim 4 64
    let nonce := s.nonces.find? (·.1 == id)
    let spent := { s with nonces := mapErase s.nonces id }
    let checks : List (Nat × Bool) := [
      (1, s.val holderKey != 0 && s.val holderKey != id),
      (2, !s.ownerOk slot),
      (3, digest64 key != s.val (ownerKey slot)),
      (4, nonce.isNone),
      (5, match nonce with | some n => !Config.slhVerify key (claimText n.2 id) (claim.drop 68) | none => true)]
    match checks.find? (·.2) with
    | some (n, _) => .refuseIn spent stRight n
    | none => .ok (spent.setVal holderKey id)

/-- MAINT_CLAIM (R476). -/
def execMaintClaim (rq : Rq) (claim : List Byte) (s : State) : Host.Outcome State Fault Refusal :=
  .next (s.dictSet rq 0x1100 5 (maintClaimBody rq.who claim))

/-- MAINT_RELEASE's own part (R477, R489). -/
def maintReleaseBody (who : Requester) (v : Nat) (s : State) : SetResult :=
  if !s.holdsRight who then .refuse stRight 0 else boolCommand v (fun s => .ok (s.setVal holderKey 0)) s

/-- MAINT_RELEASE (R477). -/
def execMaintRelease (rq : Rq) (v : Byte) (s : State) : Host.Outcome State Fault Refusal :=
  .next (s.dictSet rq 0x1100 6 (maintReleaseBody rq.who v.toNat))

/-- MAINT_IDLE_TIMEOUT: the right lapses (R477). -/
def execMaintIdleTimeout (s : State) : Host.Outcome State Fault Refusal :=
  if s.val holderKey = 0 then .next s else .next (s.setVal holderKey 0)

/-- MAINT_NONCE_EXPIRE (R476). -/
def execMaintNonceExpire (who : Requester) (s : State) : Host.Outcome State Fault Refusal :=
  .next { s with nonces := mapErase s.nonces (requesterId who) }

/-! ### Values that a SET writes (R469, R470) -/

/-- A SET of a scalar within a range. -/
def rangeBody (k : Key) (lo hi v : Nat) (s : State) : SetResult :=
  if v < lo || hi < v then .refuse stRange 0 else .ok (s.setVal k v)

/-- A SET of a BOOL. -/
def boolBody (k : Key) (v : Nat) (s : State) : SetResult := if 1 < v then .refuse stType 0 else .ok (s.setVal k v)

/-- A SET of an FP32 bound that may be neither negative nor NaN, nor below a lower one (R148, R156). -/
def boundBody (k : Key) (low : Word) (v : Nat) (s : State) : SetResult :=
  let w := BitVec.ofNat 32 v
  if isNanF32 w || numLt (ofF32 w) (ofF32 low) then .refuse stRange 0 else .ok (s.setVal k v)

/-- A SET of every row of a table. -/
def tableBody (index sub width rows : Nat) (ok : Nat → Bool) (bs : List Byte) (s : State) : SetResult :=
  let row := fun (i : Nat) => leAt bs (width * i) width
  if !(List.range rows).all fun i => ok (row i) then .refuse stRange 0
  else .ok ((List.range rows).foldl (fun s i => s.setVal ⟨index, sub, i⟩ (row i)) s)

/-- POUNCE_LAYERS' own part: no layer in two rows; 0xFFFF marks an empty row (R158). -/
def pounceLayersBody (j : Nat) (bs : List Byte) (s : State) : SetResult :=
  let layers := ((List.range 64).map fun i => leAt bs (2 * i) 2).filter (· != 0xFFFF)
  if !noRepeats layers then .refuse stState 0 else tableBody (0x5110 + j) 6 2 64 (fun _ => true) bs s

/-- Quotas of all job streams of one sort with one replaced. -/
def quotaSum (s : State) (which j v : Nat) : Nat :=
  ((List.range 4).map fun i => if i = j then v else s.val (quotaKey i which)).foldl (· + ·) 0

/-- Bytes that count against a quota (R201). -/
def quotaUse (s : State) (j which : Nat) : Nat := if which = 1 then maskBits (s.coreMask j) * 0x600000 else s.usedBytes j (which - 1)

/-- A quota's own part (R201). -/
def quotaBody (j which v : Nat) (s : State) : SetResult :=
  let unit := if which = 1 then 0x600000 else if which = 2 then 0x10000 else if which = 3 then 0x200000 else 0x10000000
  let both := if which = 3 then quotaSum s 3 j v + quotaSum s 4 4 0 else quotaSum s 3 4 0 + quotaSum s 4 j v
  let beyond := if which = 1 then decide (0x60000000 < quotaSum s 1 j v)
    else if which = 2 then decide (0x80000000 < quotaSum s 2 j v) else decide (0xBE00000000 < both)
  if v % unit != 0 || v < quotaUse s j which || beyond then .refuse stState 0 else .ok (s.setVal (quotaKey j which) v)

/-- MODULE_ID's own part (R284). -/
def moduleIdBody (v : Nat) (s : State) : SetResult :=
  if (List.range 4).any s.stepRunning then .refuse stState 0 else .ok (s.setVal keyModuleId v)

/-- OPPORTUNISTIC's own part (R394). -/
def opportunisticBody (v : Nat) (s : State) : SetResult :=
  if 1 < v then .refuse stType 0
  else if v = 1 && (List.range 4).any fun j => s.val (detKey j) == 1 then .refuse stState 0
  else .ok (s.setVal (fabricKey 9) v)

/-- A rank's own part (R285). -/
def rankBody (p sub v : Nat) (s : State) : SetResult :=
  let st := s.portState p
  if st != 0 && st != 1 && st != 9 then .refuse stState 0 else .ok (s.setVal (portKey p sub) v)

/-- ASYM_ALLOWANCE's own part (R309): a row that changes for a port of a held schedule's hops refuses the SET. -/
def asymBody (bs : List Byte) (s : State) : SetResult :=
  let used := fun (p : Nat) => s.schedules.any fun x => decide (2 ≤ x.state) && x.transfers.any fun t => t.hops.contains (s.moduleId, p)
  if (List.range 32).any fun p => decide (100000 < leAt bs (4 * p) 4) then .refuse stRange 0
  else if (List.range 32).any fun p => leAt bs (4 * p) 4 != s.val ⟨0x3200, 4, p⟩ && used p then .refuse stState 0
  else tableBody 0x3200 4 4 32 (fun _ => true) bs s

/-- OP_MAX's own part (R402). -/
def opMaxBody (v : Nat) (s : State) : SetResult :=
  if 7 < v then .refuse stRange 0
  else if v < 4 && s.fixedMode then .refuse stState 0
  else .ok (s.setVal ⟨0x5000, 3, 0⟩ v)

/-- A completed SET of an entry of one index. -/
def setSingle (who : Requester) (index sub : Nat) (bs : List Byte) (s : State) : SetResult :=
  let v := leNat bs
  let k : Key := ⟨index, sub, 0⟩
  match index, sub with
  | 0x1100, 0x01 => stateRequestBody v s
  | 0x1100, 0x02 => resetBody v s
  | 0x1100, 0x05 => maintClaimBody who bs s
  | 0x1100, 0x06 => maintReleaseBody who v s
  | 0x1100, 0x08 => rangeBody k 10 3600 v s
  | 0x1100, 0x09 => boolBody k v s
  | 0x2000, 0x01 => capWBody v s
  | 0x2000, 0x02 => capForceBody v s
  | 0x3000, 0x01 => moduleIdBody v s
  | 0x3000, 0x02 => routeLoadBody v s
  | 0x3000, 0x03 => boolCommand v routeSwapBody s
  | 0x3000, 0x08 => rangeBody k 1000 1000000 v s
  | 0x3000, 0x09 => opportunisticBody v s
  | 0x3000, 0x0A => rangeBody k 0 1 v s
  | 0x3200, 0x01 => tableBody index sub 1 16 (fun w => decide (1 ≤ w) && decide (w ≤ 8)) bs s
  | 0x3200, 0x04 => asymBody bs s
  | 0x3200, 0x05 => rangeBody k 1000 1000000 v s
  | 0x3400, 0x01 => scheduleLoadBody v s
  | 0x3400, 0x02 => scheduleReleaseBody v s
  | 0x3400, 0x05 => rangeBody k 10 10000 v s
  | 0x3400, 0x09 => rangeBody k 1 4 v s
  | 0x3400, 0x0A => rangeBody k 1 16 v s
  | 0x4000, 0x01 => regionCreateBody bs s
  | 0x4000, 0x02 => regionDestroyBody v s
  | 0x4000, 0x06 => rangeBody k 3600 604800 v s
  | 0x5000, 0x01 => clockModeBody v s
  | 0x5000, 0x02 => boolBody k v s
  | 0x5000, 0x03 => opMaxBody v s
  | 0x5001, 0x01 => coreEnableBody v s
  | 0x6000, 0x05 => rollbackCommitBody v s
  | 0x6000, 0x07 => bootBankNextBody v s
  | 0x6000, 0x08 => fwStageBody v s
  | 0x6000, 0x0B => ownerKeyAddBody bs s
  | 0x6000, 0x0C => ownerKeyRevokeBody v s
  | 0x6000, 0x10 => peerKeyDigestBody bs s
  | 0x6000, 0x13 => zeroiseBody v s
  | 0x6000, 0x14 => enrolBody v s
  | 0x6000, 0x15 => retireBody v s
  | 0x7000, 0x06 => faultLogClearBody v s
  | 0x8000, 0x01 => counterClearBody v s
  | 0x9020, 0x01 => contextRegisterBody v s
  | 0x9020, 0x02 => contextReleaseBody v s
  | 0x9040, 0x01 => collRegisterBody v s
  | 0x9040, 0x02 => collReleaseBody v s
  | 0x9050, 0x01 => ringRegisterBody v s
  | 0x9050, 0x02 => ringReleaseBody v s
  | 0xA000, 0x02 => rangeBody k 0 0xFFF v s
  | 0xA000, 0x06 => rangeBody k 0 24575 v s
  | 0xA010, 0x03 => semSetBody bs s
  | _, _ => .ok (s.setVal k v)

/-- A completed SET of a port's entry (R285). -/
def setPort (p sub v : Nat) (s : State) : SetResult :=
  let k := portKey p sub
  match sub with
  | 0x01 => portEnableBody p v s
  | 0x02 => rangeBody k 0 2 v s
  | 0x05 => rankBody p sub v s
  | 0x06 => rankBody p sub v s
  | 0x0D => rangeBody k 0 3 v s
  | 0x0E => rangeBody k 100 100000 v s
  | 0x0F => rangeBody k 1 255 v s
  | _ => rangeBody k 1000 10000000 v s

/-- A completed SET of an entry of one of the four job streams. -/
def setStream (base j sub : Nat) (bs : List Byte) (s : State) : SetResult :=
  let v := leNat bs
  let k : Key := ⟨base + j, sub, 0⟩
  match base, sub with
  | 0x4010, _ => quotaBody j sub v s
  | 0x4018, _ => tableBody (0x4018 + j) 1 8 32 (fun _ => true) bs s
  | 0x5110, 0x02 => boundBody k 0 v s
  | 0x5110, 0x03 => boundBody k (BitVec.ofNat 32 (s.val ⟨0x5110 + j, 2, 0⟩)) v s
  | 0x5110, 0x04 => boundBody k 0 v s
  | 0x5110, 0x05 => rangeBody k 4 16 v s
  | 0x5110, 0x06 => pounceLayersBody j bs s
  | 0x7010, _ => withdrawStepBody j v s
  | 0x9010, 0x02 => coreMaskBody j v s
  | 0x9010, 0x03 => if v = 1 then .ok (s.fireTrigger j) else .refuse stRange 0
  | 0x9030, 0x02 => epochPrepareBody j v s
  | 0x9030, 0x04 => boolCommand v (epochCommitBody j) s
  | 0x9030, 0x05 => rangeBody k 10 60000 v s
  | 0x9060, 0x01 => mapRegisterBody j v s
  | 0x9060, 0x04 => boolBody k v s
  | 0x9060, 0x05 => stepAlignBody j v s
  | 0xA020, 0x01 => replayArmBody j bs s
  | 0xA020, 0x02 => boolCommand v (replayDisarmBody j) s
  | _, _ => .ok (s.setVal k v)

/-- A completed SET of any entry. -/
def setValue (who : Requester) (index sub : Nat) (bs : List Byte) (s : State) : SetResult :=
  if index = 0x2200 then domainStateBody (sub - 1) (leNat bs) s
  else if index = 0x9000 then jsStateBody (sub - 1) (leNat bs) s
  else if index = 0x9001 then jsLockBody (sub - 1) (leNat bs) s
  else if 0x3100 ≤ index && index < 0x3120 then setPort (index - 0x3100) sub (leNat bs) s
  else
    match [0x4010, 0x4018, 0x5110, 0x7010, 0x9010, 0x9030, 0x9060, 0xA020].find? fun b => decide (b ≤ index) && decide (index < b + 4) with
    | some b => setStream b (index - b) sub bs s
    | none => setSingle who index sub bs s

/-! ### SET in parts (R482, R484) -/

/-- Whether a command or check of the entry's owner is under way, as far as it does not depend on the value (R484). -/
def entryBusy (s : State) (index sub : Nat) : Bool :=
  ((index == 0x6000 && (maintenanceOnly index sub || sub == 8)) || (index == 0x1100 && sub == 5)) && s.staging ||
    (index == 0x3000 && (sub == 2 || sub == 3) && s.stagedState == 1) ||
    (index == 0x3400 && sub == 1 && s.schedules.any (·.state == 1))

/-- The staged bytes of a requester's buffer for an entry. -/
def State.stagedFor (s : State) (who index sub : Nat) : List Byte :=
  match s.stagedSets.find? fun x => x.who == who && x.index == index && x.sub == sub with | some x => x.bytes | none => []

/-- A requester's buffer dropped. -/
def State.dropStaged (s : State) (who : Nat) : State := { s with stagedSets := s.stagedSets.filter (·.who != who) }

/-- A requester's buffer, its only one. -/
def State.putStaged (s : State) (who index sub : Nat) (bs : List Byte) : State :=
  { s.dropStaged who with stagedSets := (s.dropStaged who).stagedSets ++ [{ who := who, index := index, sub := sub, bytes := bs }] }

/-- SET (R481, R482, R484): a message beyond 4,112 bytes is discarded and counted (R480). -/
def execSet (rq : Rq) (index : BitVec 16) (sub : Byte) (offset : Word) (last : Bool) (data : List Byte) (s : State) :
    Host.Outcome State Fault Refusal :=
  let i := index.toNat
  let b := sub.toNat
  let who := requesterId rq.who
  let no := fun (s : State) (st d : Nat) => s.answer rq 2 i b st d false []
  if !s.reachable then .next s
  else if 4096 < data.length then .next (s.bump ⟨0x1000, 0x0B, 0⟩ 1)
  else
    match setRefusal s rq i b with
    | some (st, d) => .next (no s st d)
    | none =>
      if entryBusy s i b then .next (no s stBusy 0)
      else
        let total := match entryOf i b with | some e => e.length | none => 0
        let held := if offset = 0 && !last then [] else s.stagedFor who i b
        let bytes := held.take offset.toNat ++ data ++ held.drop (offset.toNat + data.length)
        if held.length < offset.toNat || total < bytes.length || (last && bytes.length != total) then
          .next (no (s.dropStaged who) stType 0)
        else if !last then .next ((s.putStaged who i b bytes).answer rq 2 i b stOk 0 false [])
        else
          match setValue rq.who i b bytes s with
          | .ok s' => .next ((s'.dropStaged who).answer rq 2 i b stOk 0 false [])
          | .refuse st d => .next (no s st d)
          | .refuseIn s' st d => .next (no s' st d)

/-! ### GET and GET_RANGE (R481 to R484) -/

/-- A read request's common checks: header, state, the entry; then its own. -/
def State.readRequest (s : State) (rq : Rq) (op index sub : Nat) (body : Entry → State) : State :=
  let no := fun (st d : Nat) => s.answer rq op index sub st d false []
  if !s.reachable then s
  else if !headerWellFormed rq then no stMalformed 0
  else if notReady s index (op == 1) then no stNotReady 2
  else
    match entryOf index sub with
    | none => no stUnknown 0
    | some e =>
      match getRefusal s rq.who e index sub with
      | some (st, d) => no st d
      | none => body e

/-- GET: up to 4,096 bytes from the offset; an offset beyond the value answers TYPE (log entry 44). -/
def execGet (rq : Rq) (index : BitVec 16) (sub : Byte) (offset : Word) (s : State) : Host.Outcome State Fault Refusal :=
  .next (s.readRequest rq 1 index.toNat sub.toNat fun e =>
    let r := readEntry rq.who s e index.toNat sub.toNat
    let o := offset.toNat
    if r.1.length < o then s.answer rq 1 index.toNat sub.toNat stType 0 false []
    else r.2.answer rq 1 index.toNat sub.toNat stOk o (decide (o + 4096 < r.1.length)) ((r.1.drop o).take 4096))

/-- GET of MAINT_NONCE (R476). -/
def execMaintNonce (rq : Rq) (s : State) : Host.Outcome State Fault Refusal :=
  .next (s.readRequest rq 1 0x1100 4 fun e =>
    let r := readEntry rq.who s e 0x1100 4
    r.2.answer rq 1 0x1100 4 stOk 0 false r.1)

/-- Known entries of a span in ascending order (R483). -/
def entriesIn (first last : Nat × Nat) : List (Nat × Nat × Entry) :=
  ((List.range (last.1 + 1 - first.1)).map (first.1 + ·)).flatMap fun i =>
    (List.range 256).filterMap fun b =>
      if (i == first.1 && decide (b < first.2)) || (i == last.1 && decide (last.2 < b)) then none
      else (entryOf i b).map fun e => (i, b, e)

/-- One record of GET_RANGE: long values, commands, and what the requester may not read are omitted. -/
def rangeRecord (who : Requester) (s : State) (x : Nat × Nat × Entry) : List Byte × State :=
  let e := x.2.2
  let omitted := decide (64 < e.length) || (getRefusal s who e x.1 x.2.1).isSome
  let r := if omitted then ([], s) else readEntry who s e x.1 x.2.1
  let len := if e.length < 2 ^ 16 then (e.length, r.2) else r.2.free 16
  let head := natLe 2 x.1 ++ natLe 1 x.2.1 ++ natLe 1 e.typ ++ natLe 2 len.1 ++ natLe 1 (if omitted then 1 else 0) ++ [0]
  (head ++ padTo ((r.1.length + 3) / 4 * 4) r.1, len.2)

/-- Records as long as they fit in 4,096 bytes; whether some are left. -/
def rangeRecords (who : Requester) : State → List Byte → List (Nat × Nat × Entry) → List Byte × Bool × State
  | s, acc, [] => (acc, false, s)
  | s, acc, x :: xs =>
    let r := rangeRecord who s x
    if 4096 < acc.length + r.1.length then (acc, true, s) else rangeRecords who r.2 (acc ++ r.1) xs

/-- GET_RANGE (R483). -/
def execGetRange (rq : Rq) (index : BitVec 16) (sub : Byte) (lastIndex : BitVec 16) (lastSub : Byte) (s : State) :
    Host.Outcome State Fault Refusal :=
  let i := index.toNat
  let b := sub.toNat
  if !s.reachable then .next s
  else if !headerWellFormed rq then .next (s.answer rq 3 i b stMalformed 0 false [])
  else if notReady s i false then .next (s.answer rq 3 i b stNotReady 2 false [])
  else
    let r := rangeRecords rq.who s [] (entriesIn (i, b) (lastIndex.toNat, lastSub.toNat))
    .next (r.2.2.answer rq 3 i b stOk 0 r.2.1 r.1)

/-! ### Subscriptions (R485, R486) -/

/-- Tables whose rows are FP32 (R421, R422). -/
def floatTable (index sub : Nat) : Bool :=
  (index == 0x2000 && decide (8 ≤ sub) && decide (sub ≤ 0x0A)) || (index == 0x2100 && (sub == 1 || sub == 3 || sub == 4))

/-- Whether an entry, or a row of it, is FP32. -/
def isFloatEntry (e : Entry) (index sub : Nat) : Bool := e.typ == 8 || floatTable index sub

/-- Whether an entry or its rows can be subscribed to: scalars of U8 to U64, I32, I64, F32, BOOL, ENUM8 (R485). -/
def subscribable (e : Entry) : Bool := decide (e.width ≤ 8) && e.cells == 1 && (decide (e.typ ≤ 9) || e.typ == 13)

/-- The cell of a subscription's target as it reads. -/
def targetValue (s : State) (e : Entry) (index sub row : Nat) : Nat :=
  leAt (match derivedValue s index sub with | some bs => bs | none => storedValue s e index sub) (e.width * row) e.width

/-- SUBSCRIBE (R485). -/
def execSubscribe (rq : Rq) (index : BitVec 16) (sub : Byte) (row : BitVec 16) (kind : Byte) (interval : BitVec 16)
    (threshold : DWord) (s : State) : Host.Outcome State Fault Refusal :=
  let i := index.toNat
  let b := sub.toNat
  .next (s.readRequest rq 4 i b fun e =>
    let no := fun (st : Nat) => s.answer rq 4 i b st 0 false []
    let mine := s.subscriptions.filter fun x => requesterId x.who == requesterId rq.who
    if !subscribable e || (e.rows == 0 && row != 0) then no stType
    else if (e.rows != 0 && decide (e.rows ≤ row.toNat)) || 1 < kind.toNat || interval = 0 || 60000 < interval.toNat then no stRange
    else if 64 ≤ s.subscriptions.length || 16 ≤ mine.length then no stFull
    else
      let n := ((List.range 65).find? fun n => decide (1 ≤ n) && !s.subscriptions.any fun x => x.number == n).getD 64
      let x : Subscription := { number := n, who := rq.who, index := i, sub := b, row := row.toNat, kind := kind.toNat
                                interval := interval.toNat, threshold := threshold.toNat % 2 ^ (8 * e.width)
                                reference := targetValue s e i b row.toNat }
      ({ s with subscriptions := s.subscriptions ++ [x] }).answer rq 4 i b stOk 0 false (natLe 2 n))

/-- UNSUBSCRIBE: a number that the requester does not hold answers RANGE (log entry 44). -/
def execUnsubscribe (rq : Rq) (number : BitVec 16) (s : State) : Host.Outcome State Fault Refusal :=
  let no := fun (st d : Nat) => s.answer rq 5 0 0 st d false []
  if !s.reachable then .next s
  else if !headerWellFormed rq then .next (no stMalformed 0)
  else if notReady s 0 false then .next (no stNotReady 2)
  else
    let mine := fun (x : Subscription) => x.number == number.toNat && requesterId x.who == requesterId rq.who
    if !s.subscriptions.any mine then .next (no stRange 0)
    else .next ({ s with subscriptions := s.subscriptions.filter fun x => !mine x }.answer rq 5 0 0 stOk 0 false [])

/-- A value as an exact number: FP32, two's complement, or unsigned. -/
def targetNum (e : Entry) (float : Bool) (v : Nat) : Num :=
  if float then ofF32 (BitVec.ofNat 32 v)
  else if e.typ = 6 || e.typ = 7 then numOfInt (signedOf (8 * e.width) v) else numOfInt v

/-- Whether a number is at or above another; never where one is a NaN. -/
def numGe (a b : Num) : Bool := a != .nan && b != .nan && !numLt a b

/-- Whether a subscription fires on a value (R486). -/
def fires (x : Subscription) (v r t : Num) : Bool :=
  if x.kind = 0 then numGe (numAbs (numAdd v (numNeg r))) t
  else v != .nan && r != .nan && t != .nan && (numGe v t != numGe r t)

/-- One subscription sampled at the end of a window. -/
def sampleOne (s : State) (x : Subscription) : Subscription × State :=
  let x := { x with elapsed := x.elapsed.map (· + 1) }
  match entryOf x.index x.sub with
  | none => (x, s)
  | some e =>
    let v := targetValue s e x.index x.sub x.row
    let f := isFloatEntry e x.index x.sub
    let due := match x.elapsed with | some n => decide (x.interval ≤ n) | none => true
    if due && fires x (targetNum e f v) (targetNum e f x.reference) (targetNum e f x.threshold) then
      let data := natLe 2 x.number ++ [0, 0] ++ natLe 4 x.sequence ++ natLe 8 (s.clock clkMgmt).toNat ++ natLe 8 v
      ({ x with reference := v, sequence := (x.sequence + 1) % 2 ^ 32, elapsed := some 0 }, s.emit (.notify x.who x.index x.sub data))
    else (x, s)

/-- SUBSCRIPTION_SAMPLE: every subscription at the end of a 1 ms window (R486). -/
def execSubscriptionSample (s : State) : Host.Outcome State Fault Refusal :=
  if !s.reachable then .next s
  else
    let r := s.subscriptions.foldl (fun (acc : List Subscription × State) x =>
      let y := sampleOne acc.2 x
      (acc.1 ++ [y.1], y.2)) ([], s)
    .next { r.2 with subscriptions := r.1 }

/-! ### MCTP control messages (R479) -/

/-- The place of a transport's endpoint ID. -/
def transportCode : Transport → Nat
  | .pcieVdm => 1
  | .i3c => 2
  | .vc0 => 3

/-- The endpoint ID on a transport: on VC0 0x08 until one is set; elsewhere none, 0, until a bus owner assigns one. -/
def State.eid (s : State) (tr : Transport) : Nat :=
  match s.eids.find? (·.1 == transportCode tr) with | some e => e.2 | none => if tr = .vc0 then 8 else 0

/-- An MCTP control response: completion code and data (codes of the published standard, log entry 7). -/
def State.mctpReply (s : State) (tr : Transport) (command : Nat) (body : List Byte) : State :=
  if s.reachable then s.emit (.mctp tr command body) else s

/-- GET_ENDPOINT_ID. -/
def execGetEndpointId (tr : Transport) (s : State) : Host.Outcome State Fault Refusal :=
  .next (s.mctpReply tr 0x02 ([0, BitVec.ofNat 8 (s.eid tr)] ++ Config.protocolBytes 3))

/-- SET_ENDPOINT_ID: on VC0 only the first after reset sets it (R479). -/
def execSetEndpointId (tr : Transport) (eid : Byte) (s : State) : Host.Outcome State Fault Refusal :=
  if !s.reachable then .next s
  else
    let held := s.eids.any (·.1 == transportCode tr)
    let s := if tr = .vc0 && held then s
      else { s with eids := mapInsert (transportCode tr) eid.toNat (mapErase s.eids (transportCode tr)) }
    .next (s.mctpReply tr 0x01 ([0] ++ Config.protocolBytes 4 ++ [BitVec.ofNat 8 (s.eid tr)]))

/-- GET_MCTP_VERSION_SUPPORT: versions of a supported type; completion code 0x80 for another. -/
def execGetMctpVersionSupport (tr : Transport) (msgType : Byte) (s : State) : Host.Outcome State Fault Refusal :=
  .next (s.mctpReply tr 0x04
    (if [0x00, 0x05, 0x7E, 0xFF].contains msgType.toNat then 0 :: Config.protocolBytes (0x100 + msgType.toNat) else [0x80]))

/-- GET_MESSAGE_TYPE_SUPPORT: control, SPDM, vendor defined (R479). -/
def execGetMessageTypeSupport (tr : Transport) (s : State) : Host.Outcome State Fault Refusal :=
  .next (s.mctpReply tr 0x05 [0, 3, 0x00, 0x05, 0x7E])

/-- GET_VENDOR_MESSAGE_SUPPORT: one set, the PCI vendor ID 0x1E4F (R479, R492). -/
def execGetVendorMessageSupport (tr : Transport) (selector : Byte) (s : State) : Host.Outcome State Fault Refusal :=
  .next (s.mctpReply tr 0x06 (if selector = 0 then [0, 0xFF, 0, 0x1E, 0x4F] ++ Config.protocolBytes 5 else [0x02]))

end Sys2Proof.Machine
end

