-- ==== Sys2Proof/Machine/PowerUp.lean ====
section
/-! DEFINITION. Power-up, power-down and resets (R451 to R453, R516, R517, R521 to R526), and the pins that drive them. A
power-up sequence is one step; a bound that it misses is POWER_UP_TIMEOUT in its place (log entry 45). -/
namespace Sys2Proof.Machine

/-! ### What a reset keeps (R453, R472, R524, R525) -/

/-- Dictionary values that a reset keeps: Fused ones, and Flash ones where the store holds. -/
def keptDict (flash : Bool) (d : List (Nat × Nat)) : List (Nat × Nat) :=
  d.filter fun e =>
    match entryOf (e.1 / 2 ^ 24) (e.1 / 2 ^ 16 % 256) with
    | some x => x.persist == .fused || (flash && x.persist == .flash)
    | none => false

/-- The module with everything volatile lost, in a life-cycle state: flash, fuses and pins remain. -/
def State.afterReset (s : State) (lifecycle : Nat) : State :=
  ({ pending := s.pending, tick := s.tick, sent := s.sent, dict := keptDict true s.dict, linkSeed := s.linkSeed
     storeSalt := s.storeSalt, drbg := none, drbgSeeds := s.drbgSeeds, retired := s.retired, bankA := s.bankA, bankB := s.bankB, straps := s.straps
     inputOn := s.inputOn, mrstLow := s.mrstLow, perstLow := s.perstLow, flOwnLow := s.flOwnLow
     railFailures := s.railFailures, thermTrip := s.thermTrip } : State).setVal ⟨0x1000, 7, 0⟩ lifecycle

/-! ### Boot (R451 to R453, R521) -/

/-- The bank that boots and whether it is a fallback; none where both are rejected (R452). `reject`: the chosen bank's boot
has missed its bound (R523). -/
def State.bootChoice (s : State) (reject : Bool) : Option (Nat × Bool) :=
  let b := s.val ⟨0x6000, 7, 0⟩ % 2
  if bankBoots s (s.bank b) && !reject then some (b, false)
  else if bankBoots s (s.bank (1 - b)) then some (1 - b, true)
  else none

/-- Whether the flash store opens: a salt gives its key, and its tag verifies (R453, R463). -/
def State.storeOpens (s : State) : Bool := !s.storeSalt.isEmpty && !s.retired && s.straps.storeTagOk

/-- The flash store opened, or discarded where its tag fails (R453): every Flash entry and the sealed seed are then lost. -/
def State.openStore (s : State) : State :=
  if s.storeOpens then
    { s with storeOpened := s.dict.filter fun e =>
        match entryOf (e.1 / 2 ^ 24) (e.1 / 2 ^ 16 % 256) with | some x => x.persist == .flash | none => false }
  else { s with dict := keptDict false s.dict, linkSeed := [], storeOpened := [] }

/-- The values of a configuration image applied, its entries pinned (R450). -/
def State.applyConfig (s : State) (b : Option ImageBytes) : State :=
  match b with
  | none => s
  | some b =>
    (configPairs b).foldl (fun s p =>
      { s.setVal ⟨p.1, p.2.1, 0⟩ p.2.2.1 with pinned := s.pinned ++ [256 * p.1 + p.2.1] }) s

/-- The end of power-up (R521, steps 4 to 9): everything ON, memory zero, enabled ports in bring-up. -/
def State.bootWith (s : State) (bank cause : Nat) (fallback : Bool) : State :=
  let discarded := !s.storeOpens
  let s := s.openStore
  let s := if fallback then s.setVal ⟨0x6000, 7, 0⟩ bank else s
  let s := s.applyConfig ((s.bank bank).written 5)
  let s := ((s.setVal ⟨0x6000, 6, 0⟩ bank).setVal liningKey (if s.retired then 3 else 1)).setVal ⟨0x1100, 3, 0⟩ cause
  let s := s.setVal ⟨0x1000, 0x0A, 0⟩ s.straps.slotId.toNat
  let s := (List.range 32).foldl State.wakePort s
  let s := s.setVal ⟨0x1000, 7, 0⟩ (if s.val ⟨0x1100, 9, 0⟩ = 1 then 3 else 4)
  let s := if fallback then s.note 0x1901 { detail := bank } else s
  if discarded then s.note 0x1905 {} else s

/-- Power-up from step 2 (R521). A failed self-test or two rejected banks leave the module Sequencing, with no firmware
(R452). -/
def State.powerUp (s : State) (cause : Nat) (reject : Bool) : State :=
  let s := s.afterReset 1
  let s := { s with railFailures := 0 }
  if !s.straps.selfTestOk then
    (s.setVal ⟨0x7000, 7, 0⟩ (faultRecord s 0x3804 {} false).toNat).setVal ⟨0x6000, 0x16, 0⟩ 1
  else
    match s.bootChoice reject with
    | none => s
    | some (b, fallback) => s.bootWith b cause fallback

/-- Power-up whose sequence misses the bound of a step, if any (R14, R523): step 2 drops the rails; steps 3 and 4 reject the
bank; steps 6 to 9 doff the module that they have not finished. -/
def State.powerUpMissing (s : State) (cause : Nat) (missed : Option (Nat × Byte)) : State :=
  match missed with
  | none => s.powerUp cause false
  | some (step, unit) =>
    if step = 2 then { s.afterReset 0 with railFailures := s.railFailures + 1 }
    else if step = 3 || step = 4 then s.powerUp cause true
    else if step < 6 || 9 < step then s.powerUp cause false
    else
      let s := s.powerUp cause false
      if s.lifecycle = 1 then s else (s.setVal ⟨0x1000, 7, 0⟩ 2).doff 0x3802 { detail := step + 256 * unit.toNat }

/-! ### The 48 V input (R517, R521, R523, R524) -/

/-- INPUT_POWER_ON: the turn-on condition is met. MRST_N low holds the sequence at the end of step 2 (R525), no quad having been
ON (R436); after two failures of step 2 nothing runs until the input is removed (R523). -/
def execInputPowerOn (i : PowerUpInputs) (s : State) : Host.Outcome State Fault Refusal :=
  if s.lifecycle != 0 || 2 ≤ s.railFailures then .next s
  else
    let s := { s with inputOn := true, straps := i }
    .next (if s.mrstLow then { s.afterReset 1 with darkQuads := List.range 4 } else s.powerUpMissing 0 i.missed)

/-- POWER_UP_TIMEOUT: the sequence that starts in Off, or that an acknowledged RESET starts, misses the bound of a step
(R523). What a sequence after MRST_N or FL_OWN_N misses comes with the inputs of MRST_N_RELEASE (log entry 45). -/
def execPowerUpTimeout (step : Nat) (unit : Byte) (s : State) : Host.Outcome State Fault Refusal :=
  let fromOff := s.lifecycle = 0 && decide (s.railFailures < 2)
  if s.mrstLow || !(fromOff || (s.resetDue && !s.inDoubt)) then .next s
  else
    .next ({ s with inputOn := true }.powerUpMissing (if fromOff then 0 else 2) (some (step, unit)))

/-- INPUT_POWER_OFF: a turn-off condition is met; lanes stop without bolts or NAPs (R524). -/
def execInputPowerOff (s : State) : Host.Outcome State Fault Refusal :=
  .next ({ s with inputOn := false, thermTrip := false, railFailures := 0 }.afterReset 0)

/-! ### Resets and flash recovery (R525, R526) -/

/-- MRST_N_ASSERT: management controller and lining held in reset; THERMTRIP_N released (R515). -/
def execMrstNAssert (s : State) : Host.Outcome State Fault Refusal :=
  if s.mrstLow then .next s
  else if s.lifecycle = 0 then .next { s with mrstLow := true, thermTrip := false }
  else
    -- quads go ON in step 8 of power-up, and OFF at the end of a doff
    let dark := (List.range 4).filter fun q => s.lifecycle < 3 || !s.domainOn (domQuad q)
    .next { ({ s with mrstLow := true, thermTrip := false } : State).afterReset 1 with darkQuads := dark }

/-- MRST_N_RELEASE: power-up from step 2, held at its end while FL_OWN_N is low (R526). -/
def execMrstNRelease (i : PowerUpInputs) (s : State) : Host.Outcome State Fault Refusal :=
  if !s.mrstLow then .next s
  else
    let s := { s with mrstLow := false, darkQuads := [] }
    if s.lifecycle = 0 then .next s
    else
      let s := { s with straps := i }
      .next (if s.flOwnLow then { s with flHold := true } else s.powerUpMissing 1 i.missed)

/-- A bank as the tray leaves it: an empty list stands for one that it has not written. -/
def trayBank (old : Bank) (l : List ImageBytes) : Bank := if l.isEmpty then old else { shipped := [], images := l }

/-- FL_OWN_N_CHANGE: while MRST_N is low the tray owns the flash, and what it has written stands in the banks when it lets go;
a held power-up then runs (R526). -/
def execFlOwnNChange (high : Bool) (a b : List ImageBytes) (s : State) : Host.Outcome State Fault Refusal :=
  if !high then .next { s with flOwnLow := true }
  else
    let owned := s.flOwnLow && (s.mrstLow || s.flHold)
    let s := { s with flOwnLow := false }
    let s := if owned then { s with bankA := trayBank s.bankA a, bankB := trayBank s.bankB b } else s
    .next (if s.flHold then s.powerUpMissing 1 s.straps.missed else s)

/-- RESET_DELAY_EXPIRE: an acknowledged RESET runs (R525), unless the management controller has stopped in doubt since (R434). -/
def execResetDelayExpire (s : State) : Host.Outcome State Fault Refusal :=
  if !s.resetDue || s.mrstLow || s.inDoubt then .next s else .next (s.powerUp 2 false)

/-! ### I3C (R516) -/

/-- ENTDAA: the provisional ID is shown and a dynamic address taken. -/
def execEntdaa (address : BitVec 7) (s : State) : Host.Outcome State Fault Refusal :=
  if !s.reachable || s.i3cAddr.isSome then .next s
  else
    let id := 0x0A3D * 2 ^ 33 + 0x4B34 * 2 ^ 16 + s.val ⟨0x1000, 0x0A, 0⟩ % 64
    .next ({ s with i3cAddr := some address.toNat }.emit (.i3cId (BitVec.ofNat 48 id)))

end Sys2Proof.Machine
end

