-- ==== Sys2Proof/Machine/Vec.lean ====
section
/-! DEFINITION. The vector engine: operands (R113 to R117), conversions with their counters (R141 to R147, R159), the
opcodes (R118, R119), VEC.EPI (R107 to R109) and VEC.SCATTER (R179, R180). -/
namespace Sys2Proof.Machine

/-- An input as FP32 values in row-major order. -/
structure Operand where
  rows : Nat
  cols : Nat
  vals : List Word
  deriving DecidableEq, Repr

/-- What a VEC instruction computes from: the core, the word, the bank operand, its input tiles, the key and sequence
number of R147, and the capacity of H0 in granules. -/
structure VecArgs where
  k : Core
  w : QWord
  bank : Option Operand
  t1 : Tile
  t2 : Tile
  t3 : Tile
  key : Nat
  seq : Nat
  cap : Nat
  deriving DecidableEq, Repr

/-- What a VEC instruction does: its output tile (header fields and payload), entries written back, values posted, and
what R137 and R159 count. -/
structure VecEffect where
  out : Option (Hdr × List Byte) := none
  bank : List (Nat × Word) := []
  posts : List Word := []
  sats : Nat := 0
  nonfins : Nat := 0
  undfs : Nat := 0
  nonfiniteOut : Nat := 0
  deriving DecidableEq, Repr

/-- The answer of a VEC opcode: a fault code at issue, or its effect. -/
inductive VecAnswer where
  | refuse (code : Nat)
  | ok (e : VecEffect)
  deriving DecidableEq, Repr

/-! ### Banks as operands (R89, R114) -/

/-- Rows of a bank mode (R89). -/
def bankRows : BankMode → Nat
  | .f32x32 => 256
  | .f32x64 => 128
  | .f16x32 => 512
  | .i32x32 => 256
  | .max32 => 128
  | .min32 => 128

/-- A bank entry widened to FP32 (R108, R114). -/
def widenEntry (m : BankMode) (e : Word) : Word :=
  match m with
  | .f16x32 => toF32 (fmtDecode fmtF16 (e.toNat % 2 ^ 16))
  | .i32x32 => toF32 (numOfInt e.toInt)
  | _ => toF32 (ofF32 e)

/-- Rows of a bank as an operand. -/
def bankOperand (b : AccBank) (row0 rows : Nat) : Operand :=
  let n := bankCols b.mode
  { rows := rows, cols := n
    vals := (List.range (rows * n)).map fun i => widenEntry b.mode (b.get (bankKey b.mode (row0 + i / n) (i % n))) }

/-- `VOP.ROW0` (R113). -/
def vRow0 (w : QWord) : Nat := iField w 24 9
/-- `VOP.ROWS_M1` + 1 (R113). -/
def vRows (w : QWord) : Nat := iField w 15 9 + 1

/-! ### Inputs and outputs -/

/-- A tile read as an FP32 operand (R116). -/
def tileOperand (k : Core) (t : Tile) : Operand :=
  { rows := hRows t.header, cols := hCols t.header, vals := tileF32 t (scaleElems k t.header) }

/-- The tile in handle field 1, 2 or 3. -/
def VecArgs.tile (a : VecArgs) (i : Nat) : Tile := if i = 1 then a.t1 else if i = 2 then a.t2 else a.t3

/-- Input `i` as an operand: the bank where it replaces field `b`; none where VEC does not read the format (R116). -/
def VecArgs.input (a : VecArgs) (b i : Nat) : Option Operand :=
  if i = b && vAccUse a.w != 0 then a.bank
  else if vecReads (a.tile i).header then some (tileOperand a.k (a.tile i)) else none

/-- Whether an operand has one of the four shapes of R117 for a first input. -/
def broadcasts (x : Operand) (rows cols : Nat) : Bool :=
  (x.rows == rows || x.rows == 1) && (x.cols == cols || x.cols == 1)

/-- The element of a broadcast operand that meets row `r`, column `c` (R117). -/
def Operand.at (x : Operand) (r c : Nat) : Word :=
  x.vals.getD ((if x.rows = 1 then 0 else r) * x.cols + (if x.cols = 1 then 0 else c)) 0

/-- The rounding of output element `i` (R121, R145, R147). -/
def roundingOf (stochastic : Bool) (key seq i : Nat) : Rounding :=
  if stochastic then .stochastic (genWord key (seq * 2 ^ 24 + i)) else .nearest

/-- The rounding that `VOP.STOCHASTIC` selects. -/
def VecArgs.rounding (a : VecArgs) : Nat → Rounding := roundingOf (bitf a.w 42) a.key a.seq

/-- One element converted to a format of the "F" column, to INT8 or to FP8 (R142). -/
def convElem (f : Nat) (r : Rounding) (x : Num) : Conv :=
  if f = 0x01 then { code := (toF32 x).toNat }
  else if f = 0x0C then convInt 32 r x
  else if f = 0x0B then convInt 8 r x
  else match fmtOfCode f with
    | some fm => convFloat fm r x
    | none => { code := 0 }

/-- Whether a number is NaN or infinite. -/
def numBad : Num → Bool
  | .fin _ _ _ _ => false
  | _ => true

/-- Conversions of an MX tile counted into an effect: once per block (R142). -/
def VecEffect.countBlocks (e : VecEffect) (bs : List (List Conv)) : VecEffect :=
  { e with
    nonfins := e.nonfins + (bs.filter fun b => b.any (·.nonfin)).length
    undfs := e.undfs + (bs.filter fun b => b.any (·.undf)).length }

/-- Conversions counted into an effect (R159). -/
def VecEffect.count (e : VecEffect) (cs : List Conv) : VecEffect :=
  { e with
    sats := e.sats + (cs.filter (·.sat)).length
    nonfins := e.nonfins + (cs.filter (·.nonfin)).length
    undfs := e.undfs + (cs.filter (·.undf)).length }

/-- The header of an output: format, layout, shape, size and the flags that the format sets (R41 to R43). -/
def outHeader (f l rows cols : Nat) : Hdr :=
  let h : Hdr := setf (setf (setf (setf 0 0 8 f) 8 4 l) 16 16 rows) 32 16 cols
  let h := setf h 14 1 (if isFulling f then 1 else 0)
  let h := setf h 13 1 (if l = 2 then 1 else 0)
  setf h 48 8 (ceilDiv (needBytes f l rows cols) 256 - 1)

/-- Whether a shape fits a tile: ROWS and COLS of 1 to 65,535 and at most 64 KiB (R41, R74). -/
def shapeFits (f l rows cols : Nat) : Bool :=
  decide (1 ≤ rows) && decide (rows < 65536) && decide (1 ≤ cols) && decide (cols < 65536) &&
    decide (needBytes f l rows cols ≤ 65536)

/-- An output tile of layout 0 from codes; TILE_HEADER when the shape does not fit (R74). -/
def emitCodes (f rows cols : Nat) (codes : List Nat) (e : VecEffect) : VecAnswer :=
  if shapeFits f 0 rows cols then
    .ok { e with out := some (outHeader f 0 rows cols, padGranules (packCodes (elemBits f) codes 0 0)) }
  else .refuse 0x2003

/-- Results written back to the bank's entries (R114, R121): `skip` marks elements left unwritten. -/
def writeBack (a : VecArgs) (mode : BankMode) (rows cols : Nat) (vals : List Word) (skip : Nat → Bool) (e : VecEffect) :
    VecAnswer :=
  match a.bank with
  | none => .refuse 0x2008
  | some b =>
    if b.rows != rows || b.cols != cols then .refuse 0x2008
    else
      let idx := (List.range vals.length).filter fun i => !skip i
      let conv := fun i => match mode with
        | .f16x32 => convFloat fmtF16 .nearest (ofF32 (vals.getD i 0))
        | .i32x32 => convInt 32 (a.rounding i) (ofF32 (vals.getD i 0))
        | _ => { code := (vals.getD i 0).toNat }
      let cs := idx.map conv
      let e := e.count cs
      .ok { e with
        bank := idx.map fun i => (bankKey mode (vRow0 a.w + i / cols) (i % cols), BitVec.ofNat 32 (conv i).code)
        nonfiniteOut := ((idx.filter fun i => match mode with
          | .f16x32 => numBad (fmtDecode fmtF16 (conv i).code)
          | .i32x32 => false
          | _ => nonfiniteF32 (vals.getD i 0))).length }

/-- FP32 results in the "F" formats, or back into the bank (R114, R118, R142). -/
def outF (a : VecArgs) (mode : BankMode) (rows cols : Nat) (vals : List Word) (skip : Nat → Bool := fun _ => false) :
    VecAnswer :=
  let f := vOutFormat a.w
  if !(f == 0x01 || f == 0x02 || f == 0x03 || f == 0x0C) then .refuse 0x2003
  else if vAccUse a.w = 2 then
    if mode = .i32x32 && f != 0x0C then .refuse 0x2008 else writeBack a mode rows cols vals skip {}
  else
    let cs := (List.range vals.length).map fun i => convElem f (a.rounding i) (ofF32 (vals.getD i 0))
    let bad := if f = 0x0C then 0 else (cs.filter fun c => numBad (codeNum f c.code)).length
    let e : VecEffect := { nonfiniteOut := bad }
    emitCodes f rows cols (cs.map (·.code)) (e.count cs)

/-- A mask written as MASK1, or as 0 and 1 back into the bank (R118). -/
def outMask (a : VecArgs) (mode : BankMode) (rows cols : Nat) (bits : List Bool) (posts : List Word) : VecAnswer :=
  if vOutFormat a.w != 0x0E then .refuse 0x2003
  else if vAccUse a.w = 2 then
    if mode = .i32x32 then .refuse 0x2008
    else writeBack a mode rows cols (bits.map fun b => if b then 0x3F800000#32 else 0) (fun _ => false) { posts := posts }
  else emitCodes 0x0E rows cols (bits.map fun b => if b then 1 else 0) { posts := posts }

/-! ### Element-wise opcodes (R117 to R121) -/

/-- The mode of the bank that an instruction names. -/
def VecArgs.mode (a : VecArgs) : BankMode := (a.k.bank (iBankB a.w)).mode

/-- A two-input opcode. -/
def vecElem2 (f : Word → Word → Word) (a : VecArgs) : VecAnswer :=
  match a.input 1 1, a.input 1 2 with
  | some x, some y =>
    if !broadcasts y x.rows x.cols then .refuse 0x2003
    else
      outF a a.mode x.rows x.cols
        ((List.range (x.rows * x.cols)).map fun i => f (x.vals.getD i 0) (y.at (i / x.cols) (i % x.cols)))
  | _, _ => .refuse 0x2003

/-- VEC.MUL: a factor of exactly +1.0 leaves a bank entry unwritten (R121). -/
def vecMul (a : VecArgs) : VecAnswer :=
  match a.input 1 1, a.input 1 2 with
  | some x, some y =>
    if !broadcasts y x.rows x.cols then .refuse 0x2003
    else
      outF a a.mode x.rows x.cols
        ((List.range (x.rows * x.cols)).map fun i => mulF32 (x.vals.getD i 0) (y.at (i / x.cols) (i % x.cols)))
        (fun i => y.at (i / x.cols) (i % x.cols) == 0x3F800000#32)
  | _, _ => .refuse 0x2003

/-- VEC.FMA. -/
def vecFma (a : VecArgs) : VecAnswer :=
  match a.input 1 1, a.input 1 2, a.input 1 3 with
  | some x, some y, some z =>
    if !broadcasts y x.rows x.cols || !broadcasts z x.rows x.cols then .refuse 0x2003
    else
      outF a a.mode x.rows x.cols ((List.range (x.rows * x.cols)).map fun i =>
        fmaF32 (x.vals.getD i 0) (y.at (i / x.cols) (i % x.cols)) (z.at (i / x.cols) (i % x.cols)))
  | _, _, _ => .refuse 0x2003

/-- VEC.CMP. -/
def vecCmp (a : VecArgs) : VecAnswer :=
  let p := vFunc a.w
  match a.input 1 1, a.input 1 2 with
  | some x, some y =>
    if 6 < p || !broadcasts y x.rows x.cols then .refuse 0x2003
    else
      outMask a a.mode x.rows x.cols ((List.range (x.rows * x.cols)).map fun i =>
        cmpF32 p (x.vals.getD i 0) (y.at (i / x.cols) (i % x.cols))) []
  | _, _ => .refuse 0x2003

/-- VEC.SEL: the bank replaces H2. -/
def vecSel (a : VecArgs) : VecAnswer :=
  match a.input 2 1, a.input 2 2, a.input 2 3 with
  | some m, some y, some z =>
    if hFormat a.t1.header != 0x0E || !broadcasts y m.rows m.cols || !broadcasts z m.rows m.cols then .refuse 0x2003
    else
      outF a a.mode m.rows m.cols ((List.range (m.rows * m.cols)).map fun i =>
        if m.vals.getD i 0 = 0 then z.at (i / m.cols) (i % m.cols) else y.at (i / m.cols) (i % m.cols))
  | _, _, _ => .refuse 0x2003

/-- VEC.UNARY. -/
def vecUnary (a : VecArgs) : VecAnswer :=
  match a.input 1 1 with
  | some x => if 12 < vFunc a.w then .refuse 0x2003 else outF a a.mode x.rows x.cols (x.vals.map (unaryF32 (vFunc a.w)))
  | none => .refuse 0x2003

/-- VEC.PERM (R119). -/
def vecPerm (a : VecArgs) : VecAnswer :=
  let h2 := a.t2.header
  match a.input 1 1 with
  | some x =>
    if x.cols % 64 != 0 || hFormat h2 != 0x00 || hRows h2 * hCols h2 != 64 then .refuse 0x2003
    else
      outF a a.mode x.rows x.cols ((List.range (x.rows * x.cols)).map fun i =>
        let b := (a.t2.payload.getD (i % 64) 0).toNat
        if 128 ≤ b then 0 else x.vals.getD (i / 64 * 64 + b % 64) 0)
  | none => .refuse 0x2003

/-- VEC.SHUF (R119); the second input of mode 0 has the shape of the first. -/
def vecShuf (a : VecArgs) : VecAnswer :=
  let mode := vFunc a.w % 4
  let lg := vFunc a.w / 4 % 16
  let g := 2 ^ lg
  match a.input 1 1 with
  | none => .refuse 0x2003
  | some x =>
    if mode = 3 || 12 < lg || x.cols % (2 * g) != 0 then .refuse 0x2003
    else if vAccUse a.w = 2 then .refuse 0x2008
    else if mode = 0 then
      match a.input 1 2 with
      | none => .refuse 0x2003
      | some y =>
        if y.rows != x.rows || y.cols != x.cols then .refuse 0x2003
        else
          outF a a.mode x.rows (2 * x.cols) ((List.range (x.rows * (2 * x.cols))).map fun i =>
            let r := i / (2 * x.cols)
            let c := i % (2 * x.cols)
            let src := if c / g % 2 = 0 then x else y
            src.vals.getD (r * x.cols + c / (2 * g) * g + c % g) 0)
    else
      let n := x.cols / 2
      outF a a.mode x.rows n ((List.range (x.rows * n)).map fun i =>
        let c := i % n
        x.vals.getD (i / n * x.cols + (2 * (c / g) + (mode - 1)) * g + c % g) 0)

/-! ### Packing (R119, R143, R144, R357) -/

/-- The output scale s of R143: element 0 of a readable tile, positive and finite. -/
def outputScale (k : Core) (t : Tile) : Option Word :=
  if !vecReads t.header then none else
    let s := (tileOperand k t).vals.getD 0 0
    if s = 0 || nonfiniteF32 s || decide (2 ^ 31 ≤ s.toNat) then none else some s

/-- A number divided by a positive finite scale. -/
def divScale (x : Num) (s : Word) : Num := numDivPos x (ofF32 s)

/-- An FP8 tile with a per-tensor scale (R108, R143). -/
def emitFp8 (f rows cols : Nat) (s : Word) (rs : Nat → Rounding) (vals : List Word) : VecAnswer :=
  let cs := (List.range vals.length).map fun i => convElem f (rs i) (divScale (ofF32 (vals.getD i 0)) s)
  let bad := (cs.filter fun c => numBad (codeNum f c.code)).length
  let e : VecEffect := { nonfiniteOut := bad }
  match emitCodes f rows cols (cs.map (·.code)) (e.count cs) with
  | .refuse c => .refuse c
  | .ok e => .ok { e with out := e.out.map fun o => (setf (setf o.1 76 2 1) 80 32 s.toNat, o.2) }

/-- The MX blocks of a row-major matrix, block after block of 32 columns (R144). -/
def mxBlocks (f : Nat) (rs : Nat → Rounding) (vals : List Word) : List (Nat × List Conv) :=
  (List.range (vals.length / 32)).map fun b =>
    convMx f (fun i => rs (32 * b + i)) (((vals.drop (32 * b)).take 32).map ofF32)

/-- An MX tile in layout 3 (R87, R144). -/
def emitMx (f rows cols : Nat) (rs : Nat → Rounding) (vals : List Word) : VecAnswer :=
  if cols % 32 != 0 || !shapeFits f 3 rows cols then .refuse 0x2003
  else
    let bs := mxBlocks f rs vals
    let cs := bs.flatMap (·.2)
    let e : VecEffect := { nonfiniteOut := 32 * (bs.filter fun b => b.1 == 0xFF).length }
    let e := e.countBlocks (bs.map (·.2))
    .ok { e with out := some (outHeader f 3 rows cols,
      padGranules (packCodes (elemBits f) (cs.map (·.code)) 0 0 ++ bs.map fun b => BitVec.ofNat 8 b.1)) }

/-- A fixed-rate tile (R355, R357). -/
def emitFull (f rows cols : Nat) (rs : Nat → Rounding) (vals : List Word) : VecAnswer :=
  if !shapeFits f 0 rows cols then .refuse 0x2003
  else
    let m := ceilDiv vals.length 32
    let bs := (List.range m).map fun b =>
      fullEncode f (fun i => rs (32 * b + i)) (((vals.drop (32 * b)).take 32).map ofF32)
    let codes := bs.flatMap fun b => b.codes ++ List.replicate (32 - b.codes.length) 0
    let bad := (List.range m).map fun i =>
      let b := bs.getD i { x := 0, codes := [] }
      if b.x = 0xFF then b.codes.length else 0
    .ok { out := some (outHeader f 0 rows cols,
            padGranules (packCodes (elemBits f) codes 0 0 ++ bs.map fun b => BitVec.ofNat 8 b.x))
          nonfins := (bs.filter (·.nonfin)).length
          sats := (bs.filter (·.sat)).length
          nonfiniteOut := bad.foldl (· + ·) 0 }

/-- The positions of the two largest magnitudes of a group of four, NaN above every number, the lower position first
between equals (R119). -/
def pruneGroup (xs : List Word) : List Nat :=
  let mag := fun i => ofF32 (unaryF32 1 (xs.getD i 0))
  let best := fun (skip : Nat) => ((List.range 4).filter (· != skip)).foldl (fun b i =>
    match b with
    | none => some i
    | some j => if gtMax (mag i) (mag j) then some i else some j) none
  let p := (best 4).getD 0
  let q := (best p).getD 1
  if p < q then [p, q] else [q, p]

/-- A tile pruned to 2:4 in layout 2: value plane, index plane, and for MXFP4 the scale plane of the dense blocks (R88,
R119). FP8 values carry no output scale. -/
def emitPruned (f rows cols : Nat) (rs : Nat → Rounding) (vals : List Word) : VecAnswer :=
  if cols % 4 != 0 || (isMx f && cols % 32 != 0) || !shapeFits f 2 rows cols then .refuse 0x2003
  else
    let groups := (List.range (vals.length / 4)).map fun g => (vals.drop (4 * g)).take 4
    let pos := groups.map pruneGroup
    let kept : List (Nat × Word) := (List.range groups.length).flatMap fun g =>
      (pos.getD g []).map fun p => (4 * g + p, (groups.getD g []).getD p 0)
    let dense := (List.range vals.length).map fun i => if kept.any (·.1 == i) then vals.getD i 0 else 0
    -- the rounding word of a kept value is that of its place in the value plane
    let place := fun (i : Nat) => kept.findIdx fun e => e.1 == i
    if f = 0x0A then
      let bs : List (Nat × List Conv) := mxBlocks f (fun i => rs (place i)) dense
      let all := bs.flatMap (·.2)
      let cs : List Conv := kept.map fun e => all.getD e.1 { code := 0 }
      let e : VecEffect := { nonfiniteOut := 16 * (bs.filter fun b => b.1 == 0xFF).length }
      let planes := packCodes 4 (cs.map (·.code)) 0 0 ++ packCodes 2 (pos.flatMap id) 0 0 ++
        bs.map fun b => BitVec.ofNat 8 b.1
      .ok { (e.countBlocks (bs.map (·.2))) with out := some (outHeader f 2 rows cols, padGranules planes) }
    else
      let cs := (List.range kept.length).map fun i => convElem f (rs i) (ofF32 (kept.getD i (0, 0)).2)
      let e : VecEffect := { nonfiniteOut := (cs.filter fun c => numBad (codeNum f c.code)).length }
      let e := e.count cs
      .ok { e with out := some (outHeader f 2 rows cols,
        padGranules (packCodes 8 (cs.map (·.code)) 0 0 ++ packCodes 2 (pos.flatMap id) 0 0)) }

/-- VEC.PACK (R119). -/
def vecPack (a : VecArgs) : VecAnswer :=
  let kind := vFunc a.w % 4
  let b := vFunc a.w / 4 % 64
  let f := vOutFormat a.w
  match a.input 1 1 with
  | none => .refuse 0x2003
  | some x =>
    if kind = 3 then .refuse 0x2003
    else if kind = 2 then
      let f1 := hFormat a.t1.header
      if vAccUse a.w != 0 || !(f1 == 0x0B || f1 == 0x0C || f1 == 0x0D) || f != 0x00 || b = 0 || 32 < b then .refuse 0x2003
      else
        let bytes := packCodes b ((tileCodes a.t1).map fun c =>
          ((signedOf (elemBits f1) c) % (2 ^ b : Int)).toNat) 0 0
        if shapeFits 0 0 1 bytes.length then
          .ok { out := some (outHeader 0 0 1 bytes.length, padGranules bytes) }
        else .refuse 0x2003
    else if vAccUse a.w = 2 then .refuse 0x2008
    else if kind = 1 then
      if f = 0x04 || f = 0x05 || f = 0x0A then emitPruned f x.rows x.cols a.rounding x.vals else .refuse 0x2003
    else if isFp8 f then
      match outputScale a.k a.t3 with
      | none => .refuse 0x2003
      | some s => emitFp8 f x.rows x.cols s a.rounding x.vals
    else if isMx f then emitMx f x.rows x.cols a.rounding x.vals
    else if isFulling f then emitFull f x.rows x.cols a.rounding x.vals
    else .refuse 0x2003

/-- Whether VEC.UNPACK kind 0 takes a tile (R119): FP8, MX, fulling, or 2:4 in layout 2. -/
def unpackTakes (h : Hdr) : Bool := isFp8 (hFormat h) || isMx (hFormat h) || isFulling (hFormat h)

/-- VEC.UNPACK (R119): tiles of the packed formats, or bit fields of a RAW tile. A RAW tile without one whole field is refused
as a shape outside R119: the spec gives no result (DESIGN CHOICE, log entry 52). -/
def vecUnpack (a : VecArgs) : VecAnswer :=
  let kind := vFunc a.w % 4
  let b := vFunc a.w / 4 % 64
  let f := vOutFormat a.w
  let h := a.t1.header
  if kind = 0 then
    if !unpackTakes h then .refuse 0x2003
    else outF a .f32x32 (hRows h) (hCols h) (tileF32 a.t1 (scaleElems a.k h))
  else if kind = 2 then
    let signed := bitf a.w 8
    let bytes := hRows h * hCols h
    let n := if b = 0 then 0 else 8 * bytes / b
    if hFormat h != 0x00 || b = 0 || 32 < b || n = 0 || f != (if signed then 0x0C else 0x0D) then .refuse 0x2003
    else
      let cs := (unpackCodes b (a.t1.payload.take bytes) 0 0).take n
      emitCodes f 1 n (cs.map fun c => if signed then ((signedOf b c) % (2 ^ 32 : Int)).toNat else c) {}
  else .refuse 0x2003

/-! ### Reductions and summaries (R119, R123) -/

/-- One level of the pairwise tree of R119; an unpaired value passes up unchanged. Which values a level pairs is not said: the
model pairs neighbours (DESIGN CHOICE, log entry 52). -/
def pairLevel : List Word → List Word
  | a :: b :: r => addF32 a b :: pairLevel r
  | r => r

/-- The sum of at most 64 values through six levels. -/
def groupSum (xs : List Word) : Word :=
  ((List.range 6).foldl (fun l _ => pairLevel l) xs).getD 0 0

/-- The sum of a row: groups of 64 in ascending order (R119). -/
def rowSum (xs : List Word) : Word :=
  match (List.range (ceilDiv xs.length 64)).map fun g => groupSum ((xs.drop (64 * g)).take 64) with
  | [] => 0
  | g :: gs => gs.foldl addF32 g

/-- The column of the largest or smallest value, the lowest between equals (R119). -/
def rowBest (isMin : Bool) (xs : List Word) : Nat :=
  ((List.range xs.length).foldl (fun (b : Nat) i =>
    let x := ofF32 (xs.getD i 0)
    let y := ofF32 (xs.getD b 0)
    if (if isMin then ltMin x y else gtMax x y) then i else b) 0)

/-- The rows of an operand. -/
def Operand.row (x : Operand) (r : Nat) : List Word := (x.vals.drop (r * x.cols)).take x.cols

/-- VEC.RED. -/
def vecRed (a : VecArgs) : VecAnswer :=
  let k := vFunc a.w
  match a.input 1 1 with
  | none => .refuse 0x2003
  | some x =>
    if 4 < k || vOutFormat a.w != (if k ≤ 2 then 0x01 else 0x0D) then .refuse 0x2003
    else if vAccUse a.w = 2 then .refuse 0x2008
    else
      let res := (List.range x.rows).map fun r =>
        let xs := x.row r
        match k with
        | 0 => rowSum xs
        | 1 => xs.getD (rowBest false xs) 0
        | 2 => xs.getD (rowBest true xs) 0
        | 3 => BitVec.ofNat 32 (rowBest false xs)
        | _ => BitVec.ofNat 32 (rowBest true xs)
      emitCodes (vOutFormat a.w) x.rows 1 (res.map (·.toNat))
        { posts := [res.getD 0 0], nonfiniteOut := if k ≤ 2 then (res.filter nonfiniteF32).length else 0 }

/-- The columns of the `k` largest values of a row by the ranking of VEC.MAX, and the k-th (R119). -/
def topColumns : Nat → List Word → List Nat → List Nat
  | 0, _, acc => acc
  | k + 1, xs, acc =>
    let best := (List.range xs.length).foldl (fun (b : Option Nat) i =>
      if acc.contains i then b else
        match b with
        | none => some i
        | some j => if gtMax (ofF32 (xs.getD i 0)) (ofF32 (xs.getD j 0)) then some i else some j) none
    match best with
    | none => acc
    | some i => topColumns k xs (acc ++ [i])

/-- VEC.TOPK. -/
def vecTopk (a : VecArgs) : VecAnswer :=
  let k := vFunc a.w
  match a.input 1 1 with
  | none => .refuse 0x2003
  | some x =>
    if k = 0 || 1024 < k || x.cols < k then .refuse 0x2003
    else
      let tops := (List.range x.rows).map fun r => topColumns k (x.row r) []
      let bits := (List.range (x.rows * x.cols)).map fun i => (tops.getD (i / x.cols) []).contains (i % x.cols)
      outMask a a.mode x.rows x.cols bits [(x.row 0).getD ((tops.getD 0 []).getD (k - 1) 0) 0]

/-- VEC.COLCOUNT. -/
def vecColcount (a : VecArgs) : VecAnswer :=
  let h := a.t1.header
  let c0 := vFunc a.w / 16
  let n := vFunc a.w % 16 + 1
  if hFormat h != 0x0E || vOutFormat a.w != 0x0D || hCols h < c0 + n then .refuse 0x2003
  else
    let bits := tileCodes a.t1
    let counts := (List.range (hCols h)).map fun c =>
      ((List.range (hRows h)).map fun r => bits.getD (r * hCols h + c) 0).foldl (· + ·) 0
    emitCodes 0x0D 1 (hCols h) counts { posts := ((counts.drop c0).take n).map (BitVec.ofNat 32) }

/-- NaN and infinite elements of a tile that VEC writes (R137). -/
def badElements (h : Hdr) (payload : List Byte) : Nat := ((tileNums { header := h, payload := payload }).filter numBad).length

/-- VEC.COMPACT. -/
def vecCompact (a : VecArgs) : VecAnswer :=
  let h := a.t1.header
  let m := a.t2.header
  let col := vFunc a.w
  let f := hFormat h
  if !vecReads h || hLayout h = 2 || hFormat m != 0x0E || hRows m != hRows h || hCols m ≤ col || vOutFormat a.w != f
  then .refuse 0x2003
  else
    let bits := tileCodes a.t2
    let keep := (List.range (hRows h)).filter fun r => bits.getD (r * hCols m + col) 0 == 1
    let rows := max 1 keep.length
    let cs := tileCodes a.t1
    let codes := if keep.isEmpty then List.replicate (hCols h) 0
      else keep.flatMap fun r => (cs.drop (r * hCols h)).take (hCols h)
    let sc := tileScales a.t1
    let scales := if hLayout h != 3 then []
      else if keep.isEmpty then List.replicate (hCols h / 32) 0
      else keep.flatMap fun r => (sc.drop (r * (hCols h / 32))).take (hCols h / 32)
    let hd := outHeader f (hLayout h) rows (hCols h)
    let hd := setf (setf (setf hd 76 2 (hScaleKind h)) 80 32 (hScaleValue h).toNat) 64 12 (hScaleHandle h)
    let payload := padGranules (storeCodes f (hLayout h) rows (hCols h) codes ++ scales.map (BitVec.ofNat 8))
    .ok { out := some (hd, payload), posts := [BitVec.ofNat 32 keep.length], nonfiniteOut := badElements hd payload }

/-- The amax of R119. -/
def amaxOf (xs : List Word) : Word :=
  if xs.any isNanF32 then nanF32 else xs.foldl (fun m x => maxF32 m (unaryF32 1 x)) 0

/-- VEC.STAT: no tile; a bank takes no result (R114). With POST 0, which R118 forbids without naming a fault, it is refused as
TILE_HEADER like the other fields outside R118 (DESIGN CHOICE, log entry 52). -/
def vecStat (a : VecArgs) : VecAnswer :=
  match a.input 1 1 with
  | none => .refuse 0x2003
  | some x =>
    if !bitf a.w 41 then .refuse 0x2003
    else if vAccUse a.w = 2 then .refuse 0x2008
    else
      let v : Word := match vFunc a.w with
        | 0 => amaxOf x.vals
        | 1 => BitVec.ofNat 32 (x.vals.filter fun v => v.toNat % 2 ^ 31 != 0).length
        | 2 => if x.vals.any isNanF32 then 1 else 0
        | _ => if x.vals.any nonfiniteF32 then 1 else 0
      .ok { posts := [v] }

/-- VEC.HIST. -/
def vecHist (a : VecArgs) : VecAnswer :=
  let h2 := a.t2.header
  let named := iH2 a.w != 0
  match a.input 1 1 with
  | none => .refuse 0x2003
  | some x =>
    if vOutFormat a.w != 0x0D || (named && !(hFormat h2 == 0x0D && hRows h2 == 1 && hCols h2 == 256)) then .refuse 0x2003
    else if vAccUse a.w = 2 then .refuse 0x2008
    else
      let old := tileCodes a.t2
      let bins := (List.range 256).map fun b =>
        let n := (x.vals.filter fun v => v.toNat % 2 ^ 31 / 2 ^ 23 == b).length
        min 0xFFFFFFFF (n + (if named then old.getD b 0 else 0))
      emitCodes 0x0D 1 256 bins { posts := [amaxOf x.vals] }

/-- VEC.RNG (R119, R148). -/
def vecRng (a : VecArgs) : VecAnswer :=
  let h := a.t1.header
  let fp := vFunc a.w % 2 = 1
  let f := if fp then 0x01 else 0x0D
  if hFormat h != 0x00 || hRows h * hCols h < 16 || vOutFormat a.w != f then .refuse 0x2003
  else
    let k := leAt a.t1.payload 0 8
    let b := leAt a.t1.payload 8 8
    let n := 64 * (a.cap + 1)
    emitCodes f 1 n ((List.range n).map fun i =>
      let w := genWord k ((b + i) % 2 ^ 64)
      if fp then (toF32 (.fin false (w / 256) 1 (-24))).toNat else w) {}

/-- x·p + y·q in FP32 by one of the three forms of log entry 16. -/
def ropeSum (x p y q : Word) : Word :=
  match Config.ropeForm % 3 with
  | 0 => addF32 (mulF32 x p) (mulF32 y q)
  | 1 => fmaF32 x p (mulF32 y q)
  | _ => fmaF32 y q (mulF32 x p)

/-- VEC.ROPE (R119, R172): the angle is the position times the frequency, rounded once. -/
def vecRope (a : VecArgs) : VecAnswer :=
  let h2 := a.t2.header
  let h3 := a.t3.header
  match a.input 0 1, a.input 0 2 with
  | some x, some fr =>
    if x.cols % 2 != 0 || hFormat h2 != 0x01 || fr.rows != 1 || fr.cols != x.cols / 2 ||
        hFormat h3 != 0x0D || hRows h3 != x.rows || hCols h3 != 1 then .refuse 0x2003
    else
      let pos := tileCodes a.t3
      outF a .f32x32 x.rows x.cols ((List.range (x.rows * x.cols)).map fun i =>
        let r := i / x.cols
        let c := i % x.cols
        let th := toF32 (numMul (numOfInt (pos.getD r 0)) (ofF32 (fr.vals.getD (c / 2) 0)))
        let x0 := x.vals.getD (r * x.cols + c / 2 * 2) 0
        let x1 := x.vals.getD (r * x.cols + c / 2 * 2 + 1) 0
        if c % 2 = 0 then ropeSum x0 (cosF32 th) (negF32 x1) (sinF32 th)
        else ropeSum x0 (sinF32 th) x1 (cosF32 th))
  | _, _ => .refuse 0x2003

/-- VEC.SCATTER (R179, R180). -/
def vecScatter (a : VecArgs) : VecAnswer :=
  let h1 := a.t1.header
  let h2 := a.t2.header
  let h3 := a.t3.header
  let add := vFunc a.w % 2 = 1
  let col0 := vFunc a.w / 2
  let slots := tileCodes a.t3
  let formats := if add then vecReads h1 && hFormat h2 == 0x01 && hLayout h2 == 0
    else hFormat h1 == hFormat h2 && hLayout h1 == 0 && hLayout h2 == 0 && !hCompressed h1
  if !formats || hFormat h3 != 0x0D || hRows h3 != hRows h1 || hCols h3 != 1 || vOutFormat a.w != hFormat h2 ||
      hCols h2 < col0 + hCols h1 || slots.any (fun v => v != 0xFFFFFFFF && decide (hRows h2 ≤ v)) then .refuse 0x2003
  else
    let src := if add then (tileOperand a.k a.t1).vals.map (·.toNat) else tileCodes a.t1
    let step := fun (t : List Nat) (r : Nat) =>
      let slot := slots.getD r 0
      if slot = 0xFFFFFFFF then t
      else
        (List.range (hCols h1)).foldl (fun t j =>
          let p := slot * hCols h2 + col0 + j
          let v := src.getD (r * hCols h1 + j) 0
          t.set p (if add then (addF32 (BitVec.ofNat 32 (t.getD p 0)) (BitVec.ofNat 32 v)).toNat else v)) t
    let out := (List.range (hRows h1)).foldl step (tileCodes a.t2)
    let hd := outHeader (hFormat h2) 0 (hRows h2) (hCols h2)
    let hd := setf (setf (setf hd 76 2 (hScaleKind h2)) 80 32 (hScaleValue h2).toNat) 64 12 (hScaleHandle h2)
    let hd := setf hd 48 8 (hGranules h2)
    .ok { out := some (hd, sliceBytes (packCodes (elemBits (hFormat h2)) out 0 0) 0 (256 * (hGranules h2 + 1)))
          nonfiniteOut := (out.filter fun v => numBad (codeNum (hFormat h2) v)).length }

/-! ### VEC.EPI (R107 to R109) -/

/-- A scale or bias tile of VEC.EPI: layout 0, one of the formats, enough elements (R107). -/
def epiVector (k : Core) (t : Tile) (bf16 : Bool) (n : Nat) : Option (List Word) :=
  let h := t.header
  if (hFormat h == 0x01 || (bf16 && hFormat h == 0x02)) && hLayout h == 0 && decide (n ≤ hRows h * hCols h) then
    some (tileOperand k t).vals
  else none

/-- VEC.EPI on the bank (R107 to R109). -/
def vecEpi (a : VecArgs) : VecAnswer :=
  let w := a.w
  let bk := a.k.bank (iBankB w)
  let sm := iField w 51 2
  let bm := iField w 49 2
  let act := iField w 46 3
  let f := iField w 38 8
  let row0 := iField w 28 9
  let rows := iField w 19 9 + 1
  let n := bankCols bk.mode
  let rs := roundingOf (bitf w 37) a.key a.seq
  let maxmin := bk.mode = .max32 || bk.mode = .min32
  if !(f == 0 || f == 1 || f == 2 || isFp8 f || isMx f) then .refuse 0x2003
  else if bankRows bk.mode < row0 + rows || (maxmin != (f == 0)) || (maxmin && !(sm == 0 && bm == 0 && act == 0)) then
    .refuse 0x2008
  else if maxmin then
    let bytes := (List.range (rows * 32)).flatMap fun i =>
      let key := bankKey bk.mode (row0 + i / 32) (i % 32)
      natLe 4 (bk.get key).toNat ++ natLe 4 (bk.get (key + 1)).toNat
    let bad := ((List.range (rows * 32)).filter fun i =>
      nonfiniteF32 (bk.get (bankKey bk.mode (row0 + i / 32) (i % 32)))).length
    if shapeFits 0 0 rows 256 then
      .ok { out := some (outHeader 0 0 rows 256, padGranules bytes), nonfiniteOut := bad }
    else .refuse 0x2003
  else
    let scale := if sm = 0 then some [] else epiVector a.k a.t1 false (if sm = 1 then rows else n)
    let bias := if bm = 0 then some [] else epiVector a.k a.t2 true (if bm = 1 then n else rows)
    match scale, bias with
    | some sc, some bi =>
      let x := bankOperand bk row0 rows
      let vals := (List.range x.vals.length).map fun i =>
        let v := x.vals.getD i 0
        let q := sc.getD (if sm = 1 then i / n else i % n) 0
        let b := bi.getD (if bm = 1 then i % n else i / n) 0
        let y := if sm = 0 then (if bm = 0 then v else addF32 v b) else if bm = 0 then mulF32 v q else fmaF32 v q b
        if act = 0 then y else unaryF32 (act + 2) y
      if isFp8 f then
        if hFormat a.t3.header != 0x01 then .refuse 0x2003
        else
          match outputScale a.k a.t3 with
          | none => .refuse 0x2003
          | some s => emitFp8 f rows n s rs vals
      else if isMx f then emitMx f rows n rs vals
      else
        let cs := (List.range vals.length).map fun i => convElem f (rs i) (ofF32 (vals.getD i 0))
        let e : VecEffect := { nonfiniteOut := (cs.filter fun c => numBad (codeNum f c.code)).length }
        emitCodes f rows n (cs.map (·.code)) (e.count cs)
    | _, _ => .refuse 0x2003

/-! ### The instruction -/

/-- The generator key of R147. -/
def vecKey (s : State) (c : Nat) : Nat :=
  match s.jsOfCore c with
  | none => 0
  | some j =>
    let st := s.stepOf j
    st.seed ^^^ (st.moduleId * 2 ^ 48) ^^^ (c * 2 ^ 40) ^^^ (st.number % 2 ^ 40)

/-- The counters of an effect (R137, R159). -/
def countVec (s : State) (c : Nat) (e : VecEffect) : State :=
  let add := fun (s : State) (k : Key) (n : Nat) => if n = 0 then s else s.bump k n
  add (add (add (add s (coreRow 0x8012 1 c) e.sats) (coreRow 0x8012 2 c) e.nonfins) (coreRow 0x8012 3 c) e.undfs)
    (coreRow 0x8011 3 c) e.nonfiniteOut

/-- The first input of an instruction whose scale tile breaks R51. -/
def badScale (k : Core) (w : QWord) (hs : List Nat) : Option Nat :=
  (scaledInputs w hs).find? fun h => !scaleTileOk k (readHeader k h)

/-- An instruction whose input is poisoned (R49, R97): a bank it would have written becomes poisoned. -/
def vecPoisoned (s : State) (c : Nat) (i : StationInsn) (token h : Nat) : Issue :=
  match poisonedIssue s c 2 i token h with
  | .go f s' =>
    let k := s'.core c
    let b := iBankB i.w0
    .go f (if vecWrites i.w0 then s'.setCore c (k.setBank b { k.bank b with poison := true }) else s')
  | x => x

/-- Whether a MAT instruction is eligible on a bank in the running cycle: it issues before a VEC instruction does (R97). -/
def matClaims (s : State) (c : Nat) (b : Bool) : Bool :=
  let k := s.core c
  match readyHead s c 1 with
  | some (i, _) => iBankB i.w0 == b && (k.bank b).state != .closed && !vecOnBank k b (fun _ => true) &&
      (iOpcode i.w0 != 0xA1 || inFlightCount k 1 == 0)
  | none => false

/-- The own part of every VEC instruction: the waits of R96, R97, R115 and R124, then poison (R49, R358), tiles (R43, R51),
bank (R109, R114), the opcode's own conditions, the output's size (R74), checksums (R45), and the effect. -/
def vecIssue (c : Nat) (compute : VecArgs → VecAnswer) (s : State) (i : StationInsn) (token : Nat) : Issue :=
  let w := i.w0
  let op := iOpcode w
  let k := s.core c
  let b := iBankB w
  let bk := k.bank b
  let usesBank := op != 0x40 && op != 0x80 && vAccUse w != 0
  if !vecBankReady k w then .stall
  else if vecTouches w && matClaims s c b then .stall
  else if !summaryRoom k (postCount w) then .stall
  else
    match insnForm w with
    | none => .stall
    | some fm =>
      let hs := (inputHandles w fm).map (·.1)
      let scales := scaleHandles k w hs
      match poisonedInput k (hs ++ scales) with
      | some h => vecPoisoned s c i token h
      | none =>
        if (usesBank || op = 0x40) && bk.poison then vecPoisoned s c i token 0xFFF
        else
          match hs.find? fun h => !headerOk (readHeader k h) (256 * (hGranules (readHeader k h) + 1)) with
          | some h => withdrawnIssue s c 2 i token 0x2003 h h
          | none =>
            match badScale k w hs with
            | some h => withdrawnIssue s c 2 i token 0x2003 h h
            | none =>
              let t1 := readTile k (iH1 w)
              if usesBank && ((bk.mode == .max32 || bk.mode == .min32) || decide (bankRows bk.mode < vRow0 w + vRows w)) then
                withdrawnIssue s c 2 i token 0x2008 0xFFF (iField w 55 1)
              else if op = 0x59 && vFunc w % 4 = 0 && isFulling (hFormat t1.header) && fullPoisoned t1 then
                vecPoisoned s c i token (iH1 w)
              else
                let args : VecArgs :=
                  { k := k, w := w, bank := if usesBank then some (bankOperand bk (vRow0 w) (vRows w)) else none
                    t1 := t1, t2 := readTile k (iH2 w), t3 := readTile k (iH3 w)
                    key := vecKey s c, seq := k.vecSeq, cap := (k.tte (iH0 w)).capacity.toNat }
                match compute args with
                | .refuse code => withdrawnIssue s c 2 i token code (if code = 0x2008 then 0xFFF else iH1 w) (iH1 w)
                | .ok e =>
                  let size := match e.out with | some o => o.2.length | none => 0
                  if fm.out && decide (capacityBytes k (iH0 w) < size) then
                    withdrawnIssue s c 2 i token 0x2002 (iH0 w) (iH0 w)
                  else
                    match crcFailure k (hs ++ scales) with
                    | some h => withdrawnIssue s c 2 i token 0x2006 h h
                    | none =>
                      let outs := match e.out with
                        | some o => [({ handle := iH0 w, tile := sealProduced (producedHeader s c 2 o.1) o.2 } : OutTile)]
                        | none => []
                      .go { token := token, insn := i, outs := outs, bankWrites := e.bank
                            posts := if bitf w 41 then summariesOf w false e.posts else [] } (countVec s c e)

/-- VEC.EPI (R107). -/
def execVecEpi (c : CoreId) (s : State) : Host.Outcome State Fault Refusal :=
  .next (issueStation s c.val 2 0x40 (vecIssue c.val vecEpi))

/-- VEC.ADD (R118). -/
def execVecAdd (c : CoreId) (s : State) : Host.Outcome State Fault Refusal :=
  .next (issueStation s c.val 2 0x41 (vecIssue c.val (vecElem2 addF32)))

/-- VEC.SUB (R118). -/
def execVecSub (c : CoreId) (s : State) : Host.Outcome State Fault Refusal :=
  .next (issueStation s c.val 2 0x42 (vecIssue c.val (vecElem2 subF32)))

/-- VEC.MUL (R118, R121). -/
def execVecMul (c : CoreId) (s : State) : Host.Outcome State Fault Refusal :=
  .next (issueStation s c.val 2 0x43 (vecIssue c.val vecMul))

/-- VEC.FMA (R118). -/
def execVecFma (c : CoreId) (s : State) : Host.Outcome State Fault Refusal :=
  .next (issueStation s c.val 2 0x44 (vecIssue c.val vecFma))

/-- VEC.MAX (R119). -/
def execVecMax (c : CoreId) (s : State) : Host.Outcome State Fault Refusal :=
  .next (issueStation s c.val 2 0x45 (vecIssue c.val (vecElem2 maxF32)))

/-- VEC.MIN (R119). -/
def execVecMin (c : CoreId) (s : State) : Host.Outcome State Fault Refusal :=
  .next (issueStation s c.val 2 0x46 (vecIssue c.val (vecElem2 minF32)))

/-- VEC.CMP (R118). -/
def execVecCmp (c : CoreId) (s : State) : Host.Outcome State Fault Refusal :=
  .next (issueStation s c.val 2 0x47 (vecIssue c.val vecCmp))

/-- VEC.SEL (R118). -/
def execVecSel (c : CoreId) (s : State) : Host.Outcome State Fault Refusal :=
  .next (issueStation s c.val 2 0x48 (vecIssue c.val vecSel))

/-- VEC.UNARY (R118, R120). -/
def execVecUnary (c : CoreId) (s : State) : Host.Outcome State Fault Refusal :=
  .next (issueStation s c.val 2 0x49 (vecIssue c.val vecUnary))

/-- VEC.PERM (R119). -/
def execVecPerm (c : CoreId) (s : State) : Host.Outcome State Fault Refusal :=
  .next (issueStation s c.val 2 0x50 (vecIssue c.val vecPerm))

/-- VEC.SHUF (R119). -/
def execVecShuf (c : CoreId) (s : State) : Host.Outcome State Fault Refusal :=
  .next (issueStation s c.val 2 0x51 (vecIssue c.val vecShuf))

/-- VEC.PACK (R119). -/
def execVecPack (c : CoreId) (s : State) : Host.Outcome State Fault Refusal :=
  .next (issueStation s c.val 2 0x58 (vecIssue c.val vecPack))

/-- VEC.UNPACK (R119). -/
def execVecUnpack (c : CoreId) (s : State) : Host.Outcome State Fault Refusal :=
  .next (issueStation s c.val 2 0x59 (vecIssue c.val vecUnpack))

/-- VEC.RED (R119). -/
def execVecRed (c : CoreId) (s : State) : Host.Outcome State Fault Refusal :=
  .next (issueStation s c.val 2 0x60 (vecIssue c.val vecRed))

/-- VEC.TOPK (R119). -/
def execVecTopk (c : CoreId) (s : State) : Host.Outcome State Fault Refusal :=
  .next (issueStation s c.val 2 0x61 (vecIssue c.val vecTopk))

/-- VEC.COLCOUNT (R119). -/
def execVecColcount (c : CoreId) (s : State) : Host.Outcome State Fault Refusal :=
  .next (issueStation s c.val 2 0x62 (vecIssue c.val vecColcount))

/-- VEC.COMPACT (R119). -/
def execVecCompact (c : CoreId) (s : State) : Host.Outcome State Fault Refusal :=
  .next (issueStation s c.val 2 0x63 (vecIssue c.val vecCompact))

/-- VEC.STAT (R119). -/
def execVecStat (c : CoreId) (s : State) : Host.Outcome State Fault Refusal :=
  .next (issueStation s c.val 2 0x68 (vecIssue c.val vecStat))

/-- VEC.HIST (R119). -/
def execVecHist (c : CoreId) (s : State) : Host.Outcome State Fault Refusal :=
  .next (issueStation s c.val 2 0x69 (vecIssue c.val vecHist))

/-- VEC.RNG (R148). -/
def execVecRng (c : CoreId) (s : State) : Host.Outcome State Fault Refusal :=
  .next (issueStation s c.val 2 0x70 (vecIssue c.val vecRng))

/-- VEC.ROPE (R119). -/
def execVecRope (c : CoreId) (s : State) : Host.Outcome State Fault Refusal :=
  .next (issueStation s c.val 2 0x78 (vecIssue c.val vecRope))

/-- VEC.SCATTER (R180). -/
def execVecScatter (c : CoreId) (s : State) : Host.Outcome State Fault Refusal :=
  .next (issueStation s c.val 2 0x80 (vecIssue c.val vecScatter))

end Sys2Proof.Machine
end

