-- ==== Sys2Proof/Machine/Dispatch.lean ====
section
/-! DEFINITION. One arm per command: the meaning that gives its effect on everything but the queue. -/
namespace Sys2Proof.Machine

def exec (i : Instr) (s : State) : Host.Outcome State Fault Refusal :=
  match i with
  | .nop c st => Sys2Proof.Machine.execNop c st s
  | .wait c st => Sys2Proof.Machine.execWait c st s
  | .waitsub c st => Sys2Proof.Machine.execWaitsub c st s
  | .loadImg c => Sys2Proof.Machine.execLoadImg c s
  | .loadRaw c => Sys2Proof.Machine.execLoadRaw c s
  | .storeImg c => Sys2Proof.Machine.execStoreImg c s
  | .storeRaw c => Sys2Proof.Machine.execStoreRaw c s
  | .send c => Sys2Proof.Machine.execSend c s
  | .recv c => Sys2Proof.Machine.execRecv c s
  | .mmaF8 c => Sys2Proof.Machine.execMmaF8 c s
  | .mmaF8h c => Sys2Proof.Machine.execMmaF8h c s
  | .mmaB16 c => Sys2Proof.Machine.execMmaB16 c s
  | .mmaF6 c => Sys2Proof.Machine.execMmaF6 c s
  | .mmaF4 c => Sys2Proof.Machine.execMmaF4 c s
  | .mmaI8 c => Sys2Proof.Machine.execMmaI8 c s
  | .mmaF8S24 c => Sys2Proof.Machine.execMmaF8S24 c s
  | .mmaF4S24 c => Sys2Proof.Machine.execMmaF4S24 c s
  | .mmaF8Split c => Sys2Proof.Machine.execMmaF8Split c s
  | .mmaMax c => Sys2Proof.Machine.execMmaMax c s
  | .mmaMin c => Sys2Proof.Machine.execMmaMin c s
  | .vecEpi c => Sys2Proof.Machine.execVecEpi c s
  | .vecAdd c => Sys2Proof.Machine.execVecAdd c s
  | .vecSub c => Sys2Proof.Machine.execVecSub c s
  | .vecMul c => Sys2Proof.Machine.execVecMul c s
  | .vecFma c => Sys2Proof.Machine.execVecFma c s
  | .vecMax c => Sys2Proof.Machine.execVecMax c s
  | .vecMin c => Sys2Proof.Machine.execVecMin c s
  | .vecCmp c => Sys2Proof.Machine.execVecCmp c s
  | .vecSel c => Sys2Proof.Machine.execVecSel c s
  | .vecUnary c => Sys2Proof.Machine.execVecUnary c s
  | .vecPerm c => Sys2Proof.Machine.execVecPerm c s
  | .vecShuf c => Sys2Proof.Machine.execVecShuf c s
  | .vecPack c => Sys2Proof.Machine.execVecPack c s
  | .vecUnpack c => Sys2Proof.Machine.execVecUnpack c s
  | .vecRed c => Sys2Proof.Machine.execVecRed c s
  | .vecTopk c => Sys2Proof.Machine.execVecTopk c s
  | .vecColcount c => Sys2Proof.Machine.execVecColcount c s
  | .vecCompact c => Sys2Proof.Machine.execVecCompact c s
  | .vecStat c => Sys2Proof.Machine.execVecStat c s
  | .vecHist c => Sys2Proof.Machine.execVecHist c s
  | .vecRng c => Sys2Proof.Machine.execVecRng c s
  | .vecRope c => Sys2Proof.Machine.execVecRope c s
  | .vecScatter c => Sys2Proof.Machine.execVecScatter c s
  | .sigAdd c => Sys2Proof.Machine.execSigAdd c s
  | .sigRemote c => Sys2Proof.Machine.execSigRemote c s
  | .sigTrigger c => Sys2Proof.Machine.execSigTrigger c s
  | .sigRouteswap c => Sys2Proof.Machine.execSigRouteswap c s
  | .sigAcount c => Sys2Proof.Machine.execSigAcount c s
  | .sigWatch c => Sys2Proof.Machine.execSigWatch c s
  | .watchCompare c => Sys2Proof.Machine.execWatchCompare c s
  | .insnComplete c done => Sys2Proof.Machine.execInsnComplete c done s
  | .cnop c => Sys2Proof.Machine.execCnop c s
  | .ctlEnd c => Sys2Proof.Machine.execCtlEnd c s
  | .hintPhase c => Sys2Proof.Machine.execHintPhase c s
  | .ctlAdd c => Sys2Proof.Machine.execCtlAdd c s
  | .ctlSub c => Sys2Proof.Machine.execCtlSub c s
  | .ctlMul c => Sys2Proof.Machine.execCtlMul c s
  | .ctlAnd c => Sys2Proof.Machine.execCtlAnd c s
  | .ctlOr c => Sys2Proof.Machine.execCtlOr c s
  | .ctlXor c => Sys2Proof.Machine.execCtlXor c s
  | .ctlShl c => Sys2Proof.Machine.execCtlShl c s
  | .ctlShr c => Sys2Proof.Machine.execCtlShr c s
  | .ctlSra c => Sys2Proof.Machine.execCtlSra c s
  | .sltu c => Sys2Proof.Machine.execSltu c s
  | .slt c => Sys2Proof.Machine.execSlt c s
  | .beq c => Sys2Proof.Machine.execBeq c s
  | .bne c => Sys2Proof.Machine.execBne c s
  | .bltu c => Sys2Proof.Machine.execBltu c s
  | .bgeu c => Sys2Proof.Machine.execBgeu c s
  | .blt c => Sys2Proof.Machine.execBlt c s
  | .bge c => Sys2Proof.Machine.execBge c s
  | .jump c => Sys2Proof.Machine.execJump c s
  | .loop c => Sys2Proof.Machine.execLoop c s
  | .sumpop c => Sys2Proof.Machine.execSumpop c s
  | .sumcount c => Sys2Proof.Machine.execSumcount c s
  | .ctld c => Sys2Proof.Machine.execCtld c s
  | .push c => Sys2Proof.Machine.execPush c s
  | .bind c => Sys2Proof.Machine.execBind c s
  | .unbind c => Sys2Proof.Machine.execUnbind c s
  | .trigger j src => Sys2Proof.Machine.execTrigger j src s
  | .stepDispatch j => Sys2Proof.Machine.execStepDispatch j s
  | .dispatchTimeout j row started => Sys2Proof.Machine.execDispatchTimeout j row started s
  | .stepEnd j => Sys2Proof.Machine.execStepEnd j s
  | .stepRecordWrite j => Sys2Proof.Machine.execStepRecordWrite j s
  | .pfCreditTake k j => Sys2Proof.Machine.execPfCreditTake k j s
  | .pfChunkIssue k j => Sys2Proof.Machine.execPfChunkIssue k j s
  | .pfChunkLand k j => Sys2Proof.Machine.execPfChunkLand k j s
  | .hbmRequestDone r n errs => Sys2Proof.Machine.execHbmRequestDone r n errs s
  | .patrolScrub k pseudo row cell => Sys2Proof.Machine.execPatrolScrub k pseudo row cell s
  | .semIncrementArrive src dst sem => Sys2Proof.Machine.execSemIncrementArrive src dst sem s
  | .syncSignalArrive p pkt => Sys2Proof.Machine.execSyncSignalArrive p pkt s
  | .syncTriggerArrive p pkt => Sys2Proof.Machine.execSyncTriggerArrive p pkt s
  | .heldSignalApply j n => Sys2Proof.Machine.execHeldSignalApply j n s
  | .quarantineExpire j id => Sys2Proof.Machine.execQuarantineExpire j id s
  | .hangTimeout c => Sys2Proof.Machine.execHangTimeout c s
  | .semSet rq data => Sys2Proof.Machine.execSemSet rq data s
  | .portBringupAdvance p => Sys2Proof.Machine.execPortBringupAdvance p s
  | .portTrainTimeout p => Sys2Proof.Machine.execPortTrainTimeout p s
  | .portRetrain p => Sys2Proof.Machine.execPortRetrain p s
  | .laserMeasure q l0 l1 l2 l3 => Sys2Proof.Machine.execLaserMeasure q l0 l1 l2 l3 s
  | .boltReceive p b => Sys2Proof.Machine.execBoltReceive p b s
  | .withdrawnBoltReceive p b => Sys2Proof.Machine.execWithdrawnBoltReceive p b s
  | .napReceive p nap => Sys2Proof.Machine.execNapReceive p nap s
  | .creditReceive p first units => Sys2Proof.Machine.execCreditReceive p first units s
  | .nakReceive p seq => Sys2Proof.Machine.execNakReceive p seq s
  | .sackReceive p cum ranges => Sys2Proof.Machine.execSackReceive p cum ranges s
  | .probeReceive p pr => Sys2Proof.Machine.execProbeReceive p pr s
  | .helloReceive p h => Sys2Proof.Machine.execHelloReceive p h s
  | .gapReceive p seq => Sys2Proof.Machine.execGapReceive p seq s
  | .hs1Receive p msg => Sys2Proof.Machine.execHs1Receive p msg s
  | .hs2Receive p msg => Sys2Proof.Machine.execHs2Receive p msg s
  | .confirmReceive p msg => Sys2Proof.Machine.execConfirmReceive p msg s
  | .rk1Receive p phase msg => Sys2Proof.Machine.execRk1Receive p phase msg s
  | .rk2Receive p phase msg => Sys2Proof.Machine.execRk2Receive p phase msg s
  | .keyPhaseChange p => Sys2Proof.Machine.execKeyPhaseChange p s
  | .linkRekeyTimeout p => Sys2Proof.Machine.execLinkRekeyTimeout p s
  | .napSend p => Sys2Proof.Machine.execNapSend p s
  | .probeSend p => Sys2Proof.Machine.execProbeSend p s
  | .napTimeout p => Sys2Proof.Machine.execNapTimeout p s
  | .retransmitTimeout p seq => Sys2Proof.Machine.execRetransmitTimeout p seq s
  | .sackResend p => Sys2Proof.Machine.execSackResend p s
  | .escapeTimeout p vc => Sys2Proof.Machine.execEscapeTimeout p vc s
  | .packetSwitch src pkt => Sys2Proof.Machine.execPacketSwitch src pkt s
  | .packetDepart p => Sys2Proof.Machine.execPacketDepart p s
  | .dataPacketArrive p pkt => Sys2Proof.Machine.execDataPacketArrive p pkt s
  | .tileLanded src js id tile => Sys2Proof.Machine.execTileLanded src js id tile s
  | .codecBlockDone encoder lane => Sys2Proof.Machine.execCodecBlockDone encoder lane s
  | .deliveryReceive p pkt => Sys2Proof.Machine.execDeliveryReceive p pkt s
  | .withdrawReceive p pkt => Sys2Proof.Machine.execWithdrawReceive p pkt s
  | .mgmtPacketReceive p pkt => Sys2Proof.Machine.execMgmtPacketReceive p pkt s
  | .diagPacketReceive p pkt => Sys2Proof.Machine.execDiagPacketReceive p pkt s
  | .deadlineTx j id => Sys2Proof.Machine.execDeadlineTx j id s
  | .deadlineIncomplete src js id => Sys2Proof.Machine.execDeadlineIncomplete src js id s
  | .scheduleLoad rq v => Sys2Proof.Machine.execScheduleLoad rq v s
  | .admitTerms src sched recs => Sys2Proof.Machine.execAdmitTerms src sched recs s
  | .admitFit src sched => Sys2Proof.Machine.execAdmitFit src sched s
  | .admitNofit src sched transfer reason => Sys2Proof.Machine.execAdmitNofit src sched transfer reason s
  | .admitAbort src sched => Sys2Proof.Machine.execAdmitAbort src sched s
  | .admitTimeout sched => Sys2Proof.Machine.execAdmitTimeout sched s
  | .scheduleRelease rq v => Sys2Proof.Machine.execScheduleRelease rq v s
  | .routeLoad rq v => Sys2Proof.Machine.execRouteLoad rq v s
  | .routeCheckDone  => Sys2Proof.Machine.execRouteCheckDone s
  | .routeSwap rq v => Sys2Proof.Machine.execRouteSwap rq v s
  | .epochPrepare rq j v => Sys2Proof.Machine.execEpochPrepare rq j v s
  | .epochDrained j => Sys2Proof.Machine.execEpochDrained j s
  | .epochDrainTimeout j => Sys2Proof.Machine.execEpochDrainTimeout j s
  | .epochCommit rq j v => Sys2Proof.Machine.execEpochCommit rq j v s
  | .collRegister rq v => Sys2Proof.Machine.execCollRegister rq v s
  | .collRelease rq v => Sys2Proof.Machine.execCollRelease rq v s
  | .ringRegister rq v => Sys2Proof.Machine.execRingRegister rq v s
  | .ringRelease rq v => Sys2Proof.Machine.execRingRelease rq v s
  | .contextRegister rq v => Sys2Proof.Machine.execContextRegister rq v s
  | .contextRelease rq v => Sys2Proof.Machine.execContextRelease rq v s
  | .mapRegister rq j v => Sys2Proof.Machine.execMapRegister rq j v s
  | .stepAlign rq j v => Sys2Proof.Machine.execStepAlign rq j v s
  | .replayArm rq j record => Sys2Proof.Machine.execReplayArm rq j record s
  | .replayDisarm rq j v => Sys2Proof.Machine.execReplayDisarm rq j v s
  | .regionCreate rq desc => Sys2Proof.Machine.execRegionCreate rq desc s
  | .regionDestroy rq v => Sys2Proof.Machine.execRegionDestroy rq v s
  | .scrubComplete n => Sys2Proof.Machine.execScrubComplete n s
  | .coreMaskSet rq j mask => Sys2Proof.Machine.execCoreMaskSet rq j mask s
  | .domainStateWrite rq d v => Sys2Proof.Machine.execDomainStateWrite rq d v s
  | .domainSwitchOnDone d => Sys2Proof.Machine.execDomainSwitchOnDone d s
  | .domainSwitchFail d => Sys2Proof.Machine.execDomainSwitchFail d s
  | .functionDrained f => Sys2Proof.Machine.execFunctionDrained f s
  | .portEnableWrite rq p v => Sys2Proof.Machine.execPortEnableWrite rq p v s
  | .portCloseDone p => Sys2Proof.Machine.execPortCloseDone p s
  | .coreEnableWrite rq mask => Sys2Proof.Machine.execCoreEnableWrite rq mask s
  | .jsStateWrite rq j v => Sys2Proof.Machine.execJsStateWrite rq j v s
  | .jsLockWrite rq j v => Sys2Proof.Machine.execJsLockWrite rq j v s
  | .withdrawStep rq j v => Sys2Proof.Machine.execWithdrawStep rq j v s
  | .counterClear rq v => Sys2Proof.Machine.execCounterClear rq v s
  | .faultLogClear rq v => Sys2Proof.Machine.execFaultLogClear rq v s
  | .powerWindow w => Sys2Proof.Machine.execPowerWindow w s
  | .capWSet rq v => Sys2Proof.Machine.execCapWSet rq v s
  | .capForce rq v => Sys2Proof.Machine.execCapForce rq v s
  | .clockModeSet rq v => Sys2Proof.Machine.execClockModeSet rq v s
  | .opChangeDone c => Sys2Proof.Machine.execOpChangeDone c s
  | .droopDetect c => Sys2Proof.Machine.execDroopDetect c s
  | .droopRecovery c stretched => Sys2Proof.Machine.execDroopRecovery c stretched s
  | .regFault d => Sys2Proof.Machine.execRegFault d s
  | .thermTrip sn => Sys2Proof.Machine.execThermTrip sn s
  | .clockLoss d => Sys2Proof.Machine.execClockLoss d s
  | .watchdog  => Sys2Proof.Machine.execWatchdog s
  | .mgmtWatchdog  => Sys2Proof.Machine.execMgmtWatchdog s
  | .liningAlarm cause => Sys2Proof.Machine.execLiningAlarm cause s
  | .doffWithdrawnEnd  => Sys2Proof.Machine.execDoffWithdrawnEnd s
  | .doffIdleEnd  => Sys2Proof.Machine.execDoffIdleEnd s
  | .zeroise rq v => Sys2Proof.Machine.execZeroise rq v s
  | .enrol rq v => Sys2Proof.Machine.execEnrol rq v s
  | .retire rq v => Sys2Proof.Machine.execRetire rq v s
  | .ownerKeyAdd rq digest => Sys2Proof.Machine.execOwnerKeyAdd rq digest s
  | .ownerKeyRevoke rq slot => Sys2Proof.Machine.execOwnerKeyRevoke rq slot s
  | .rollbackCommit rq v => Sys2Proof.Machine.execRollbackCommit rq v s
  | .fwStage rq v => Sys2Proof.Machine.execFwStage rq v s
  | .fwStageDone  => Sys2Proof.Machine.execFwStageDone s
  | .bootBankNextSet rq v => Sys2Proof.Machine.execBootBankNextSet rq v s
  | .peerKeyDigestSet rq table => Sys2Proof.Machine.execPeerKeyDigestSet rq table s
  | .getVersion who => Sys2Proof.Machine.execGetVersion who s
  | .getCapabilities who => Sys2Proof.Machine.execGetCapabilities who s
  | .negotiateAlgorithms who req => Sys2Proof.Machine.execNegotiateAlgorithms who req s
  | .getDigests who => Sys2Proof.Machine.execGetDigests who s
  | .getCertificate who offset length => Sys2Proof.Machine.execGetCertificate who offset length s
  | .challenge who nonce => Sys2Proof.Machine.execChallenge who nonce s
  | .getMeasurements who index nonce => Sys2Proof.Machine.execGetMeasurements who index nonce s
  | .chunkSend who handle seq last data => Sys2Proof.Machine.execChunkSend who handle seq last data s
  | .chunkGet who handle seq => Sys2Proof.Machine.execChunkGet who handle seq s
  | .get rq index sub offset => Sys2Proof.Machine.execGet rq index sub offset s
  | .set rq index sub offset last data => Sys2Proof.Machine.execSet rq index sub offset last data s
  | .getRange rq index sub lastIndex lastSub => Sys2Proof.Machine.execGetRange rq index sub lastIndex lastSub s
  | .subscribe rq index sub row kind interval threshold => Sys2Proof.Machine.execSubscribe rq index sub row kind interval threshold s
  | .unsubscribe rq number => Sys2Proof.Machine.execUnsubscribe rq number s
  | .subscriptionSample  => Sys2Proof.Machine.execSubscriptionSample s
  | .getEndpointId tr => Sys2Proof.Machine.execGetEndpointId tr s
  | .setEndpointId tr eid => Sys2Proof.Machine.execSetEndpointId tr eid s
  | .getMctpVersionSupport tr msgType => Sys2Proof.Machine.execGetMctpVersionSupport tr msgType s
  | .getMessageTypeSupport tr => Sys2Proof.Machine.execGetMessageTypeSupport tr s
  | .getVendorMessageSupport tr selector => Sys2Proof.Machine.execGetVendorMessageSupport tr selector s
  | .maintNonce rq => Sys2Proof.Machine.execMaintNonce rq s
  | .maintNonceExpire who => Sys2Proof.Machine.execMaintNonceExpire who s
  | .maintClaim rq claim => Sys2Proof.Machine.execMaintClaim rq claim s
  | .maintRelease rq v => Sys2Proof.Machine.execMaintRelease rq v s
  | .maintIdleTimeout  => Sys2Proof.Machine.execMaintIdleTimeout s
  | .stateRequest rq v => Sys2Proof.Machine.execStateRequest rq v s
  | .reset rq v => Sys2Proof.Machine.execReset rq v s
  | .resetDelayExpire  => Sys2Proof.Machine.execResetDelayExpire s
  | .jsDoorbell j v => Sys2Proof.Machine.execJsDoorbell j v s
  | .sqTailDoorbell q v entries => Sys2Proof.Machine.execSqTailDoorbell q v entries s
  | .cqHeadDoorbell q v => Sys2Proof.Machine.execCqHeadDoorbell q v s
  | .qcfgEnableSet q v => Sys2Proof.Machine.execQcfgEnableSet q v s
  | .qcfgEnableClear q v => Sys2Proof.Machine.execQcfgEnableClear q v s
  | .hostNop q => Sys2Proof.Machine.execHostNop q s
  | .copyIn q => Sys2Proof.Machine.execCopyIn q s
  | .copyOut q => Sys2Proof.Machine.execCopyOut q s
  | .hostTrigger q => Sys2Proof.Machine.execHostTrigger q s
  | .copyComplete q n data res => Sys2Proof.Machine.execCopyComplete q n data res s
  | .windowEntryWrite n v => Sys2Proof.Machine.execWindowEntryWrite n v s
  | .bar2Access offset op => Sys2Proof.Machine.execBar2Access offset op s
  | .eventCauseW1c v => Sys2Proof.Machine.execEventCauseW1c v s
  | .windowMissesRead  => Sys2Proof.Machine.execWindowMissesRead s
  | .windowRefusalsRead  => Sys2Proof.Machine.execWindowRefusalsRead s
  | .bar0RegisterWrite offset bytes v => Sys2Proof.Machine.execBar0RegisterWrite offset bytes v s
  | .bar2Resize log2 => Sys2Proof.Machine.execBar2Resize log2 s
  | .busMasterEnable on => Sys2Proof.Machine.execBusMasterEnable on s
  | .functionLevelReset  => Sys2Proof.Machine.execFunctionLevelReset s
  | .hotReset  => Sys2Proof.Machine.execHotReset s
  | .d3hotEntry  => Sys2Proof.Machine.execD3hotEntry s
  | .d3hotExit  => Sys2Proof.Machine.execD3hotExit s
  | .perstNAssert  => Sys2Proof.Machine.execPerstNAssert s
  | .perstNRelease  => Sys2Proof.Machine.execPerstNRelease s
  | .inputPowerOn inputs => Sys2Proof.Machine.execInputPowerOn inputs s
  | .powerUpTimeout step unit => Sys2Proof.Machine.execPowerUpTimeout step unit s
  | .inputPowerOff  => Sys2Proof.Machine.execInputPowerOff s
  | .mrstNAssert  => Sys2Proof.Machine.execMrstNAssert s
  | .mrstNRelease inputs => Sys2Proof.Machine.execMrstNRelease inputs s
  | .flOwnNChange high bankA bankB => Sys2Proof.Machine.execFlOwnNChange high bankA bankB s
  | .acceptanceWindowClose p => Sys2Proof.Machine.execAcceptanceWindowClose p s
  | .scheduleLocalChecks sched => Sys2Proof.Machine.execScheduleLocalChecks sched s
  | .inFlightBudgetExpire src js id => Sys2Proof.Machine.execInFlightBudgetExpire src js id s
  | .pcieLinkUp  => Sys2Proof.Machine.execPcieLinkUp s
  | .entdaa address => Sys2Proof.Machine.execEntdaa address s
  | .signingComplete  => Sys2Proof.Machine.execSigningComplete s
  | .msixIntervalExpire v => Sys2Proof.Machine.execMsixIntervalExpire v s

end Sys2Proof.Machine
end

