-- ==== Sys2Proof/Machine/Waits.lean ====
section
/-! DEFINITION. What passing time does beside the cycle counters: counters of cycles in which something waits or is busy (R111,
R137, R349, R372), the stationary banks of passes whose last row is multiplied (R92), and the end of the running cycle (R57).
Time passes in idle steps alone, so all this happens there, each by a free amount (log entries 13, 51). -/
namespace Sys2Proof.Machine

/-- Whether the head of the MAT queue waits for its bank (R95). -/
def matHeadWaits (k : Core) : Bool :=
  match k.queue 1 with
  | i :: _ =>
    isMma (iOpcode i.w0) && ((k.bank (iBankB i.w0)).state == .closed || vecOnBank k (iBankB i.w0) fun _ => true)
  | [] => false

/-- Whether an issued pass waits on its stationary load: it loads, and its rows are not through the array (R90, R111). -/
def matLoads (k : Core) : Bool := (k.flight 1).any fun f => f.loads && f.holdsBanks != 0

/-- The oldest `n` passes that hold stationary banks have had their last row multiplied: their banks are free (R92). -/
def freeBanks : Nat → List InFlight → List InFlight
  | 0, fs => fs
  | _ + 1, [] => []
  | n + 1, f :: fs => if f.holdsBanks = 0 then f :: freeBanks (n + 1) fs else { f with holdsBanks := 0 } :: freeBanks n fs

/-- Passes of a core that hold stationary banks: how many of them, oldest first, reach their last row is free (R92). -/
def State.multiplyRows (s : State) (c : Nat) : State :=
  let k := s.core c
  if inFlightCount k 1 = 0 then s
  else
    let f := s.free 2
    f.2.setCore c (k.setFlight 1 (freeBanks f.1 (k.flight 1)))

/-- Cycles of one core: loads and bank waits of MAT (R111), VEC at work and paused, the control core waiting (R137), starved
by a ring (R349). -/
def State.countCore (s : State) (c : Nat) : State :=
  if !s.clocked c then s
  else
    let k := s.core c
    let stall := ctlStall s c
    let s := s.countCycles ⟨0x8010, 2, c⟩ (matLoads k)
    let s := s.countCycles ⟨0x8010, 6, c⟩ (matHeadWaits k)
    let s := s.countCycles ⟨0x8011, 1, c⟩ (!(k.flight 2).isEmpty)
    let s := s.countCycles ⟨0x8011, 2, c⟩ (!(k.flight 2).isEmpty)
    let s := s.countCycles ⟨0x8011, 4, c⟩ (stall == 1)
    let s := s.countCycles ⟨0x8011, 5, c⟩ (stall == 4)
    (countStarved s c).multiplyRows c

/-- Every core's cycles, and those of blocks that wait for a decoder lane (R372); the next issue is in a new cycle (R57). -/
def State.countWaits (s : State) : State :=
  let s := (s.cores.map (·.1)).foldl (fun s c => State.countCore (s.setCore c (s.core c).newCycle) c) s
  s.countCycles (codecKey 0x0B) (s.codec.any fun b => !b.encoder && b.lane.isNone)

end Sys2Proof.Machine
end

