-- ==== Sys2Proof/Machine/Flags.lean ====
section
/-! DEFINITION. The levels that the module shows outside: pins (R512 to R516, R519, R525) and what its ports send (R260,
R432, R436), each computed from the state. -/
namespace Sys2Proof.Machine

/-- MOD_OK is high: in Ready and Running alone (R514). -/
def State.modOk (s : State) : Bool := s.lifecycle == 4 || s.lifecycle == 5

/-- THERMTRIP_N is high, released (R515). -/
def State.thermtripN (s : State) : Bool := !s.thermTrip

/-- The I3C port acknowledges: once the management controller has started, unless it is in doubt (R434, R436, R516). -/
def State.i3cAcks (s : State) : Bool := s.reachable && !s.mrstLow

/-- The flash port is granted to the tray: FL_OWN_N low while the module is held in reset or at the end of step 2 (R526). -/
def State.flashGranted (s : State) : Bool := s.flOwnLow && (s.mrstLow || s.flHold)

/-- A wavelength of laser input LASq reads above 21.0 dBm, which gates the input (R251). -/
def State.laserHigh (s : State) (q : Nat) : Bool := (List.range 4).any fun l => decide (2100 < s.laser q l)

/-- The shutter of laser input LASq is open: its quad is not OFF, no wavelength is too strong, no trip and no completed doff gates
it; under MRST_N where the quad was ON (R37, R251, R420, R432, R519, R525). -/
def State.shutterOpen (s : State) (q : Nat) : Bool :=
  !s.thermTrip && !s.laserHigh q &&
    (if s.mrstLow then s.lifecycle != 0 && !s.darkQuads.contains q
     else decide (3 ≤ s.lifecycle) && decide (s.doffStep < 5) && s.domain (domQuad q) != 0)

/-- What a port's lanes carry. -/
inductive LaneSignal where
  /-- no light -/
  | dark
  /-- PRBS13Q of a module held in reset (R436) -/
  | prbs13q
  /-- WITHDRAWN bolts of a doff (R432) -/
  | withdrawn
  /-- IDLE bolts of a doff (R432) -/
  | idle
  /-- bring-up, bolts and NAPs by the port's state -/
  | bolts
  deriving DecidableEq, Repr

/-- What port `p` sends (R283, R432, R436). -/
def State.laneSignal (s : State) (p : Nat) : LaneSignal :=
  if !s.shutterOpen (p / 8) then .dark
  else if s.mrstLow then .prbs13q
  else if s.doffStep = 3 then if (doffPorts s).contains p then .withdrawn else .dark
  else if s.doffStep = 4 then if (doffPorts s).contains p then .idle else .dark
  else if s.portState p < 2 then .dark
  else .bolts

end Sys2Proof.Machine
end

