-- ==== Sys2Proof/Safety.lean ====
section
/-! DEFINITION. The terms that statements about the machine use: the canonical form of memory, what it takes for a command to
run, and what a command leaves alone. -/
namespace Sys2Proof.Machine

/-! ### Memory -/

/-- Module memory in its one form: addresses strictly rising, no byte equal to what an unlisted one reads as. -/
def Memory.wf (m : List Host.Cell) : Bool := mapWf 0 m

/-- Module memory and the poisoned atoms are in their one form. -/
def State.memOk (s : State) : Bool := Memory.wf s.mem && mapWf false s.poison

/-- Every byte of module memory and every atom's poison reads as before. -/
def SameMemory (s t : State) : Prop :=
  (∀ a, t.readByte a = s.readByte a) ∧ ∀ n, t.atomPoisoned n = s.atomPoisoned n

/-- Every byte outside a span reads as before. -/
def SameOutside (s t : State) (a n : Nat) : Prop := ∀ b, b < a ∨ a + n ≤ b → t.readByte b = s.readByte b

/-- Every core but one is as before. -/
def SameOtherCores (s t : State) (c : Nat) : Prop := ∀ c', c' ≠ c → t.core c' = s.core c'

/-! ### Control words (R127, R128) -/

/-- Core `c` runs its stream, its clock runs, it is enabled, and its next control word is `w`, well formed, with the opcode. -/
def ctlReady (s : State) (c op : Nat) (w : QWord) : Prop :=
  (s.core c).ctl.running = true ∧ s.clocked c = true ∧ s.coreDisabled c = false ∧
    (s.core c).ctl.stream[(s.core c).ctl.pc]? = some w ∧ cOpcode w = op ∧ ctlFieldsOk w = true

/-- A core with its program counter at a word. -/
def Core.goTo (k : Core) (pc : Nat) : Core := { k with ctl := { k.ctl with pc := pc }, hung := false }

/-- The word after the next one exists. -/
def Core.hasNext (k : Core) : Prop := k.ctl.pc + 1 < k.ctl.stream.length

/-! ### Station instructions (R60) -/

/-- Instruction `i` stands at the head of station `st`'s queue of core `c` with the opcode, and the core runs enabled. -/
def atHead (s : State) (c st op : Nat) (i : StationInsn) : Prop :=
  s.issues c = true ∧ s.coreDisabled c = false ∧ ((s.core c).queue st).head? = some i ∧ iOpcode i.w0 = op

/-- The input handles of an instruction, and with them the scale tiles that its inputs name (R51). -/
def inputTiles (k : Core) (w : QWord) (f : Form) : List Nat :=
  let hs := (inputHandles w f).map (·.1)
  hs ++ scaleHandles k w hs

/-- The issue rule of R60 lets it issue: well formed with form `f`, every handle bound, inputs and scale tiles PRESENT in the
running cycle, the output free and claimed by no lower station code, room in flight (R57). -/
def mayIssue (s : State) (c st op : Nat) (i : StationInsn) (f : Form) : Prop :=
  atHead s c st op i ∧ headOk (s.core c) st i = true ∧ insnForm i.w0 = some f ∧
    unboundHandle (s.core c) i.w0 f = none ∧ inFlightCount (s.core c) st < stationLimit st ∧
    (∀ h ∈ inputTiles (s.core c) i.w0 f, inputPresent ((s.core c).cycleFor st) h = true) ∧
    (f.out = true → outputFree (s.core c) (iH0 i.w0) = true ∧ lowerClaims s c st (iH0 i.w0) = false)

/-- An instruction put in flight with a record, on a state whose core was `k`: its readers counted, its outputs FILLING, the
queue moved on. -/
def issued (s : State) (k : Core) (c st : Nat) (i : StationInsn) (f : Form) (r : InFlight) : State :=
  putInFlight s c st i (inputHandles i.w0 f) (scaleHandles k i.w0 ((inputHandles i.w0 f).map (·.1))) r

/-- What an instruction's own part leaves alone as it issues without a fault: cores, memory, steps, increments under way,
regions, links and host queues. -/
def Quiet (s t : State) : Prop :=
  t.cores = s.cores ∧ t.mem = s.mem ∧ t.poison = s.poison ∧ t.steps = s.steps ∧ t.increments = s.increments ∧
    t.regions = s.regions ∧ t.links = s.links ∧ t.queues = s.queues

/-- The record of an instruction that puts one tile into its output handle. -/
def putsTile (r : InFlight) (h : Nat) (t : Tile) : Prop :=
  r.withdrawn = false ∧ r.outs = [{ handle := h, tile := t }] ∧ r.posts = [] ∧ r.bankWrites = []

/-- The record of an instruction that only completes. -/
def onlyCompletes (r : InFlight) : Prop := r.withdrawn = false ∧ r.outs = [] ∧ r.posts = [] ∧ r.bankWrites = []

/-- The opcodes of the matrix array with their commands (R83). -/
def matRows (c : CoreId) : List (Instr × Nat) :=
  [(.mmaF8 c, 0xA0), (.mmaF8h c, 0xA1), (.mmaB16 c, 0xA2), (.mmaF6 c, 0xA3), (.mmaF4 c, 0xA4), (.mmaI8 c, 0xA5),
   (.mmaF8S24 c, 0xA6), (.mmaF4S24 c, 0xA7), (.mmaF8Split c, 0xA8), (.mmaMax c, 0xB0), (.mmaMin c, 0xB1)]

/-- The opcodes of the vector engine with their commands and what each computes (R118). -/
def vecRows (c : CoreId) : List (Instr × Nat × (VecArgs → VecAnswer)) :=
  [(.vecEpi c, 0x40, vecEpi), (.vecAdd c, 0x41, vecElem2 addF32), (.vecSub c, 0x42, vecElem2 subF32),
   (.vecMul c, 0x43, vecMul), (.vecFma c, 0x44, vecFma), (.vecMax c, 0x45, vecElem2 maxF32),
   (.vecMin c, 0x46, vecElem2 minF32), (.vecCmp c, 0x47, vecCmp), (.vecSel c, 0x48, vecSel),
   (.vecUnary c, 0x49, vecUnary), (.vecPerm c, 0x50, vecPerm), (.vecShuf c, 0x51, vecShuf), (.vecPack c, 0x58, vecPack),
   (.vecUnpack c, 0x59, vecUnpack), (.vecRed c, 0x60, vecRed), (.vecTopk c, 0x61, vecTopk),
   (.vecColcount c, 0x62, vecColcount), (.vecCompact c, 0x63, vecCompact), (.vecStat c, 0x68, vecStat),
   (.vecHist c, 0x69, vecHist), (.vecRng c, 0x70, vecRng), (.vecRope c, 0x78, vecRope), (.vecScatter c, 0x80, vecScatter)]

/-- Whether a VEC instruction names a bank as an operand (R113, R114). -/
def vecUsesBank (w : QWord) : Bool := iOpcode w != 0x40 && iOpcode w != 0x80 && vAccUse w != 0

/-- What a VEC instruction computes from, taken at its issue (R113, R147). -/
def vecArgsAt (s : State) (c : Nat) (w : QWord) : VecArgs :=
  let k := s.core c
  let bk := k.bank (iBankB w)
  { k := k, w := w, bank := if vecUsesBank w then some (bankOperand bk (vRow0 w) (vRows w)) else none
    t1 := readTile k (iH1 w), t2 := readTile k (iH2 w), t3 := readTile k (iH3 w)
    key := vecKey s c, seq := k.vecSeq, cap := (k.tte (iH0 w)).capacity.toNat }

/-- The bank of a VEC instruction lets it issue: nothing to wait for (R96, R113, R115), no poison (R97), rows inside it and no
MAXMIN mode as an operand (R114). -/
def vecBankSound (k : Core) (w : QWord) : Prop :=
  let bk := k.bank (iBankB w)
  vecBankReady k w = true ∧ (vecUsesBank w = true ∨ iOpcode w = 0x40 → bk.poison = false) ∧
    (vecUsesBank w = true → bk.mode ≠ .max32 ∧ bk.mode ≠ .min32 ∧ vRow0 w + vRows w ≤ bankRows bk.mode)

/-- The tiles of an instruction are sound: no input or scale tile poisoned (R49), headers well formed (R43), scale tiles as
R51 asks, checksums right (R45). -/
def tilesSound (k : Core) (w : QWord) (f : Form) : Prop :=
  let hs := (inputHandles w f).map (·.1)
  poisonedInput k (inputTiles k w f) = none ∧
    (∀ h ∈ hs, headerOk (readHeader k h) (256 * (hGranules (readHeader k h) + 1)) = true) ∧
    badScale k w hs = none ∧ crcFailure k (inputTiles k w f) = none

/-! ### Dictionary SETs (R484) -/

/-- The checks that every SET shares let it through: the dictionary can be reached, header, state, entry, access, right, lock
and pin are as R484 asks. -/
def admits (s : State) (rq : Rq) (index sub : Nat) : Prop := s.reachable = true ∧ setRefusal s rq index sub = none

/-- A SET completes with a state: OK is answered on it. -/
def setDone (t : State) (rq : Rq) (index sub : Nat) : Host.Outcome State Fault Refusal :=
  .next (t.answer rq 2 index sub stOk 0 false [])

/-- A SET is turned away with a status and a detail: the answer is all that happens. -/
def setRefused (s : State) (rq : Rq) (index sub status detail : Nat) : Host.Outcome State Fault Refusal :=
  .next (s.answer rq 2 index sub status detail false [])

/-- The commands that are SETs of one entry: requester, index, subindex, and what the SET comes to after the common checks. -/
def setCommand : Instr → Option (Rq × Nat × Nat × (State → SetResult))
  | .semSet rq data => some (rq, 0xA010, 3, semSetBody data)
  | .scheduleLoad rq v => some (rq, 0x3400, 1, scheduleLoadBody v.toNat)
  | .scheduleRelease rq v => some (rq, 0x3400, 2, scheduleReleaseBody v.toNat)
  | .routeLoad rq v => some (rq, 0x3000, 2, routeLoadBody v.toNat)
  | .routeSwap rq v => some (rq, 0x3000, 3, boolCommand v.toNat routeSwapBody)
  | .epochPrepare rq j v => some (rq, 0x9030 + j.val, 2, epochPrepareBody j.val v.toNat)
  | .epochCommit rq j v => some (rq, 0x9030 + j.val, 4, boolCommand v.toNat (epochCommitBody j.val))
  | .collRegister rq v => some (rq, 0x9040, 1, collRegisterBody v.toNat)
  | .collRelease rq v => some (rq, 0x9040, 2, collReleaseBody v.toNat)
  | .ringRegister rq v => some (rq, 0x9050, 1, ringRegisterBody v.toNat)
  | .ringRelease rq v => some (rq, 0x9050, 2, ringReleaseBody v.toNat)
  | .contextRegister rq v => some (rq, 0x9020, 1, contextRegisterBody v.toNat)
  | .contextRelease rq v => some (rq, 0x9020, 2, contextReleaseBody v.toNat)
  | .mapRegister rq j v => some (rq, 0x9060 + j.val, 1, mapRegisterBody j.val v.toNat)
  | .stepAlign rq j v => some (rq, 0x9060 + j.val, 5, stepAlignBody j.val v.toNat)
  | .replayArm rq j r => some (rq, 0xA020 + j.val, 1, replayArmBody j.val r)
  | .replayDisarm rq j v => some (rq, 0xA020 + j.val, 2, boolCommand v.toNat (replayDisarmBody j.val))
  | .regionCreate rq d => some (rq, 0x4000, 1, regionCreateBody d)
  | .regionDestroy rq v => some (rq, 0x4000, 2, regionDestroyBody v.toNat)
  | .coreMaskSet rq j m => some (rq, 0x9010 + j.val, 2, coreMaskBody j.val m.toNat)
  | .domainStateWrite rq d v => some (rq, 0x2200, d.val + 1, domainStateBody d.val v.toNat)
  | .portEnableWrite rq p v => some (rq, 0x3100 + p.val, 1, portEnableBody p.val v.toNat)
  | .coreEnableWrite rq m => some (rq, 0x5001, 1, coreEnableBody m.toNat)
  | .jsStateWrite rq j v => some (rq, 0x9000, j.val + 1, jsStateBody j.val v.toNat)
  | .jsLockWrite rq j v => some (rq, 0x9001, j.val + 1, jsLockBody j.val v.toNat)
  | .withdrawStep rq j v => some (rq, 0x7010 + j.val, 4, withdrawStepBody j.val v.toNat)
  | .counterClear rq v => some (rq, 0x8000, 1, counterClearBody v.toNat)
  | .faultLogClear rq v => some (rq, 0x7000, 6, faultLogClearBody v.toNat)
  | .capWSet rq v => some (rq, 0x2000, 1, capWBody v.toNat)
  | .capForce rq v => some (rq, 0x2000, 2, capForceBody v.toNat)
  | .clockModeSet rq v => some (rq, 0x5000, 1, clockModeBody v.toNat)
  | .zeroise rq v => some (rq, 0x6000, 0x13, zeroiseBody v.toNat)
  | .enrol rq v => some (rq, 0x6000, 0x14, enrolBody v.toNat)
  | .retire rq v => some (rq, 0x6000, 0x15, retireBody v.toNat)
  | .ownerKeyAdd rq d => some (rq, 0x6000, 0x0B, ownerKeyAddBody d)
  | .ownerKeyRevoke rq v => some (rq, 0x6000, 0x0C, ownerKeyRevokeBody v.toNat)
  | .rollbackCommit rq v => some (rq, 0x6000, 5, rollbackCommitBody v.toNat)
  | .fwStage rq v => some (rq, 0x6000, 8, fwStageBody v.toNat)
  | .bootBankNextSet rq v => some (rq, 0x6000, 7, bootBankNextBody v.toNat)
  | .peerKeyDigestSet rq t => some (rq, 0x6000, 0x10, peerKeyDigestBody t)
  | .maintClaim rq c => some (rq, 0x1100, 5, maintClaimBody rq.who c)
  | .maintRelease rq v => some (rq, 0x1100, 6, maintReleaseBody rq.who v.toNat)
  | .stateRequest rq v => some (rq, 0x1100, 1, stateRequestBody v.toNat)
  | .reset rq v => some (rq, 0x1100, 2, resetBody v.toNat)
  | _ => none

/-- Reads presented to the memories leave the dictionary as it is, but for the counters of the stacks and those of notes (R210,
R221, R443). -/
def readsCounted (s t : State) : Prop :=
  ∀ (k : Key), k.sub < 256 → k.row < 65536 → ¬ (0x4100 ≤ k.index ∧ k.index < 0x4120) → k.index ≠ 0x7000 → t.val k = s.val k

/-! ### Answers of the protocols -/

/-- An SPDM request is answered with a code and a body: in one message where it carries the body, else by ERROR LargeResponse
with the answer kept for CHUNK_GET (R456). -/
def spdmAnswered (s t : State) (who : Requester) (code : Nat) (body : List Byte) : Prop :=
  if body.length ≤ Config.spdmChunk + 1 then t.sent = s.sent ++ [.spdm who code body]
  else ∃ h, t.sent = s.sent ++ [.spdm who 0x7F [0x0F, h]] ∧ (t.conn who).response = some (0, BitVec.ofNat 8 code :: body)

/-- A read request of the dictionary is answered: its response is what leaves the module. -/
def readAnswered (s t : State) (rq : Rq) (op index sub status detail : Nat) (more : Bool) (data : List Byte) : Prop :=
  t.sent = s.sent ++ [.response rq.who (op + 0x80) rq.tag status index sub detail more data]

/-- A reset has lost everything volatile: cores, memory, steps, regions, links, schedules, transfers, host queues (R525). -/
def VolatileLost (t : State) : Prop :=
  t.cores = [] ∧ t.mem = [] ∧ t.poison = [] ∧ t.steps = [] ∧ t.regions = [] ∧ t.schedules = [] ∧ t.ids = [] ∧
    t.landings = [] ∧ t.held = [] ∧ t.queues = [] ∧ t.windows = [] ∧ t.routes = [] ∧ t.walks = [] ∧ t.hbm = []

/-- The host interface is as at reset: every queue DISABLED, no window, no message pending, BAR2 at 64 GiB (R508). -/
def HostInterfaceReset (t : State) : Prop :=
  (∀ q, q < 64 → (t.hostQueue q).state = 0) ∧ t.windows = [] ∧ t.msixTable = [] ∧ t.msixPending = [] ∧ t.eventCause = 0 ∧
    t.bar2Log2 = 36 ∧ t.busMaster = false ∧ t.d3hot = false

/-- A CQ entry of a command of queue `q`, which stood as `x`, is among what has left the module: at CQ_TAIL, with phase, queue,
status, SQ_HEAD, COMMAND_ID and detail (R502). -/
def completionSent (t : State) (q : Nat) (x : HostQueue) (sqHead : Nat) (e : BitVec 512) (status detail : Nat) : Prop :=
  ∃ w : BitVec 128, Sent.completion q (x.cqBase.toNat + 16 * x.cqTail) w ∈ t.sent ∧ getf w 0 16 = getf e 16 16 ∧
    getf w 16 16 = sqHead ∧ getf w 32 8 = status ∧ getf w 40 8 = q ∧ bitf w 48 = x.phase ∧ getf w 49 15 = 0 ∧
    getf w 64 64 = detail

/-- The next command of an ENABLED queue is `e` and may start: bus mastering on, no fence waits, room for its completion, and
no earlier command waits for one (R500, R502, R503, R507). -/
def commandReady (s : State) (q : Nat) (e : BitVec 512) : Prop :=
  let x := s.hostQueue q
  x.avail.head? = some e ∧ x.state = 1 ∧ s.hostWrites = true ∧ s.busMaster = true ∧ (bitf e 8 = true → x.active = []) ∧
    x.cqRoom = true ∧ ∀ c ∈ x.active, c.done = none

/-- A power-up has ended well: everything volatile lost, the bank and the cause shown, the strap read, every enabled port in
bring-up, Ready or Maintenance as BOOT_TO_MAINTENANCE says (R451 to R453, R521). -/
def Booted (s t : State) (bank cause slot : Nat) : Prop :=
  VolatileLost t ∧ t.lifecycle = (if t.val ⟨0x1100, 9, 0⟩ = 1 then 3 else 4) ∧ t.val ⟨0x6000, 6, 0⟩ = bank ∧
    t.val ⟨0x1100, 3, 0⟩ = cause ∧ t.val ⟨0x1000, 0x0A, 0⟩ = slot ∧ t.val liningKey = (if s.retired then 3 else 1) ∧
    ∀ p, p < 32 → t.portState p = if t.val (portKey p 1) = 1 then 2 else 1

/-- What a reset keeps of the dictionary: Fused and Flash entries, and nothing else but the life-cycle state (R472, R525). -/
def DictKept (s t : State) : Prop :=
  ∀ (k : Key) e, k.sub < 256 → k.row < 65536 → entryOf k.index k.sub = some e →
    (e.persist ≠ .volatile → t.val k = s.val k) ∧
    (e.persist = .volatile → k ≠ ⟨0x1000, 7, 0⟩ → t.val k = dictDefault k.index k.sub k.row)

end Sys2Proof.Machine
end

