-- ==== Sys2Proof/Certificates/Slice0/Obligations.lean ====
section
/-! DEFINITION. The statements about the model for the provers. -/
open Sys2Proof Sys2Proof.Machine

/-! ### The step -/

/-- A step takes the command at the front of the queue and runs it with the rest of the queue; on an empty queue the block
idles: the cycle counters, the index of the next free value and the counters of waiting cycles move, with the note of one that
saturates, each core enters a new cycle, and passes may give up their stationary banks; without a core and with an idle codec
the first two alone (the model's choice, log entries 4, 13 and 51). -/
def Obligations.StepRunsFrontCommand : Prop :=
  (∀ (c : Instr) (rest : List Instr) (s : State),
    s.pending = c :: rest → step s = exec c { s with pending := rest }) ∧
  ∀ (s : State), s.pending = [] → ∃ t, step s = .next t ∧
    t = { s with
      tick := t.tick, cycles := t.cycles, dict := t.dict, sent := t.sent, steps := t.steps, faultLog := t.faultLog
      frecSeq := t.frecSeq, notedNow := t.notedNow, msixPending := t.msixPending, eventCause := t.eventCause
      cores := t.cores } ∧
    (∀ c, t.core c = { s.core c with
      issued := (t.core c).issued, drained := (t.core c).drained, flights := (t.core c).flights } ∧
      ∀ st, ((t.core c).flight st).map (·.token) = ((s.core c).flight st).map (·.token)) ∧
    (s.cores = [] → s.codec = [] → t = { s with tick := s.tick + 1, cycles := t.cycles })

/-! ### The control core (R127 to R135) -/

/-- ADD to SLT: x[RD] = x[RA] op (x[RB] + IMM), the program counter moves on, nothing else changes (R127, R128, R129). -/
def Obligations.ControlArithmetic : Prop :=
  ∀ (c : CoreId) (s : State) (w : QWord), (s.core c.val).hasNext →
    let k := s.core c.val
    let a := k.reg (cRa w)
    let b := k.reg (cRb w) + BitVec.ofNat 64 (cImm w)
    let gives := fun (v : DWord) => Host.Outcome.next (φ := Fault) (ρ := Refusal)
      (s.setCore c.val ((k.setReg (cRd w) v).goTo (k.ctl.pc + 1)))
    (ctlReady s c.val 0x10 w → exec (.ctlAdd c) s = gives (a + b)) ∧
    (ctlReady s c.val 0x11 w → exec (.ctlSub c) s = gives (a - b)) ∧
    (ctlReady s c.val 0x12 w → exec (.ctlMul c) s = gives (a * b)) ∧
    (ctlReady s c.val 0x13 w → exec (.ctlAnd c) s = gives (a &&& b)) ∧
    (ctlReady s c.val 0x14 w → exec (.ctlOr c) s = gives (a ||| b)) ∧
    (ctlReady s c.val 0x15 w → exec (.ctlXor c) s = gives (a ^^^ b)) ∧
    (ctlReady s c.val 0x16 w → exec (.ctlShl c) s = gives (a <<< (b.toNat % 64))) ∧
    (ctlReady s c.val 0x17 w → exec (.ctlShr c) s = gives (a >>> (b.toNat % 64))) ∧
    (ctlReady s c.val 0x18 w → exec (.ctlSra c) s = gives (a.sshiftRight (b.toNat % 64))) ∧
    (ctlReady s c.val 0x19 w → exec (.sltu c) s = gives (if a.ult b then 1 else 0)) ∧
    (ctlReady s c.val 0x1A w → exec (.slt c) s = gives (if a.slt b then 1 else 0))

/-- x0 reads as zero and writes to it are discarded; another register reads what was written last (R127). -/
def Obligations.ControlRegisters : Prop :=
  ∀ (k : Core) (r r' : Nat) (v : DWord),
    k.reg 0 = 0 ∧ k.setReg 0 v = k ∧ (r ≠ 0 → (k.setReg r v).reg r = v) ∧ (r' ≠ r → (k.setReg r v).reg r' = k.reg r')

/-- A branch whose comparison holds goes to its target inside the stream, one whose comparison fails to the next word;
JUMP always goes to its target; LOOP decrements x[RA] and jumps while the result is not 0; CNOP does nothing; END ends the
stream; no other register changes (R129). -/
def Obligations.ControlFlow : Prop :=
  ∀ (c : CoreId) (s : State) (w : QWord),
    let k := s.core c.val
    let a := k.reg (cRa w)
    let b := k.reg (cRb w)
    let v := a - 1
    let goes := fun (op : Nat) (i : Instr) (taken : Bool) => ctlReady s c.val op w →
      (taken = true → cImm w < k.ctl.stream.length → exec i s = .next (s.setCore c.val (k.goTo (cImm w)))) ∧
      (taken = false → k.hasNext → exec i s = .next (s.setCore c.val (k.goTo (k.ctl.pc + 1))))
    goes 0x20 (.beq c) (decide (a = b)) ∧ goes 0x21 (.bne c) (decide (a ≠ b)) ∧
    goes 0x22 (.bltu c) (a.ult b) ∧ goes 0x23 (.bgeu c) (!a.ult b) ∧
    goes 0x24 (.blt c) (a.slt b) ∧ goes 0x25 (.bge c) (!a.slt b) ∧ goes 0x26 (.jump c) true ∧
    (ctlReady s c.val 0x27 w → v ≠ 0 → cImm w < k.ctl.stream.length →
      exec (.loop c) s = .next (s.setCore c.val ((k.setReg (cRa w) v).goTo (cImm w)))) ∧
    (ctlReady s c.val 0x27 w → v = 0 → k.hasNext →
      exec (.loop c) s = .next (s.setCore c.val ((k.setReg (cRa w) v).goTo (k.ctl.pc + 1)))) ∧
    (ctlReady s c.val 0x00 w → k.hasNext → exec (.cnop c) s = .next (s.setCore c.val (k.goTo (k.ctl.pc + 1)))) ∧
    (ctlReady s c.val 0x01 w →
      exec (.ctlEnd c) s = .next (s.setCore c.val { k with ctl := { k.ctl with running := false }, hung := false }))

/-- HINT.PHASE sets the phase of the issuing core's cluster, a code above 31 taken as 31, and no other cluster's; registers
and memory stay (R408). -/
def Obligations.HintPhaseSetsClusterPhase : Prop :=
  ∀ (c : CoreId) (s : State) (w : QWord), ctlReady s c.val 0x02 w → (s.core c.val).hasNext →
    ∃ t, exec (.hintPhase c) s = .next t ∧
      mapGet 0 t.phases (c.val / 8) = 16 * min 31 (cImm w % 256) + cImm w / 256 % 16 ∧
      (∀ k, k ≠ c.val / 8 → mapGet 0 t.phases k = mapGet 0 s.phases k) ∧
      t.core c.val = (s.core c.val).goTo ((s.core c.val).ctl.pc + 1) ∧
      SameOtherCores s t c.val ∧ t.dict = s.dict ∧ t.mem = s.mem

/-- SUMPOP takes the oldest summary entry, SUMCOUNT counts the entries, CTLD reads 8 payload bytes of a PRESENT tile
(R129, R130). -/
def Obligations.ControlReads : Prop :=
  ∀ (c : CoreId) (s : State) (w : QWord), (s.core c.val).hasNext →
    let k := s.core c.val
    (∀ e r, ctlReady s c.val 0x30 w → k.summaries = e :: r →
      ∃ t, exec (.sumpop c) s = .next t ∧ (t.core c.val).summaries = r ∧
        (cRd w ≠ 0 → cRd w ≠ cRa w → (t.core c.val).reg (cRd w) = BitVec.ofNat 64 e.value.toNat) ∧
        (cRa w ≠ 0 → (t.core c.val).reg (cRa w) =
          BitVec.ofNat 64 (e.tag.toNat + e.kind.toNat * 2 ^ 8 + (if e.poison then 2 ^ 12 else 0))) ∧
        (∀ n, n ≠ cRd w → n ≠ cRa w → (t.core c.val).reg n = k.reg n) ∧
        (t.core c.val).ctl.pc = k.ctl.pc + 1 ∧ SameOtherCores s t c.val ∧ t.mem = s.mem ∧ t.dict = s.dict) ∧
    (ctlReady s c.val 0x31 w →
      ∃ t, exec (.sumcount c) s = .next t ∧
        (cRd w ≠ 0 → (t.core c.val).reg (cRd w) = BitVec.ofNat 64 k.summaries.length) ∧
        (t.core c.val).summaries = k.summaries ∧ (∀ n, n ≠ cRd w → (t.core c.val).reg n = k.reg n) ∧
        (t.core c.val).ctl.pc = k.ctl.pc + 1 ∧ SameOtherCores s t c.val ∧ t.mem = s.mem) ∧
    (let h := ((k.reg (cRa w)).toNat + getf w 52 12) % 4096
     let off := (k.reg (cRb w) + BitVec.ofNat 64 (getf w 0 32)).toNat
     ctlReady s c.val 0x38 w → off % 8 = 0 → (k.tte h).state = .present → off + 8 ≤ (readTile k h).payload.length →
      exec (.ctld c) s = .next (s.setCore c.val
        ((k.setReg (cRd w) (BitVec.ofNat 64 (leAt (readTile k h).payload off 8))).goTo (k.ctl.pc + 1))))

/-- BIND binds a FREE entry at a base granule with its capacity and releases; UNBIND clears a FREE entry; both move on and
change nothing else (R54, R129, R131). -/
def Obligations.BindAndUnbind : Prop :=
  ∀ (c : CoreId) (s : State) (w : QWord), (s.core c.val).hasNext →
    let k := s.core c.val
    let h := ((k.reg (cRa w)).toNat + getf w 52 12) % 4096
    let base := (k.reg (cRb w) + BitVec.ofNat 64 (getf w 0 15)).toNat
    (ctlReady s c.val 0x48 w → (k.tte h).state = .free → base + getf w 15 8 + 2 ≤ 24576 → getf w 23 3 ≠ 0 →
      exec (.bind c) s = .next (s.setCore c.val ((k.setTte h
        { state := .free, bound := true, readers := 0, base := BitVec.ofNat 15 base, capacity := BitVec.ofNat 8 (getf w 15 8),
          releases := BitVec.ofNat 3 (getf w 23 3), released := 0 }).goTo (k.ctl.pc + 1)))) ∧
    (ctlReady s c.val 0x49 w → (k.tte h).state = .free →
      exec (.unbind c) s = .next (s.setCore c.val ((k.setTte h {}).goTo (k.ctl.pc + 1))))

/-- PUSH appends its patched template to a station queue with room, patch 0 before patch 1, and moves on by 1 + `PUSH.WORDS`;
a patch adds its register to its field modulo 2^width and changes no other bit; a patch wider than 48 bits, or whose field
reaches into or past bits 127 to 116, is malformed (R132, R133). -/
def Obligations.PushPatchesItsTemplate : Prop :=
  (∀ (c : CoreId) (s : State) (w t : QWord),
    let k := s.core c.val
    let st := getf w 116 4
    let n := getf w 64 2
    let second := k.ctl.stream[k.ctl.pc + 2]?
    let f := s.coreFault 0x200A c.val 15 0xFFF k.ctl.pc
    ctlReady s c.val 0x40 w → st < 7 → (n = 1 ∨ (n = 2 ∧ second.isSome)) → k.ctl.pc + 1 + n < k.ctl.stream.length →
    (patchBad (getf w 104 7) (getf w 98 6) = false → patchBad (getf w 86 7) (getf w 80 6) = false →
      k.ctl.stream[k.ctl.pc + 1]? = some t → ((k.queue st).map fun i => if i.w1.isSome then 2 else 1).sum + n ≤ 64 →
      exec (.push c) s = .next (s.setCore c.val ((k.setQueue st (k.queue st ++
        [{ w0 := patchWord k (patchWord k t (getf w 111 5) (getf w 104 7) (getf w 98 6)) (getf w 93 5) (getf w 86 7) (getf w 80 6)
           w1 := if n = 2 then second else none }])).goTo (k.ctl.pc + 1 + n)))) ∧
    (patchBad (getf w 104 7) (getf w 98 6) = true ∨ patchBad (getf w 86 7) (getf w 80 6) = true →
      exec (.push c) s = .next (f.setCore c.val
        { f.core c.val with ctl := { (f.core c.val).ctl with running := false }, hung := false }))) ∧
  (∀ (k : Core) (t : QWord) (reg lsb width : Nat), width ≠ 0 →
    (patchBad lsb width = true ↔ 48 < width ∨ 116 < lsb + width) ∧
    (patchBad lsb width = false →
      let t' := patchWord k t reg lsb width
      getf t' lsb width = (getf t lsb width + (k.reg reg).toNat) % 2 ^ width ∧
      ∀ i, (i < lsb ∨ lsb + width ≤ i) → t'.getLsbD i = t.getLsbD i))

/-- A malformed control word raises CTL_MALFORMED and ends the core's stream as END does: a reserved field that is not
zero, a taken jump out of the stream, a CTLD offset that is not a multiple of 8, a PUSH to station 7 or more (R135). -/
def Obligations.MalformedControlWordEndsStream : Prop :=
  ∀ (c : CoreId) (s : State) (w : QWord),
    let k := s.core c.val
    let f := s.coreFault 0x200A c.val 15 0xFFF k.ctl.pc
    let ended : Host.Outcome State Fault Refusal :=
      .next (f.setCore c.val { f.core c.val with ctl := { (f.core c.val).ctl with running := false }, hung := false })
    (k.ctl.running = true → s.clocked c.val = true → s.coreDisabled c.val = false →
      k.ctl.stream[k.ctl.pc]? = some w → cOpcode w = 0x10 → ctlFieldsOk w = false → exec (.ctlAdd c) s = ended) ∧
    (ctlReady s c.val 0x26 w → k.ctl.stream.length ≤ cImm w → exec (.jump c) s = ended) ∧
    (ctlReady s c.val 0x38 w → (k.reg (cRb w) + BitVec.ofNat 64 (getf w 0 32)).toNat % 8 ≠ 0 →
      exec (.ctld c) s = ended) ∧
    (ctlReady s c.val 0x40 w → 7 ≤ getf w 116 4 → exec (.push c) s = ended)

/-! ### Stations: waits, issue and completion (R56, R60 to R62, R64) -/

/-- NOP issues when its station has room; WAIT passes the head when its semaphore has reached v and waits otherwise;
WAITSUB then subtracts v (R64). -/
def Obligations.WaitsAndNops : Prop :=
  ∀ (c : CoreId) (st : Station) (s : State) (i : StationInsn) (r : List StationInsn),
    let n := stationCode st
    let k := s.core c.val
    let sem := iField i.w0 48 8
    let v := iField i.w0 0 32
    let passed : Core := { k.setQueue n r with hung := false }
    let cycle := k.cycleFor n
    k.queue n = i :: r → s.issues c.val = true → s.coreDisabled c.val = false → iStation i.w0 = n → i.w1 = none →
    (iOpcode i.w0 = 0 → getf i.w0 68 48 = 0 → iRelease i.w0 = 0 → iOperands i.w0 = 0 → inFlightCount k n < stationLimit n →
      exec (.nop c st) s = .next (({ s with nextToken := s.nextToken + 1 } : State).setCore c.val
        (({ passed with issued := cycle.issued ++ [n], drained := cycle.drained } : Core).setFlight n
          (k.flight n ++ [{ token := s.nextToken, insn := i }])))) ∧
    (getf i.w0 56 60 = 0 → iField i.w0 32 16 = 0 →
      (iOpcode i.w0 = 1 → v ≤ (k.sem sem).toNat → exec (.wait c st) s = .next (s.setCore c.val passed)) ∧
      (iOpcode i.w0 = 1 → (k.sem sem).toNat < v → exec (.wait c st) s = .next s) ∧
      (iOpcode i.w0 = 2 → v ≤ (k.sem sem).toNat →
        exec (.waitsub c st) s = .next (s.setCore c.val (passed.setSem sem (k.sem sem - BitVec.ofNat 32 v)))) ∧
      (iOpcode i.w0 = 2 → (k.sem sem).toNat < v → exec (.waitsub c st) s = .next s))

/-- An instruction put in flight leaves its queue, stands last among its station's instructions in flight with its readers,
and its outputs fill; queues of other stations, scratchpad, accumulator banks, semaphores, control registers, summaries,
other cores and everything outside the cores stay (R56, R60). -/
def Obligations.IssueFrame : Prop :=
  ∀ (s : State) (c st : Nat) (i : StationInsn) (q : List StationInsn) (f : Form) (r : InFlight),
    (s.core c).queue st = i :: q →
    let k := s.core c
    let t : State := issued s k c st i f r
    let hs := inputTiles k i.w0 f
    let k' := t.core c
    t = s.setCore c k' ∧ k'.queue st = q ∧ (∀ n, n ≠ st → k'.queue n = k.queue n) ∧
    k'.flight st = k.flight st ++ [{ r with insn := i, readers := hs }] ∧
    (∀ n, n ≠ st → k'.flight n = k.flight n) ∧
    (∀ o ∈ r.outs, (k'.tte o.handle).state = .filling) ∧
    (∀ h, (∀ o ∈ r.outs, o.handle % 4096 ≠ h % 4096) → (∀ e ∈ hs, e % 4096 ≠ h % 4096) → k'.tte h = k.tte h) ∧
    k'.spad = k.spad ∧ k'.accA = k.accA ∧ k'.accB = k.accB ∧ k'.sems = k.sems ∧ k'.ctl = k.ctl ∧
    k'.summaries = k.summaries ∧ k'.stationary = k.stationary ∧ st ∈ k'.issued

/-- A reader that issues counts among its tile's readers; a release that reaches `TTE.RELEASES` makes the entry DRAINING; a
DRAINING entry becomes FREE as its last reader completes (R56). -/
def Obligations.TileReadersAndReleases : Prop :=
  ∀ (k : Core) (h : Nat) (release : Bool),
    let e := k.tte h
    let i := (readerIssues k h release).tte h
    let d := (readerCompletes k h).tte h
    i.readers = e.readers + 1 ∧ i.bound = e.bound ∧ i.base = e.base ∧ i.capacity = e.capacity ∧ i.releases = e.releases ∧
    (release = false → i.state = e.state ∧ i.released = e.released) ∧
    (release = true → e.releases.toNat ≤ e.released.toNat + 1 → i.state = .draining) ∧
    (release = true → e.released.toNat + 1 < e.releases.toNat →
      i.state = e.state ∧ i.released.toNat = e.released.toNat + 1) ∧
    d.readers = e.readers - 1 ∧ d.base = e.base ∧ d.bound = e.bound ∧
    (e.state = .draining → e.readers ≤ 1 → d.state = .free) ∧ (e.state ≠ .draining → d.state = e.state) ∧
    (1 < e.readers → d.state = e.state)

/-- LOAD.IMG, LOAD.RAW, STORE.IMG and STORE.RAW issue with the tile that R65 to R67 give, read from memory with the writes
that stand before the read, or with the requests that write the bytes of R65 to R67; memory does not change before these are
done (R194, R209, R211). An image with its POISON flag set is copied as it stands where it fits (R49). -/
def Obligations.MoversIssue : Prop :=
  ∀ (c : CoreId) (s : State) (i : StationInsn) (f : Form),
    let k := s.core c.val
    let js := s.jsOfCore c.val
    let a := iField i.w0 0 48
    let h0 := iH0 i.w0
    let tr := bitf i.w0 55
    let m := s.seen (coreRequester c.val)
    let may := fun (st op : Nat) => mayIssue s c.val st op i f
    let gives := fun (cmd : Instr) (p : InFlight → Prop) =>
      ∃ s' r, exec cmd s = .next (issued s' k c.val 0 i f r) ∧ Quiet s s' ∧ p r
    let writes := fun (cmd : Instr) (s' : State) => Quiet s s' ∧
      exec cmd s = .next (issued { s' with nextToken := s.nextToken + 1 } k c.val 3 i f { token := s.nextToken, insn := i })
    -- LOAD.IMG of a plain image
    (let hd := hdrOfBytes (m.readMem a 64)
     let n := imagePayload hd
     let img : Tile := { header := hd, payload := m.readMem (a + 64) n }
     may 0 0x10 → s.access js a 64 .read = true → s.access js a (64 + n) .read = true → m.spanPoisoned a 64 = false →
     m.spanPoisoned a (64 + n) = false → hFormat hd ≠ 0x13 → n ≤ capacityBytes k h0 →
     (hPoison hd = true → ∃ s' r, exec (.loadImg c) s = .next (issued s' k c.val 0 i f r) ∧ s'.cores = s.cores ∧
       s'.mem = s.mem ∧ s'.poison = s.poison ∧ putsTile r h0 img) ∧
     (hPoison hd = false → headerOk hd n = true → (tr = true → transposeOk hd = true) → tileCrcOk img = true →
       gives (.loadImg c) fun r => putsTile r h0 (if tr then transposeTile img else img))) ∧
    -- LOAD.RAW: rows of elements under a header built from its second word
    (let x := i.w1.getD 0
     let fm := getf x 120 8
     let l := getf x 116 4
     let rows := getf x 96 16
     let cols := getf x 80 16
     let pitch := getf x 48 32
     let n := rowBytes fm cols
     let hd := rawHeader s c.val fm l rows cols
     may 0 0x11 → l ≠ 2 → headerOk hd 65536 = true → (tr = true → transposeOk hd = true) →
     s.access js a ((rows - 1) * pitch + n) .read = true → 256 * (hGranules hd + 1) ≤ capacityBytes k h0 →
     ((rawRows a pitch rows n).any fun r => m.spanPoisoned r.1 r.2) = false →
     gives (.loadRaw c) fun r => ∃ scales, scales.length = scalePlaneBytes fm rows cols ∧
       let codes := (rawRows a pitch rows n).flatMap fun e => (unpackCodes (elemBits fm) (m.readMem e.1 e.2) 0 0).take cols
       let t := sealProduced hd (rawPayload fm l rows cols codes scales)
       putsTile r h0 (if tr then transposeTile t else t)) ∧
    (let t := readTile k (iH1 i.w0)
     let x := if tr then transposeTile t else t
     poisonedInput k (iH1 i.w0 :: scaleHandles k i.w0 [iH1 i.w0]) = none → moverInputOk k t tr = true → tileCrcOk t = true →
     -- STORE.IMG, plain or EXACT
     (let exact := bitf i.w0 54
      let out := tileImage (if exact then exactImage s c.val x else x)
      let coded := (countEncoded s x (exactEncode x).length).addBlocks true 32 s.nextToken none (laneBlocks (exactEncode x))
      may 3 0x18 → (exact = true → s.codecOn = true) → s.access js a out.length .write = true →
      writes (.storeImg c) ((if exact then coded else s).coreWrite c.val s.nextToken a out)) ∧
     -- STORE.RAW: the logical rows, one pitch apart, without a header
     (let pitch := getf (i.w1.getD 0) 48 32
      let n := rowBytes (hFormat x.header) (hCols x.header)
      may 3 0x19 → s.access js a ((hRows x.header - 1) * pitch + n) .write = true →
      writes (.storeRaw c) (s.rawWrite c.val s.nextToken a pitch n (tileRows x))))

/-- SEND issues with the copy that R71 sends and makes its identifier ACTIVE; RECV of a landed, verified tile copies it into
H0, and RECV of an ended use installs the poisoned zero payload of R73. -/
def Obligations.SendAndRecvIssue : Prop :=
  ∀ (c : CoreId) (s : State) (i : StationInsn) (f : Form) (j : Nat), s.jsOfCore c.val = some j →
    let k := s.core c.val
    let id := iTransfer i.w0
    let gen := iGeneration i.w0
    let tile := iTile i.w0
    (∀ x n (x' : Transfer), mayIssue s c.val 4 0x20 i f → s.sourced j id = some (x, n, x') →
      let t := readTile k (iH1 i.w0)
      let exact := bitf i.w0 11
      tile < x'.tiles → (s.idState j id).phase ≤ 1 → (s.idState j id).gen = gen →
      (∀ g, s.collOf j id = some g → g.vc = x'.vc) → (exact = true → x'.exact = true ∧ s.codecOn = true) →
      64 + t.payload.length ≤ (tileSlot x' tile).2 → s.domainOn (domEdge (c.val / 64)) = true →
      poisonedInput k (iH1 i.w0 :: scaleHandles k i.w0 [iH1 i.w0]) = none → moverInputOk k t false = true →
      tileCrcOk t = true →
      let copy := sendCopy t id gen
      ∃ s' r, exec (.send c) s = .next (issued s' k c.val 4 i f r) ∧ Quiet s s' ∧ onlyCompletes r ∧
        r.send = some (exact, if exact then exactEncode copy else tileImage copy) ∧
        s'.idState j id = { s.idState j id with phase := 1, gen := gen }) ∧
    (mayIssue s c.val 5 0x28 i f →
      (recvInput s j id gen tile = .ended → ∃ s' r, exec (.recv c) s = .next (countStarved (issued s' k c.val 5 i f r) c.val) ∧
        Quiet s s' ∧ putsTile r (iH0 i.w0) (poisonTile s c.val 5 (iH0 i.w0) id gen)) ∧
      (∀ a (x' : Transfer), recvInput s j id gen tile = .tile a → s.recvTransfer j id = some x' →
        plankCheck (s.markRound j x'.id) j gen x' tile = .none →
        let m := s.seen (coreRequester c.val)
        let hd := hdrOfBytes (m.readMem a 64)
        let n := 256 * (hGranules hd + 1)
        let t : Tile := { header := hd, payload := m.readMem (a + 64) n }
        m.spanPoisoned a (64 + n) = false → hPoison hd = false → headerOk hd n = true → n ≤ capacityBytes k (iH0 i.w0) →
        tileCrcOk t = true → (groupChannel x'.vc = true → hEpoch hd = s.val (keyEpoch j)) →
        ∃ s' r, exec (.recv c) s = .next (countStarved (issued s' k c.val 5 i f r) c.val) ∧ s'.cores = s.cores ∧
          s'.mem = s.mem ∧ s'.poison = s.poison ∧ putsTile r (iH0 i.w0) t))

/-- A MAT instruction with sound operands issues: the bank it names, opened if it was FREE, holds the accumulated pass of its
streamed and stationary tiles, or the skipped pass of R104 where a tile is ALLZERO; the other bank, other cores and memory
stay (R83 to R86, R90, R93 to R95, R98, R104). -/
def Obligations.MatIssuesAndAccumulates : Prop :=
  ∀ (c : CoreId) (s : State) (i : StationInsn) (f : Form) (cmd : Instr) (op : Nat), (cmd, op) ∈ matRows c →
    mayIssue s c.val 1 op i f →
    let k := s.core c.val
    let w := i.w0
    let b := iBankB w
    let ha := readHeader k (iH1 w)
    let hb := readHeader k (iH2 w)
    let keep := bitf w 51
    let bank : AccBank := if (k.bank b).state = .free
      then { state := .opened, mode := mmaMode op, poison := (k.bank b).poison, entries := [] } else k.bank b
    let skip := (hAllzero ha || hAllzero hb) && op != 0xB0 && op != 0xB1
    let st := if keep then lastStationary k else readTile k (iH2 w)
    (k.bank b).state ≠ .closed → vecOnBank k b (fun _ => true) = false → poisonedInput k [iH1 w, iH2 w] = none →
    headerOk ha (256 * (hGranules ha + 1)) = true → headerOk hb (256 * (hGranules hb + 1)) = true →
    mmaTilesOk op ha hb = true → iField w 17 16 + iField w 33 9 + 1 ≤ hRows ha → bank.mode = mmaMode op →
    (keep = true → keepOk k w = true) →
    (keep = false → hLayout hb = 2 → positionsOk (tilePositions (readTile k (iH2 w))) = true) →
    (skip = false → (op = 0xA1 → inFlightCount k 1 = 0) ∧ tileCrcOk (readTile k (iH1 w)) = true ∧
      (keep = false → tileCrcOk (readTile k (iH2 w)) = true)) →
    ∃ s' r, exec cmd s = .next (issued s' k c.val 1 i f r) ∧ onlyCompletes r ∧
      (s'.core c.val).bank b = (if skip then skipPass w bank else (runPass w bank (readTile k (iH1 w)) st).bank) ∧
      (s'.core c.val).bank (!b) = k.bank (!b) ∧ (s'.core c.val).spad = k.spad ∧ (s'.core c.val).ttes = k.ttes ∧
      SameOtherCores s s' c.val ∧ s'.mem = s.mem ∧ s'.poison = s.poison

/-- In an FP32 bank of 32 columns, a pass gives each entry of its rows the rounded sum of its chunk of products, on top of the
entry or in its place with OVERWRITE, and leaves every entry of other rows alone (R89, R98, R99, R100). -/
def Obligations.MatPassEntries : Prop :=
  ∀ (w : QWord) (bank : AccBank) (a st : Tile) (m c : Nat), c < 32 → bank.mode = .f32x32 →
    iOpcode w ≠ 0xA5 → iOpcode w ≠ 0xB0 → iOpcode w ≠ 0xB1 → iField w 42 9 + iField w 33 9 + 1 ≤ 256 →
    let r := (runPass w bank a st).bank
    let row0 := iField w 42 9
    let rows := iField w 33 9 + 1
    let cols := hCols a.header
    let streamed := fun (i : Nat) => ((tileNums a).drop ((iField w 17 16 + i) * cols)).take cols
    (∀ i, i < rows → m = row0 + i → r.get (512 * c + m) =
      accF32 (iField w 53 2 == 1) (bank.get (512 * c + m)) (chunkSum (mmaWindow (iOpcode w) (hFormat a.header))
        ((laneProducts (streamed i) ((stationaryRows st).getD c [])).map (·.2)))) ∧
    (m < 256 → (m < row0 ∨ row0 + rows ≤ m) → r.get (512 * c + m) = bank.get (512 * c + m)) ∧ r.mode = bank.mode

/-- A VEC instruction with sound operands issues: its output tile, its posts and the entries it writes back at completion are
what its opcode computes from the bank and tiles at issue (R113 to R119, R123, R147). -/
def Obligations.VecIssuesItsOpcode : Prop :=
  ∀ (c : CoreId) (s : State) (i : StationInsn) (f : Form) (cmd : Instr) (op : Nat) (compute : VecArgs → VecAnswer)
    (e : VecEffect), (cmd, op, compute) ∈ vecRows c → mayIssue s c.val 2 op i f →
    let k := s.core c.val
    let w := i.w0
    vecBankSound k w → (vecTouches w = true → matClaims s c.val (iBankB w) = false) →
    summaryRoom k (postCount w) = true → tilesSound k w f →
    (op = 0x59 → vFunc w % 4 = 0 → isFulling (hFormat (readTile k (iH1 w)).header) = true →
      fullPoisoned (readTile k (iH1 w)) = false) →
    compute (vecArgsAt s c.val w) = .ok e →
    (∀ o, f.out = true → e.out = some o → o.2.length ≤ capacityBytes k (iH0 w)) →
    ∃ s' r, exec cmd s = .next (issued s' k c.val 2 i f r) ∧ Quiet s s' ∧ r.withdrawn = false ∧
      r.outs = (match e.out with
        | some o => [{ handle := iH0 w, tile := sealProduced (producedHeader s c.val 2 o.1) o.2 }]
        | none => []) ∧
      r.bankWrites = e.bank ∧ r.posts = (if bitf w 41 then summariesOf w false e.posts else [])

/-- An element-wise opcode on two inputs in FP32, the result in FP32: element i of the output tile is the operation on element
i of the first input and the broadcast element of the second (R116, R117, R118). -/
def Obligations.VecElementwise : Prop :=
  ∀ (f : Word → Word → Word) (a : VecArgs) (x y : Operand),
    vOutFormat a.w = 0x01 → vAccUse a.w ≠ 2 → a.input 1 1 = some x → a.input 1 2 = some y →
    broadcasts y x.rows x.cols = true → shapeFits 0x01 0 x.rows x.cols = true →
    ∃ e hd p, vecElem2 f a = .ok e ∧ e.out = some (hd, p) ∧ hFormat hd = 0x01 ∧ hRows hd = x.rows ∧ hCols hd = x.cols ∧
      ∀ i, i < x.rows * x.cols →
        leAt p (4 * i) 4 = (toF32 (ofF32 (f (x.vals.getD i 0) (y.at (i / x.cols) (i % x.cols))))).toNat

/-- The oldest instruction in flight of a station completes once its requests and codec blocks are done: it leaves the list, its
output tile is PRESENT and reads back, its summaries stand last in the queue, its completion signal is on its way, and memory
and other cores stay; where a scratchpad atom that it has read is uncorrectable, its output tile is PRESENT with POISON (R62,
R194, R219). -/
def Obligations.InstructionCompletes : Prop :=
  ∀ (c : CoreId) (st : Station) (errs : List (Fin 98304 × EccResult)) (s : State) (r : InFlight) (fs : List InFlight),
    let n := stationCode st
    let k := s.core c.val
    let read := fun (e : Fin 98304 × EccResult) => ∃ h ∈ r.readers, inTile k h e.1.val = true
    k.flight n = r :: fs → s.insnBusy r.token = false → s.clocked c.val = true →
    ∃ t, exec (.insnComplete c ⟨st, errs⟩) s = .next t ∧
      (t.core c.val).flight n = fs ∧ t.mem = s.mem ∧ t.poison = s.poison ∧ SameOtherCores s t c.val ∧
      (iSignals r.insn.w0 = true → ∃ l, t.increments =
        l ++ [{ src := .core (Fin.ofNat 256 c.val), dst := c.val, sem := iSem r.insn.w0, amount := 1 }]) ∧
      ((∀ e ∈ errs, ¬ read e) → (t.core c.val).summaries = k.summaries ++ r.posts) ∧
      ∀ h tile, r.outs = [{ handle := h, tile := tile }] → (∀ x ∈ r.readers, x % 4096 ≠ h % 4096) →
        ((t.core c.val).tte h).state = .present ∧
        ((∀ e ∈ errs, ¬ read e) → tile.payload.length = 256 * (hGranules tile.header + 1) → readTile (t.core c.val) h = tile) ∧
        ((∃ e ∈ errs, read e ∧ e.2 = .uncorrectable) → hPoison (readHeader (t.core c.val) h) = true)

/-! ### Signals (R153, R188, R223 to R247) -/

/-- The SIG instructions issue: SIG.ADD sends its increment on its way, SIG.REMOTE and SIG.TRIGGER carry their sync message,
SIG.ACOUNT adds to its context's counter, SIG.WATCH carries its record, SIG.ROUTESWAP swaps the
route tables, or does nothing where its target is active;
what they leave alone stays (R153, R188, R228 to R231, R386). -/
def Obligations.SigIssues : Prop :=
  ∀ (c : CoreId) (s : State) (i : StationInsn) (f : Form) (j : Nat), s.jsOfCore c.val = some j →
    let k := s.core c.val
    let w := i.w0
    let may := fun (op : Nat) => mayIssue s c.val 6 op i f
    let core : SigSource := .core (Fin.ofNat 256 c.val)
    let edge := s.domainOn (domEdge (c.val / 64))
    (may 0x30 → s.inMask j (iField w 40 8) = true →
      exec (.sigAdd c) s = .next (issued
        { s with nextToken := s.nextToken + 1
                 increments := s.increments ++ [{ src := core, dst := iField w 40 8, sem := iField w 48 8, amount := iField w 0 32 }] }
        k c.val 6 i f { token := s.nextToken, insn := i })) ∧
    (may 0x31 → remoteKnown s j (iField w 24 16) (remoteMessage s c.val j i) = true →
      remoteReady s j (iField w 24 16) (remoteMessage s c.val j i) = true → edge = true →
      exec (.sigRemote c) s = .next (issued { s with nextToken := s.nextToken + 1 } k c.val 6 i f
        { token := s.nextToken, insn := i, send := some (false, syncBytes (remoteMessage s c.val j i)) })) ∧
    (may 0x31 → remoteKnown s j (iField w 24 16) (remoteMessage s c.val j i) = true →
      remoteReady s j (iField w 24 16) (remoteMessage s c.val j i) = false ∨ edge = false → exec (.sigRemote c) s = .next s) ∧
    (may 0x32 → edge = true → ∃ m, exec (.sigTrigger c) s = .next (issued { s with nextToken := s.nextToken + 1 } k c.val 6 i f
        { token := s.nextToken, insn := i, send := some (false, syncBytes m) }) ∧
      m.kind = 1 ∧ m.srcJs = j ∧ m.dstJs = iField w 38 2 ∧ m.srcCore = c.val ∧ m.epoch = s.val (keyEpoch j)) ∧
    (may 0x3E → iField w 48 8 < 128 → iField w 44 4 < 5 → s.val (contextKey (iField w 48 8)) / 2 ^ 50 % 2 = 1 →
      s.val (contextKey (iField w 48 8)) / 2 ^ 48 % 4 = j →
      ∃ s', exec (.sigAcount c) s = .next (issued s' k c.val 6 i f { token := s.nextToken, insn := i }) ∧ Quiet s s' ∧
        s'.val (contextCounter (iField w 48 8) (iField w 44 4)) =
          counterAfter (s.val (contextCounter (iField w 48 8) (iField w 44 4))) (iField w 0 32)) ∧
    (may 0x3F → exec (.sigWatch c) s = .next (issued { s with nextToken := s.nextToken + 1 } k c.val 6 i f
        { token := s.nextToken, insn := i, send := some (true, natLe 32 (watchRecord s c.val w).toNat) })) ∧
    (may 0x33 → swapOutcome s j (iField w 0 32) = .noop →
      exec (.sigRouteswap c) s = .next (issued { s with nextToken := s.nextToken + 1 } k c.val 6 i f
        { token := s.nextToken, insn := i })) ∧
    (may 0x33 → swapOutcome s j (iField w 0 32) = .swap →
      exec (.sigRouteswap c) s = .next (issued { s.swapRoutes with nextToken := s.nextToken + 1 } k c.val 6 i f
        { token := s.nextToken, insn := i }))

/-- An increment that arrives is added to its semaphore; past 0xFFFF_FFFF the semaphore is set to 0xFFFF_FFFF and SEM_OVERFLOW
withdraws the step of the core's job stream; other semaphores of the core stay (R225, R232). -/
def Obligations.IncrementsReachSemaphores : Prop :=
  ∀ (src : SigSource) (dst : CoreId) (sem : SemId) (s : State) (x : Increment),
    s.increments.find? (fun y => y.src == src && y.dst == dst.val && y.sem == sem.toNat) = some x → incrementPath s x = true →
    let k := s.core dst.val
    let v := (k.sem sem.toNat).toNat + x.amount
    ∃ t, exec (.semIncrementArrive src dst sem) s = .next t ∧ t.increments = s.increments.erase x ∧
      t.core dst.val = k.setSem sem.toNat (if v ≤ 0xFFFFFFFF then BitVec.ofNat 32 v else 0xFFFFFFFF#32) ∧
      SameOtherCores s t dst.val ∧ t.mem = s.mem ∧ (v ≤ 0xFFFFFFFF → t.dict = s.dict) ∧
      (0xFFFFFFFF < v → ∀ j, s.jsOfCore dst.val = some j → t.val (keyWithdrawn j) = 1)

/-- A signal message that arrives is handled by the first rule of R234 that applies: dropped for a core in no job stream, for an
older epoch or for a stale generation; applied at once where a landing is not admitted, with its job stream withdrawn; and
otherwise applied when its epoch is current and its data have landed, and held until then, in the hold table or, when that
is full, ahead of it (R234, R235, R237). -/
def Obligations.SignalArrival : Prop :=
  ∀ (p : PortId) (pkt : Pkt) (s : State),
    let a := (s.takeHanded p.val pkt).1
    let s0 := (s.takeHanded p.val pkt).2
    let m := syncOf pkt.payload
    let src := a.pkt.src.toNat
    let add : Increment := { src := .band, dst := m.dstCore, sem := m.sem, amount := m.n }
    syncOk pkt.payload = true → m.kind = 0 →
    ∃ t, exec (.syncSignalArrive p pkt) s = .next t ∧ t.cores = s.cores ∧
      (s.jsOfCore m.dstCore = none → t.held = s.held ∧ t.heldWaiting = s.heldWaiting ∧ t.increments = s.increments) ∧
      ∀ j, s.jsOfCore m.dstCore = some j →
        let h : Held := { src := src, js := j, msg := m }
        let older := serialOlder m.epoch (s.val (keyEpoch j))
        let uncovered := m.ids.any fun id => (s.coveredLanding src m j id).isNone
        let stale := m.ids.any fun id => match s.landing? src m.srcJs id with | some l => !genAccepted l.gen m.gen | none => false
        let s1 := acceptCovered s0 src m
        let now := heldCurrent s1 h && heldLanded s1 h
        let full := decide (1024 ≤ (s.held.filter fun x => x.js == j).length) || s.heldWaiting.any fun x => x.2.js == j
        (older = true ∨ (uncovered = false ∧ stale = true) →
          t.held = s.held ∧ t.heldWaiting = s.heldWaiting ∧ t.increments = s.increments) ∧
        (older = false → uncovered = true →
          t.held = s.held ∧ t.increments = s.increments ++ [add] ∧ t.val (keyWithdrawn j) = 1) ∧
        (older = false → uncovered = false → stale = false →
          (now = true → t.held = s1.held ∧ t.increments = s.increments ++ [add]) ∧
          (now = false → t.increments = s.increments ∧
            (full = false → t.held = s1.held ++ [h] ∧ t.heldWaiting = s1.heldWaiting) ∧
            (full = true → t.held = s1.held ∧ t.heldWaiting = s1.heldWaiting ++ [((a.port.getD 32), h)])))

/-- A held signal is applied once its epoch is current and its data have landed or have ended without delivery; until then it
stays (R235, R236, R238). -/
def Obligations.HeldSignalApplied : Prop :=
  ∀ (j : JsId) (n : Nat) (s : State) (h : Held) (rest : List Held),
    takeNth (fun x : Held => x.js == j.val) s.held n = some (h, rest) →
    (heldCurrent s h = true → heldLanded s h = true ∨ heldEnded s h = true →
      ∃ t l, exec (.heldSignalApply j n) s = .next t ∧ t.held = rest ++ l ∧ t.cores = s.cores ∧ t.mem = s.mem ∧
        t.increments = s.increments ++ [{ src := .band, dst := h.msg.dstCore, sem := h.msg.sem, amount := h.msg.n }]) ∧
    (heldCurrent s h = false ∨ (heldLanded s h = false ∧ heldEnded s h = false) → exec (.heldSignalApply j n) s = .next s)

/-- The timer of a quarantine makes its identifier IDLE with the next generation; other identifiers stay (R240). A core that
makes no progress with a wait pending posts one report and releases nothing (R242, R243). A handed-over watch is compared in
order and counted (R153 to R158). -/
def Obligations.QuarantineHangAndWatch : Prop :=
  ∀ (s : State) (j : JsId) (id : XferId) (c : CoreId),
    ((s.idState j.val id.toNat).phase = 2 → ∃ t, exec (.quarantineExpire j id) s = .next t ∧
      t.idState j.val id.toNat = { gen := ((s.idState j.val id.toNat).gen + 1) % 256 } ∧
      (∀ j' id', j' * 2 ^ 20 + id' ≠ j.val * 2 ^ 20 + id.toNat → t.idState j' id' = s.idState j' id') ∧
      t.cores = s.cores ∧ t.dict = s.dict) ∧
    ((ctlStall s c.val ≠ 0 ∨ ∃ st, st < 7 ∧ (headWait s c.val st).isSome = true) → (s.core c.val).hung = false →
      s.issues c.val = true → ∃ t r, exec (.hangTimeout c) s = .next t ∧
        t.val ⟨0xA010, 4, c.val⟩ = BitVec.toNat (w := 512) r ∧ getf r 408 8 = c.val ∧
        getf r 416 32 = s.val (keyStarted ((s.jsOfCore c.val).getD 0)) % 2 ^ 32 ∧ getf r 403 3 = ctlStall s c.val ∧
        t.core c.val = { s.core c.val with hung := true } ∧ SameOtherCores s t c.val ∧ t.increments = s.increments) ∧
    ((s.core c.val).hung = true → exec (.hangTimeout c) s = .next s) ∧
    (∀ r rs, (s.core c.val).watches = r :: rs → getf r 46 2 < 4 →
      let w := getf r 46 2
      ∃ t, exec (.watchCompare c) s = .next t ∧ (t.core c.val) = { s.core c.val with watches := rs } ∧
        SameOtherCores s t c.val ∧ t.mem = s.mem ∧
        (∀ u, watchResult s w r = .skipped u → t.val (numKey w 8 0) = counterAfter (s.val (numKey w 8 0)) 1) ∧
        (watchResult s w r = .quiet → t.val (numKey w 7 0) = counterAfter (s.val (numKey w 7 0)) 1) ∧
        (∀ kind bound, watchResult s w r = .event kind bound →
          t.val (numKey w 7 0) = counterAfter (s.val (numKey w 7 0)) 1 ∧
          t.val (numKey w 9 0) = counterAfter (s.val (numKey w 9 0)) 1))

/-! ### Steps (R75 to R79, R395) -/

/-- A trigger of an ENABLED job stream that is no spare counts as pending in Ready and Running while fewer than 15 wait; any other
is dropped, counted, and noted: TRIGGER_SPARE for a spare, and elsewhere a note whose code the spec does not give (free, log
entry 27); a trigger message of another module does the same (R77, R78, R231, R378, R437, R473). -/
def Obligations.TriggersPendOrDrop : Prop :=
  ∀ (s : State) (j : JsId) (src : TriggerSource) (p : PortId) (pkt : Pkt),
    let n := j.val
    let takes := s.isSpare n = false ∧ s.startsSteps = true ∧ s.val (keyJsState n) = 1 ∧ s.val (keyTriggers n) < 15
    let m := syncOf pkt.payload
    let message := syncOk pkt.payload = true ∧ m.kind = 1 ∧ m.dstJs = n
    let dropped := fun (t : State) => t.val (keyTriggers n) = s.val (keyTriggers n) ∧ t.cores = s.cores ∧ t.steps = s.steps ∧
      t.mem = s.mem ∧ t.val (keyDropped n) = counterAfter (s.val (keyDropped n)) 1 ∧
      (s.isSpare n = true → 0x1601 ∈ t.notedNow) ∧ ∃ code ∈ t.notedNow, code / 0x1000 = 1
    (takes → exec (.trigger j src) s = .next (s.setVal (keyTriggers n) (s.val (keyTriggers n) + 1))) ∧
    (¬ takes → ∃ t, exec (.trigger j src) s = .next t ∧ dropped t) ∧
    (message → takes → ∃ t, exec (.syncTriggerArrive p pkt) s = .next t ∧ t.cores = s.cores ∧ t.steps = s.steps ∧
      t.mem = s.mem ∧ t.handed = (s.takeHanded p.val pkt).2.handed ∧ t.val (keyTriggers n) = s.val (keyTriggers n) + 1) ∧
    (message → ¬ takes → ∃ t, exec (.syncTriggerArrive p pkt) s = .next t ∧ dropped t)

/-- A dispatch with a good directory takes one trigger, counts STEPS_STARTED, locks the job stream, and starts every enabled
listed core whose stream is good at word 0 with x1 to x4 as R127 gives them and every other register zero; said for a memory
whose queues hold no waiting write (R75 to R79, R127, R211, R471). -/
def Obligations.DispatchStartsStep : Prop :=
  ∀ (j : JsId) (s : State) (id : Nat) (es : List DirEntry), canDispatch s j.val = true →
    (∀ q ∈ s.hbmWaiting, q.write = false) →
    let m := s.seen (dispatcher 0)
    readDirectory m j.val = some (id, es) → s.val (replayKey j.val) ≠ 1 → s.val (keyStarted j.val) < 2 ^ 48 - 1 →
    ∃ t, exec (.stepDispatch j) s = .next t ∧
      t.val (keyTriggers j.val) = s.val (keyTriggers j.val) - 1 ∧ t.val (keyStarted j.val) = s.val (keyStarted j.val) + 1 ∧
      t.val (keyJsLock j.val) = 1 ∧ (t.stepOf j.val).cores = es.map (·.core) ∧ (t.stepOf j.val).programId = id ∧
      (t.stepOf j.val).number = s.val (keyStarted j.val) + 1 ∧ t.mem = s.mem ∧
      (∀ c, (∀ e ∈ es, e.core ≠ c) → t.core c = s.core c) ∧
      ∀ e ∈ es, (s.val ⟨0x5001, 1, 0⟩).testBit e.core = true →
        (s.core e.core).ctl.loaded = some (e.addr, e.crc) ∨
          (crc32c (m.readMem e.addr e.len) = e.crc ∧ m.spanPoisoned e.addr e.len = false) →
        let k := t.core e.core
        k.ctl.running = true ∧ k.ctl.pc = 0 ∧ k.ctl.loaded = some (e.addr, e.crc) ∧
          k.reg 1 = BitVec.ofNat 64 e.core ∧ k.reg 2 = BitVec.ofNat 64 j.val ∧
          k.reg 3 = BitVec.ofNat 64 (s.val (keyStarted j.val) + 1) ∧ k.reg 4 = BitVec.ofNat 64 (s.val (keyEpoch j.val)) ∧
          (∀ n, 5 ≤ n → k.reg n = 0) ∧ k.sems = (s.core e.core).sems ∧ k.ttes = (s.core e.core).ttes ∧
          k.spad = (s.core e.core).spad

/-- A dispatch that misses a bound starts the step withdrawn (R79; that it counts as started is the model's reading, log entry
36). -/
def Obligations.DispatchTimeoutWithdraws : Prop :=
  ∀ (j : JsId) (row : Nat) (started : List CoreId) (s : State), canDispatch s j.val = true →
    s.val (keyStarted j.val) < 2 ^ 48 - 1 →
    (row = 2 ∨ ((row = 3 ∨ row = 4) ∧ (readDirectory (s.seen (dispatcher 0)) j.val).isSome = true)) →
    ∃ t, exec (.dispatchTimeout j row started) s = .next t ∧ t.val (keyStarted j.val) = s.val (keyStarted j.val) + 1 ∧
      t.val (keyTriggers j.val) = s.val (keyTriggers j.val) - 1 ∧ t.val (keyWithdrawn j.val) = 1 ∧ t.mem = s.mem

/-- A step ends once every listed core has: STEPS_ENDED counts, unread summaries go, a record waits for its hash; the record is
then written last to STEP_LOG (R78, R126, R395). -/
def Obligations.StepEndsAndIsRecorded : Prop :=
  ∀ (j : JsId) (s : State),
    let st := s.stepOf j.val
    (s.startsSteps = true → s.stepRunning j.val = true → (∀ c ∈ st.cores, coreEnded (s.core c) = true) →
      s.val (keyEnded j.val) < 2 ^ 48 - 1 → ∃ t r, exec (.stepEnd j) s = .next t ∧
        t.val (keyEnded j.val) = s.val (keyEnded j.val) + 1 ∧ (∀ c ∈ st.cores, (t.core c).summaries = []) ∧
        (∀ c, (t.core c).sems = (s.core c).sems ∧ (t.core c).ttes = (s.core c).ttes ∧ (t.core c).spad = (s.core c).spad) ∧
        (t.stepOf j.val).waitingRecords = st.waitingRecords ++ [(r, st.manifest)] ∧
        getf r 144 48 = st.number % 2 ^ 48 ∧ getf r 112 32 = st.epoch % 2 ^ 32 ∧ getf r 80 32 = st.programId % 2 ^ 32 ∧
        t.mem = s.mem) ∧
    (∀ r m rest, st.waitingRecords = (r, m) :: rest → ∃ t, exec (.stepRecordWrite j) s = .next t ∧
      (t.stepOf j.val).waitingRecords = rest ∧ t.cores = s.cores ∧ t.mem = s.mem ∧
      (st.records < 16 → (t.stepOf j.val).records = st.records + 1 ∧
        t.val ⟨0x9060 + j.val, 6, st.records⟩ = (match m with
          | some (a, n) => setf r 256 256 (leNat (shake256 32 (hashInput s a n)))
          | none => r).toNat))

/-! ### Prefetch and memory (R203 to R221) -/

/-- A walk takes a credit by subtracting 1 from the credit semaphore once it is not zero; issues its next chunk into a slot in
its turn at the engine, with what memory holds then, or drops it where it leaves the extent; and a landed chunk stands in its
slot byte for byte, poison with it, with 1 added to the landing semaphore (R204, R206, R211, R219). -/
def Obligations.PrefetchWalk : Prop :=
  ∀ (k : ClusterId) (j : JsId) (s : State) (w : PfWalk) (e : PfEntry),
    (s.walkOf k.val j.val = some w → w.entries[w.entry]? = some e →
      (e.within w.chunk = true → e.slots ≤ w.chunk → w.credited = false →
        let v := (s.core e.creditCore).sem e.creditSem
        v ≠ 0 → exec (.pfCreditTake k j) s =
          .next ((s.setCore e.creditCore ((s.core e.creditCore).setSem e.creditSem (v - 1))).setWalk { w with credited := true })) ∧
      (e.within w.chunk = true → w.chunk < e.slots ∨ w.credited = true → s.walkTurn k.val j.val = true →
        let x := issuedChunk (s.seen (.prefetch k)) w e s.nextToken
        ∃ t, exec (.pfChunkIssue k j) s = .next t ∧ t.cores = s.cores ∧ t.mem = s.mem ∧ t.nextToken = s.nextToken + 1 ∧
          t.walkOf k.val j.val = some (PfWalk.next { w with inFlight := w.inFlight ++ [x] } e)) ∧
      (e.within w.chunk = false → s.walkTurn k.val j.val = true →
        ∃ t, exec (.pfChunkIssue k j) s = .next t ∧ t.cores = s.cores ∧ t.mem = s.mem ∧
          t.walkOf k.val j.val = some { w with entry := w.entry + 1, chunk := 0, credited := false } ∧
          t.val (pfKey 4 k.val) = counterAfter (s.val (pfKey 4 k.val)) 1)) ∧
    (∀ x, s.walks.find? (fun w => w.cluster == k.val && w.js == j.val && !w.inFlight.isEmpty) = some w →
      landable s w = some x → w.entries[x.entry]? = some e → w.stopped = false →
      let d := e.slot x.n
      ∃ t, exec (.pfChunkLand k j) s = .next t ∧ t.readMem d x.data.length = x.data ∧ SameOutside s t d x.data.length ∧
        (∀ i ∈ x.bad, t.atomPoisoned (d / 64 + i) = true) ∧ SameOtherCores s t e.landCore ∧
        (((s.core e.landCore).sem e.landSem).toNat < 0xFFFFFFFF →
          (t.core e.landCore).sem e.landSem = (s.core e.landCore).sem e.landSem + 1))

/-- The requests of a span stand for its bytes, in units of 512 bytes at most; a request that is done, and passes no earlier one
that it may not pass, gives its slot back to those that wait, and what it writes is in memory from then on; an uncorrectable
atom that a read finds is poisoned, and dooms the module where it lies in the reserve; the patrol presents the read of an atom
that its pass has not read, and every place of a stack has its atom (R192, R194, R209 to R211, R218 to R220). -/
def Obligations.MemoryRequestsAndErrors : Prop :=
  ∀ (s : State),
    (∀ (who : HbmRequester) (crown token a : Nat) (bs : List Byte),
      let qs := (spanRequests who crown token a (some bs) (splitUnits (bs.length / 512 + 2) a bs.length) s).1
      qs.flatMap (fun q => q.data.zipIdx q.addr) = bs.zipIdx a ∧
        ∀ q ∈ qs, q.who = who ∧ q.token = token ∧ q.write = true ∧ q.data.length = q.bytes ∧ 0 < q.bytes ∧
          q.addr / 512 = (q.addr + q.bytes - 1) / 512) ∧
    (∀ (r : HbmRequester) (n : Nat) (errs : List (Nat × EccResult)) (q : HbmReq) (rest : List HbmReq),
      takeNth (fun x : HbmReq => x.who == r) s.hbm n = some (q, rest) → passesEarlier s q = false →
      let given := admitRequests (pathOpen s) rest s.hbmWaiting
      let after := if q.write then s.writeMem q.addr q.data else s
      let freed := fun (t : State) => t.hbm = given.1 ∧ t.hbmWaiting = given.2 ∧ t.mem = after.mem
      ((∀ e ∈ errs, e.2 ≠ .uncorrectable) → ∃ t, exec (.hbmRequestDone r n errs) s = .next t ∧ freed t ∧
        t.poison = after.poison ∧ t.cores = s.cores) ∧
      (∀ i, q.write = false → i < atomsOf q →
        let b := q.addr / 64 + i
        (inReserve (64 * b) = false → ∃ t, exec (.hbmRequestDone r n [(i, .uncorrectable)]) s = .next t ∧ freed t ∧
          t.atomPoisoned b = true ∧ ∀ b', b' ≠ b → t.atomPoisoned b' = s.atomPoisoned b') ∧
        (inReserve (64 * b) = true → s.atomPoisoned b = false → s.canDoff = true → s.doffStep = 0 →
          ∃ t, exec (.hbmRequestDone r n [(i, .uncorrectable)]) s = .next t ∧ t.lifecycle = 6))) ∧
    (∀ (k : StackId) (pseudo : Fin 32) (row : Fin 49152) (cell : Fin 256),
      let a := hbmAddress k.val pseudo.val row.val cell.val
      hbmPlace a = ⟨k.val, pseudo.val, cell.val / 16, row.val⟩ ∧ inHbm a = true ∧ a % 64 = 0) ∧
    (∀ (k : StackId) (pseudo : Fin 32) (row : Fin 49152) (cell : Fin 256),
      let a := hbmAddress k.val pseudo.val row.val cell.val
      s.val (stackKey k.val 1) = 2 → s.lifecycle ≠ 6 → a / 64 ∉ s.patrolled →
      (∀ q ∈ s.hbm ++ s.hbmWaiting, q.who = .firmware → q.token = 0 → q.addr ≠ a) →
      ∃ t, exec (.patrolScrub k pseudo row cell) s = .next t ∧ t.mem = s.mem ∧ t.poison = s.poison ∧ t.cores = s.cores ∧
        ∃ q ∈ t.hbm ++ t.hbmWaiting, q.who = .firmware ∧ q.token = 0 ∧ q.addr = a ∧ q.bytes = 64 ∧ q.write = false)

/-- What a write leaves in memory, byte by byte and atom by atom: the bytes written, every other byte as before, and poison
gone exactly from the atoms that the write covers whole (R193, R219). -/
def Obligations.MemoryWrites : Prop :=
  ∀ (s : State) (a : Nat) (bs : List Byte) (b : Nat),
    let t := s.writeMem a bs
    (∀ i, (h : i < bs.length) → t.readByte (a + i) = bs[i]) ∧ SameOutside s t a bs.length ∧
    t.atomPoisoned b = (s.atomPoisoned b && !(decide (a ≤ 64 * b) && decide (64 * b + 64 ≤ a + bs.length))) ∧
    (s.memOk = true → t.memOk = true)

/-! ### The dictionary's SETs, job streams, epochs, registrations, regions -/

/-- Every SET command answers as R484 asks: nothing where the dictionary cannot be reached; a refusal of the common checks
changes nothing but the answer; then OK with the entry's effect, or the entry's own refusal (R434, R473, R484). -/
def Obligations.SetCommandsAnswer : Prop :=
  ∀ (i : Instr) (s : State) (rq : Rq) (index sub : Nat) (body : State → SetResult),
    setCommand i = some (rq, index, sub, body) →
    (s.reachable = false → exec i s = .next s) ∧
    (s.reachable = true → headerWellFormed rq = false → exec i s = setRefused s rq index sub stMalformed 0) ∧
    (s.reachable = true → headerWellFormed rq = true → s.lifecycle = 2 → exec i s = setRefused s rq index sub stNotReady 2) ∧
    (s.reachable = true → ∀ st d, setRefusal s rq index sub = some (st, d) → exec i s = setRefused s rq index sub st d) ∧
    (admits s rq index sub →
      (∀ t, body s = .ok t → exec i s = setDone t rq index sub) ∧
      (∀ st d, body s = .refuse st d → exec i s = setRefused s rq index sub st d) ∧
      (∀ t st d, body s = .refuseIn t st d → exec i s = setRefused t rq index sub st d))

/-- CORE_MASK, JS_STATE, JS_LOCK, STEP_ALIGN, WITHDRAW_STEP, SEM_SET and the arming of a replay (R77, R198, R244, R392, R396,
R398, R429, R437, R471, R474). -/
def Obligations.JobStreamCommands : Prop :=
  ∀ (s : State) (rq : Rq) (j : JsId),
    let n := j.val
    (∀ (m : BitVec 256), admits s rq (0x9010 + n) 2 → (∀ k, k < 4 → k ≠ n → s.coreMask k &&& m.toNat = 0) →
      (m.toNat &&& s.coreMask n = m.toNat ∨ maskBits m.toNat * 0x600000 ≤ s.val (quotaKey n 1)) →
      exec (.coreMaskSet rq j m) s = setDone (s.setVal ⟨0x9010 + n, 2, 0⟩ m.toNat) rq (0x9010 + n) 2) ∧
    (admits s rq 0x9000 (n + 1) →
      (s.val (keyJsState n) ≠ 2 → exec (.jsStateWrite rq j 1) s = setDone (s.setVal (keyJsState n) 1) rq 0x9000 (n + 1)) ∧
      (s.val (keyJsState n) = 2 → exec (.jsStateWrite rq j 1) s = setRefused s rq 0x9000 (n + 1) stState 0) ∧
      (s.val (keyJsState n) = 1 → ∃ t, exec (.jsStateWrite rq j 0) s = setDone t rq 0x9000 (n + 1) ∧
        t.val (keyJsState n) = 2 ∧ t.cores = s.cores ∧ t.mem = s.mem ∧
        (s.stepRunning n = true → (∃ c ∈ (s.stepOf n).cores, coreEnded (s.core c) = false) → t.val (keyWithdrawn n) = 1) ∧
        ∀ q, q < 64 → (s.hostQueue q).js = n → (t.hostQueue q).state ≠ 1)) ∧
    (admits s rq 0x9001 (n + 1) →
      (s.lifecycle ≠ 3 → ∃ t, exec (.jsLockWrite rq j 1) s = setDone t rq 0x9001 (n + 1) ∧ t.val (keyJsLock n) = 1 ∧
        t.lifecycle = if s.lifecycle = 4 then 5 else s.lifecycle) ∧
      (s.lifecycle = 3 → exec (.jsLockWrite rq j 1) s = setRefused s rq 0x9001 (n + 1) stState 0) ∧
      (s.stepRunning n = false → s.val (keyTriggers n) = 0 → ∃ t, exec (.jsLockWrite rq j 0) s = setDone t rq 0x9001 (n + 1) ∧
        t.val (keyJsLock n) = 0 ∧
        ((∀ i, i < 4 → i ≠ n → s.locked i = false) → s.lifecycle = 5 → t.lifecycle = 4)) ∧
      (s.stepRunning n = true ∨ s.val (keyTriggers n) ≠ 0 →
        exec (.jsLockWrite rq j 0) s = setRefused s rq 0x9001 (n + 1) stState 0)) ∧
    (∀ (v : DWord), admits s rq (0x9060 + n) 5 → v.toNat < 2 ^ 48 → s.stepRunning n = false → s.val (keyTriggers n) = 0 →
      s.val (replayKey n) ≠ 1 → exec (.stepAlign rq j v) s =
        setDone ((s.setVal (keyStarted n) v.toNat).setVal (keyEnded n) v.toNat) rq (0x9060 + n) 5) ∧
    (admits s rq (0x7010 + n) 4 →
      (s.stepRunning n = true → ∃ t, exec (.withdrawStep rq j 1) s = setDone t rq (0x7010 + n) 4 ∧
        t.val (keyWithdrawn n) = 1 ∧ (t.stepOf n).manualWithdraw = true ∧ t.cores = s.cores ∧ t.mem = s.mem) ∧
      (s.stepRunning n = false → exec (.withdrawStep rq j 1) s = setRefused s rq (0x7010 + n) 4 stState 0)) ∧
    (∀ (core sem : Byte) (old new : Word), admits s rq 0xA010 3 → s.jsOfCore core.toNat = some n →
      (s.core core.toNat).sem sem.toNat = old →
      ∃ t, exec (.semSet rq (core :: sem :: 0 :: 0 :: natLe 4 old.toNat ++ natLe 4 new.toNat)) s = setDone t rq 0xA010 3 ∧
        t.core core.toNat = (s.core core.toNat).setSem sem.toNat new ∧ SameOtherCores s t core.toNat ∧
        t.val (keyWithdrawn n) = 1 ∧ t.mem = s.mem) ∧
    (∀ (r : BitVec 512), admits s rq (0xA020 + n) 1 → getf r 0 43 = 0 → bitf r 46 = true → s.val (detKey n) ≠ 0 → getf r 48 16 = s.moduleId →
      getf r 112 32 = s.val (keyEpoch n) → s.stepRunning n = false → s.val (keyTriggers n) = 0 → s.val (replayKey n) ≠ 1 →
      s.val (replayKey n) ≠ 2 → ∃ t, exec (.replayArm rq j (natLe 64 r.toNat)) s = setDone t rq (0xA020 + n) 1 ∧
        t.val (replayKey n) = 1 ∧ (t.replays.find? (·.1 == n)).map (·.2) = some r) ∧
    (∀ (r : BitVec 512), admits s rq (0xA020 + n) 1 → getf r 0 43 ≠ 0 →
      exec (.replayArm rq j (natLe 64 r.toNat)) s = setRefused s rq (0xA020 + n) 1 stState 0) ∧
    (admits s rq (0xA020 + n) 2 →
      (s.val (replayKey n) = 1 → ∃ t, exec (.replayDisarm rq j 1) s = setDone t rq (0xA020 + n) 2 ∧
        t.val (replayKey n) = 0 ∧ t.replays.find? (·.1 == n) = none) ∧
      (s.val (replayKey n) ≠ 1 → exec (.replayDisarm rq j 1) s = setRefused s rq (0xA020 + n) 2 stState 0))

/-- An epoch change: PREPARE records the next epoch and its route epoch and drains; the drain ends when its conditions hold, or
is forced; COMMIT makes the prepared epoch current, swaps the route tables where the route epochs differ, drops the old
epoch's collectives and rings, and brings the prepared mapping in; PREPARE of the current epoch gives up (R332 to R334). -/
def Obligations.EpochChange : Prop :=
  ∀ (s : State) (rq : Rq) (j : JsId),
    let n := j.val
    let e := s.val (keyEpoch n)
    (∀ (v : DWord), admits s rq (0x9030 + n) 2 → s.epochState n = 0 → v.toNat % 2 ^ 32 = (e + 1) % 2 ^ 32 →
      ∃ t, exec (.epochPrepare rq j v) s = setDone t rq (0x9030 + n) 2 ∧ t.epochState n = 1 ∧
        t.preparedEpoch n = some (v.toNat % 2 ^ 32) ∧ t.val (preparedRouteKey n) = v.toNat / 2 ^ 32 ∧
        t.val (keyEpoch n) = e ∧ t.routes = s.routes) ∧
    (∀ (v : DWord), admits s rq (0x9030 + n) 2 → s.epochState n ≠ 0 → v.toNat % 2 ^ 32 = e →
      ∃ t, exec (.epochPrepare rq j v) s = setDone t rq (0x9030 + n) 2 ∧ t.epochState n = 0 ∧ t.preparedEpoch n = none ∧
        t.mapNext n = none ∧ t.val (keyEpoch n) = e) ∧
    (s.epochState n = 1 →
      (routeReady s n = true → drained s n = true ∨ n ∈ s.drainForced →
        ∃ t, exec (.epochDrained j) s = .next t ∧ t.epochState n = 2 ∧ t.val (keyEpoch n) = e ∧ t.prepared = s.prepared) ∧
      (routeReady s n = false → exec (.epochDrained j) s = .next s) ∧
      (n ∉ s.drainForced → ∃ t, exec (.epochDrainTimeout j) s = .next t ∧
        (∀ x ∈ drainSources s n, (t.idState x.srcJs x.id).phase = 2) ∧
        (∀ h ∈ t.held, ¬ (h.js = n ∧ h.msg.epoch = e)) ∧
        (routeReady s n = true → t.epochState n = 2) ∧ (routeReady s n = false → n ∈ t.drainForced))) ∧
    (∀ new, admits s rq (0x9030 + n) 4 → s.epochState n = 2 → s.preparedEpoch n = some new →
      let swap := s.routeEpoch ≠ s.val (preparedRouteKey n)
      (swap → otherUses s n = false ∧ routeReady s n = true) →
      ∃ t, exec (.epochCommit rq j 1) s = setDone t rq (0x9030 + n) 4 ∧ t.val (keyEpoch n) = new ∧ t.epochState n = 0 ∧
        t.preparedEpoch n = none ∧ (swap → t.routes = s.staged ∧ t.staged = s.routes) ∧ (¬ swap → t.routes = s.routes) ∧
        (∀ x, x ∈ t.colls ↔ x ∈ s.colls ∧ ¬ (x.js = n ∧ x.epoch = e)) ∧
        (∀ x, x ∈ t.rings ↔ x ∈ s.rings ∧ ¬ (x.js = n ∧ x.epoch = e)) ∧
        (∀ m, s.mapNext n = some m → t.mapNow n = some m ∧ t.mapNext n = none)) ∧
    (admits s rq (0x9030 + n) 4 → s.epochState n ≠ 2 →
      exec (.epochCommit rq j 1) s = setRefused s rq (0x9030 + n) 4 stState 0)

/-- Collectives, rings, contexts and mappings are registered from sound descriptors, their counters cleared, beside what is
registered already, and are released when nothing uses them (R174, R175, R313 to R316, R338 to R342, R376, R377). -/
def Obligations.RegistrationAndRelease : Prop :=
  ∀ (s : State) (rq : Rq),
    (∀ (v : DWord),
      let a := v.toNat % 2 ^ 48
      let number := v.toNat / 2 ^ 48
      let r := readDescriptor s a
      let d := r.1
      let n := getf d 336 12 + 1
      let x := collOfDesc number a d (readMembers s (getf d 432 48) n)
      admits s rq 0x9040 1 → number < 256 → descriptorAt s x.js a = true → r.2 = true → getf d 16 227 = 0 → getf d 0 16 = 1 →
      collFieldsOk x = true → (∀ y ∈ s.colls, y.number ≠ number) → epochKnown s x.js x.epoch = true →
      membersOk s x.js (getf d 432 48) n x.rank x.members = true →
      (∀ y ∈ s.colls, y.js = x.js → idsMeet y.idBase y.idCount x.idBase x.idCount = false) → groupRefused s x = false →
      ∃ t, exec (.collRegister rq v) s = setDone t rq 0x9040 1 ∧ x ∈ t.colls ∧ (∀ y ∈ s.colls, y ∈ t.colls) ∧
        (∀ i, i < 5 → t.val (collCounter number i) = 0) ∧ t.rings = s.rings ∧ t.mem = s.mem) ∧
    (∀ (v : Byte) x, admits s rq 0x9040 2 → s.colls.find? (·.number == v.toNat) = some x → s.stepRunning x.js = false →
      exec (.collRelease rq v) s = setDone { s with colls := s.colls.filter (·.number != v.toNat) } rq 0x9040 2) ∧
    (∀ (v : DWord),
      let a := v.toNat % 2 ^ 48
      let number := v.toNat / 2 ^ 48
      let r := readDescriptor s a
      let d := r.1
      let n := getf d 184 8 + 1
      let x := ringOfDesc number a d (mapGet 0 s.contexts (getf d 169 7)) (readMembers s (getf d 432 48) n)
      admits s rq 0x9050 1 → number < 16 → descriptorAt s x.js a = true → r.2 = true → getf d 16 132 = 0 → getf d 0 16 = 1 →
      (∀ y ∈ s.rings, y.number ≠ number) → ringContextOk s x.js x.context x.shardPages = true →
      membersOk s x.js (getf d 432 48) n x.rank x.members = true → epochKnown s x.js x.epoch = true → ringFieldsOk x = true →
      (∃ g ∈ s.regions, g.state = .active ∧ g.tier ≤ 2 ∧ g.land = true ∧ g.read = true ∧ g.js = x.js ∧
        g.holds x.landBase (x.buffers * x.bufferBytes) = true) →
      (∀ y ∈ s.colls, y.js = x.js → idsMeet y.idBase y.idCount x.idBase x.idCount = false) →
      (∀ y ∈ s.rings, y.js = x.js → idsMeet y.idBase y.idCount x.idBase x.idCount = false) →
      (x.compute ≠ 0 ∨ x.bwdCompute ≠ 0 → s.fixedClock = true) → ringGroupRefused s x = false →
      ∃ t, exec (.ringRegister rq v) s = setDone t rq 0x9050 1 ∧ x ∈ t.rings ∧ (∀ y ∈ s.rings, y ∈ t.rings) ∧
        (∀ i, i < 4 → t.val (ringCounter number i) = 0) ∧ t.colls = s.colls ∧ t.mem = s.mem) ∧
    (∀ (v : Byte) x, admits s rq 0x9050 2 → v.toNat < 16 → s.rings.find? (·.number == v.toNat) = some x →
      s.stepRunning x.js = false →
      (∀ y ∈ s.schedules, 3 ≤ y.state → ∀ t ∈ y.transfers,
        (t.src = s.moduleId ∧ t.srcJs = x.js) ∨ (t.dst = s.moduleId ∧ t.dstJs = x.js) → inIds x.idBase x.idCount t.id = false) →
      exec (.ringRelease rq v) s = setDone { s with rings := s.rings.filter (·.number != v.toNat) } rq 0x9050 2) ∧
    (∀ (v : DWord),
      let a := v.toNat % 2 ^ 48
      let n := v.toNat / 2 ^ 48
      let r := readDescriptor s a
      let d := r.1
      let j := getf d 178 2
      admits s rq 0x9020 1 → n < 128 → a % 64 = 0 → inHbm a = true →
      (∃ g ∈ s.regions, g.state = .active ∧ g.tier = 2 ∧ g.js = j ∧ g.holds a 64 = true) → r.2 = true → ctxFieldsOk d = true →
      s.val (contextKey n) = 0 → (∀ p ∈ ctxPlanes d, planeOk s j p = true) →
      ∃ t, exec (.contextRegister rq v) s = setDone t rq 0x9020 1 ∧ t.val (contextKey n) = a + j * 2 ^ 48 + 2 ^ 50 ∧
        (∀ i, i < 5 → t.val (contextCounter n i) = 0) ∧ (n, d) ∈ t.contexts ∧ t.mem = s.mem) ∧
    (∀ (v : Byte), admits s rq 0x9020 2 → v.toNat < 128 → s.val (contextKey v.toNat) ≠ 0 →
      ∃ t, exec (.contextRelease rq v) s = setDone t rq 0x9020 2 ∧ t.val (contextKey v.toNat) = 0 ∧
        (∀ e ∈ t.contexts, e.1 ≠ v.toNat) ∧ t.mem = s.mem) ∧
    (∀ (j : JsId) (v : DWord),
      let n := j.val
      let r := readDescriptor s v.toNat
      let d := r.1
      let ms := if bitf d 155 || decide (65536 < mapSize d) then [] else readMembers s (getf d 432 48) (mapSize d)
      let m : Mapping := { addr := v.toNat, desc := d, members := ms }
      admits s rq (0x9060 + n) 1 → v.toNat < 2 ^ 48 → mapFieldsOk s n v.toNat d r.2 = true →
      (bitf d 155 = true ∨ (mapSize d ≤ 65536 ∧ getf d 232 16 < mapSize d ∧
        membersOk s n (getf d 432 48) (mapSize d) (getf d 232 16) ms = true)) →
      (bitf d 156 = true → ∀ k, k < 4 → k ≠ n →
        (∀ x, s.mapNow k = some x → x.routeControl = false) ∧ ∀ x, s.mapNext k = some x → x.routeControl = false) →
      (getf d 288 8 ≠ 0 → readableBy s n (getf d 384 48) (getf d 288 8 * 64 * getf d 296 24) = true) →
      (s.mapNow n = none → getf d 352 32 = s.val (keyEpoch n) →
        ∃ t, exec (.mapRegister rq j v) s = setDone t rq (0x9060 + n) 1 ∧ t.mapNow n = some m ∧
          (∀ k, k ≠ n → t.mapNow k = s.mapNow k) ∧ readsCounted s t ∧ t.mem = s.mem) ∧
      (∀ x, s.mapNow n = some x → s.preparedEpoch n = some (getf d 352 32) →
        ∃ t, exec (.mapRegister rq j v) s = setDone t rq (0x9060 + n) 1 ∧ t.mapNext n = some m ∧ t.mapNow n = some x ∧
          readsCounted s t ∧ t.mem = s.mem))

/-- REGION_CREATE adds a region that the rules of R197 allow; REGION_DESTROY of one that nothing uses starts its scrub and
clears the window entries that map it; the scrub leaves zeros, no poison, and no region, and nothing else changes (R196, R197,
R200, R505). -/
def Obligations.RegionLife : Prop :=
  ∀ (s : State) (rq : Rq),
    (∀ (d : BitVec 256), admits s rq 0x4000 1 → (∀ c ∈ regionChecks s d, c.2 = false) →
      ∃ t, exec (.regionCreate rq (natLe 32 d.toNat)) s = setDone t rq 0x4000 1 ∧
        (∀ r, r ∈ t.regions ↔ r ∈ s.regions ∨ r = regionOf d) ∧ t.dict = s.dict ∧ t.mem = s.mem) ∧
    (∀ (d : BitVec 256) n, admits s rq 0x4000 1 → (regionChecks s d).find? (·.2) = some (n, true) →
      exec (.regionCreate rq (natLe 32 d.toNat)) s = setRefused s rq 0x4000 1 stState n) ∧
    (∀ (v : BitVec 16) r, admits s rq 0x4000 2 → s.regions.find? (·.number == v.toNat) = some r →
      (destroyRefused s r = false →
        ∃ t, exec (.regionDestroy rq v) s = setDone t rq 0x4000 2 ∧
          t.regions = s.regions.map (fun x => if x.number = v.toNat then { x with state := .scrubbing } else x) ∧
          (∀ e, e ∈ t.windows → e ∈ s.windows ∧ ¬ (bitf e.2 63 = true ∧ r.holds (getf e.2 21 27 * 0x200000) 1 = true)) ∧
          t.mem = s.mem ∧ t.dict = s.dict) ∧
      (destroyRefused s r = true → exec (.regionDestroy rq v) s = setRefused s rq 0x4000 2 stState 0)) ∧
    (∀ (n : BitVec 10) r, s.regions.find? (fun r => r.number == n.toNat && r.state == .scrubbing) = some r →
      ∃ t, exec (.scrubComplete n) s = .next t ∧ (∀ i, i < r.size → t.readByte (r.base + i) = 0) ∧
        SameOutside s t r.base r.size ∧ t.regions = s.regions.filter (·.number != n.toNat) ∧
        (∀ b, r.base ≤ 64 * b → 64 * b + 64 ≤ r.base + r.size → t.atomPoisoned b = false) ∧
        t.cores = s.cores ∧ t.dict = s.dict)

/-! ### Enables and disables (R34 to R40, R283, R437, R438) -/

/-- Domains switch on and off as R34 to R39 order them, a domain that goes OFF takes its cores' SRAM along, and every other
domain keeps its state; cores, ports, job streams and domains drain and end their drains as R283 and R437 say. -/
def Obligations.EnablesAndDisables : Prop :=
  ∀ (s : State) (rq : Rq),
    (∀ (d : DomainId), admits s rq 0x2200 (d.val + 1) → d.val ≠ 68 → d.val ≠ 70 → d.val ≠ 71 →
      (s.domain d.val = 0 → (∀ e ∈ domPrereqs d.val, s.domainOn e = true) →
        (needsPair0 d.val = true → s.domain (16 * (d.val / 16) + 8) = 1) →
        ∃ t, exec (.domainStateWrite rq d 1) s = setDone t rq 0x2200 (d.val + 1) ∧ t.domain d.val = 5 ∧
          (∀ e, e < 72 → e ≠ d.val → t.domain e = s.domain e) ∧ t.cores = s.cores ∧ t.mem = s.mem) ∧
      (s.domain d.val = 0 → (∃ e ∈ domPrereqs d.val, s.domainOn e = false) →
        exec (.domainStateWrite rq d 1) s = setRefused s rq 0x2200 (d.val + 1) stState 2) ∧
      (s.domain d.val = 1 → (∀ e, e < 72 → d.val ∈ domPrereqs e → s.domain e = 0) → s.domainHolds d.val = false →
        (d.val < 64 → d.val % 16 = 8 → ∀ i, i < 16 → needsPair0 (16 * (d.val / 16) + i) = true →
          s.domain (16 * (d.val / 16) + i) = 0) →
        ∃ t, exec (.domainStateWrite rq d 0) s = setDone t rq 0x2200 (d.val + 1) ∧ t.domain d.val = 2 ∧
          (∀ e, e < 72 → e ≠ d.val → t.domain e = s.domain e) ∧ t.cores = s.cores ∧ t.mem = s.mem)) ∧
    (∀ (d : DomainId), s.domain d.val = 5 →
      (∃ t, exec (.domainSwitchOnDone d) s = .next t ∧ t.domain d.val = 1 ∧
        (∀ e, e < 72 → e ≠ d.val → t.domain e = s.domain e) ∧
        (∀ c, domCluster c ≠ d.val → t.core c = s.core c) ∧
        (d.val < 64 → d.val % 16 < 8 → ∀ c, domCluster c = d.val → t.core c = {})) ∧
      (∃ t, exec (.domainSwitchFail d) s = .next t ∧ t.domain d.val = 0 ∧
        (∀ e, e < 72 → e ≠ d.val → t.domain e = s.domain e) ∧
        (∀ c, domCluster c ≠ d.val → t.core c = s.core c) ∧
        (d.val < 64 → d.val % 16 < 8 → ∀ c, domCluster c = d.val → t.core c = {}))) ∧
    (∀ (d : DomainId), s.doffStep = 0 → s.domain d.val = 2 → domainIdle s d.val = true →
      ∃ t, exec (.functionDrained (.domain d)) s = .next t ∧ t.domain d.val = 0 ∧
        ∀ e, e < 72 → e ≠ d.val → t.domain e = s.domain e) ∧
    (∀ (c : CoreId), s.doffStep = 0 → (s.val keyDraining).testBit c.val = true → coreEnded (s.core c.val) = true →
      exec (.functionDrained (.core c)) s = .next (s.setVal keyDraining (s.val keyDraining - 2 ^ c.val))) ∧
    (∀ (j : JsId), s.doffStep = 0 → s.val (keyJsState j.val) = 2 → s.stepRunning j.val = false → activeSources s j.val = [] →
      ∃ t, exec (.functionDrained (.jobStream j)) s = .next t ∧ t.val (keyJsState j.val) = 0 ∧ t.val (keyJsLock j.val) = 0) ∧
    (∀ (m : BitVec 256), admits s rq 0x5001 1 →
      let old := s.val keyEnabled
      let drain := s.val keyDraining
      (∀ c, c < 256 → m.toNat.testBit c = true → old.testBit c = false → drain.testBit c = false) →
      ∃ t, exec (.coreEnableWrite rq m) s = setDone t rq 0x5001 1 ∧ t.val keyEnabled = m.toNat ∧ t.cores = s.cores ∧
        t.mem = s.mem ∧
        (∀ c, c < 256 → (t.val keyDraining).testBit c =
          (drain.testBit c || (old.testBit c && !m.toNat.testBit c && !coreEnded (s.core c)))) ∧
        ∀ c j, c < 256 → old.testBit c = true → m.toNat.testBit c = false → coreEnded (s.core c) = false →
          s.jsOfCore c = some j → t.val (keyWithdrawn j) = 1) ∧
    (∀ (p : PortId), let n := p.val
      (admits s rq (0x3100 + n) 1 →
        (s.portState n = 6 → ∃ t, exec (.portEnableWrite rq p 0) s = setDone t rq (0x3100 + n) 1 ∧ t.portState n = 7 ∧
          t.val (portKey n 1) = 0 ∧
          ∃ k, t.link n = { s.link n with keys := k } ∧ k.secret = [] ∧ k.ephKey = [] ∧ k.rkKey = none ∧ k.rkOwn = [] ∧
            k.rkPeer = [] ∧ k.ownSecrets = [] ∧ k.material = (s.link n).keys.material) ∧
        (s.portState n = 1 ∨ s.portState n = 9 → s.domain (domQuad (n / 8)) = 1 →
          ∃ t, exec (.portEnableWrite rq p 1) s = setDone t rq (0x3100 + n) 1 ∧ t.portState n = 2 ∧ t.val (portKey n 1) = 1 ∧
            t.link n = { step := 1 }) ∧
        (s.portState n = 7 → exec (.portEnableWrite rq p 1) s = setRefused s rq (0x3100 + n) 1 stState 0)) ∧
      (s.doffStep = 0 → s.portState n = 7 → (s.link n).closingNaps = 0 → ∃ t, exec (.functionDrained (.port p)) s = .next t ∧
        (t.link n).closingNaps = 17 ∧ (t.link n).queue = [] ∧ t.portState n = 7) ∧
      (s.doffStep = 0 → s.portState n = 7 → (s.link n).closingNaps = 1 → ∃ t, exec (.portCloseDone p) s = .next t ∧
        t.portState n = 1 ∧ t.link n = { step := 0 } ∧ Sent.idleBolts n (idleBolt s n) ∈ t.sent))

/-! ### Ports and links (R251 to R268, R281 to R283) -/

/-- The steps of bring-up: each completes in turn, HELLO is checked, the round trip and profile are fixed, and the port comes
UP; a missed bound starts again or fails the port; LOST ports train again (R251, R261 to R264, R282). -/
def Obligations.PortBringup : Prop :=
  ∀ (p : PortId) (s : State),
    let n := p.val
    let l := s.link n
    (2 ≤ s.portState n → s.portState n ≤ 5 → s.domain (domQuad (n / 8)) = 1 → s.laserOk (n / 8) = true → s.doffStep = 0 →
      (1 ≤ l.step → l.step ≤ 3 → exec (.portBringupAdvance p) s = .next (s.setLink n { l with step := l.step + 1 })) ∧
      (l.step = 4 → 4096 ≤ l.goodBolts → ∃ t, exec (.portBringupAdvance p) s = .next t ∧ t.portState n = 3 ∧
        (t.link n).step = 5) ∧
      (l.step = 4 → l.goodBolts < 4096 → exec (.portBringupAdvance p) s = .next s) ∧
      (l.step = 5 → l.hello.isSome = true → ∃ t, exec (.portBringupAdvance p) s = .next t ∧ t.portState n = 4 ∧
        (t.link n).step = 6) ∧
      (l.step = 5 → l.hello = none → exec (.portBringupAdvance p) s = .next s) ∧
      (l.step = 6 → 64 ≤ l.results.length →
        let hi := l.results.foldl max 0
        ∃ t, exec (.portBringupAdvance p) s = .next t ∧ t.val (portKey n 9) = 4 * ceilDiv (hi * 5) 32 ∧
          t.val (portKey n 0x0A) = nsOfCycles (hi - l.results.foldl min hi) ∧
          (s.val (portKey n 0x0E) < nsOfCycles (hi - l.results.foldl min hi) → (t.link n).step = 106)) ∧
      (l.step = 7 → (∃ h, l.hello = some h ∧
          chooseProfile (jointRequest (s.val (portKey n 2)) h.profile.toNat) (s.portRtt n) s.farPorts = some 1) →
        ∃ t, exec (.portBringupAdvance p) s = .next t ∧ t.portState n = 5 ∧ t.portProfile n = 1) ∧
      (l.step = 7 → (∃ h r, l.hello = some h ∧ s.replayRegion n = some r ∧ r.state = .active ∧
          chooseProfile (jointRequest (s.val (portKey n 2)) h.profile.toNat) (s.portRtt n) s.farPorts = some 2) →
        ∃ t, exec (.portBringupAdvance p) s = .next t ∧ t.portState n = 5 ∧ t.portProfile n = 2) ∧
      (l.step = 7 → (∃ h, l.hello = some h ∧
          chooseProfile (jointRequest (s.val (portKey n 2)) h.profile.toNat) (s.portRtt n) s.farPorts = none) →
        ∃ t, exec (.portBringupAdvance p) s = .next t ∧ t.portState n = s.portState n ∧ (t.link n).step = 107 ∧
          0x1305 ∈ t.notedNow) ∧
      (l.step = 9 → ∃ t, exec (.portBringupAdvance p) s = .next t ∧ t.portState n = 6 ∧ (t.link n).step = 0)) ∧
    (2 ≤ s.portState n → s.portState n ≤ 5 → s.doffStep = 0 →
      (l.failures + 1 < s.val (portKey n 0x0F) → ∃ t, exec (.portTrainTimeout p) s = .next t ∧ t.portState n = 2 ∧
        t.link n = { step := 2, failures := l.failures + 1 }) ∧
      (s.val (portKey n 0x0F) ≤ l.failures + 1 → ∃ t, exec (.portTrainTimeout p) s = .next t ∧ t.portState n = 9)) ∧
    (s.portState n = 8 → s.doffStep = 0 →
      (s.val (portKey n 1) = 1 → ∃ t, exec (.portRetrain p) s = .next t ∧ t.portState n = 2 ∧ t.link n = { step := 1 }) ∧
      (s.val (portKey n 1) ≠ 1 → exec (.portRetrain p) s = .next s)) ∧
    (∀ (h : Hello), s.doffStep = 0 → s.portState n = 3 → l.step = 5 → h.moduleId.toNat ≠ s.moduleId →
      h.rankTx.toNat = s.val (portKey n 6) → h.rankExpected.toNat = s.val (portKey n 5) → steppingOk h.stepping = true →
      h.encrypt = s.encrypts → profilesConflict (s.val (portKey n 2)) h.profile.toNat = false →
      ∃ t, exec (.helloReceive p h) s = .next t ∧ (t.link n).hello = some h ∧ t.peerModule n = h.moduleId.toNat ∧
        t.portState n = 3) ∧
    (∀ (h : Hello), s.doffStep = 0 → s.portState n = 3 → l.step = 5 → h.moduleId.toNat ≠ s.moduleId → h.rankTx.toNat ≠ s.val (portKey n 6) →
      ∃ t, exec (.helloReceive p h) s = .next t ∧ (t.link n).hello = l.hello ∧ (t.link n).step = 105) ∧
    (∀ (q : QuadId) (l0 l1 l2 l3 : BitVec 16), s.doffStep = 0 → s.domain (domQuad q.val) = 1 →
      ∃ t, exec (.laserMeasure q l0 l1 l2 l3) s = .next t ∧
        t.laser q.val 0 = l0.toInt ∧ t.laser q.val 1 = l1.toInt ∧ t.laser q.val 2 = l2.toInt ∧ t.laser q.val 3 = l3.toInt ∧
        (∀ i, i < 8 → s.portUp (8 * q.val + i) = true → t.portState (8 * q.val + i) = if t.laserOk q.val then 6 else 8))

/-- Key agreement: HS1 and HS2 are checked and give the transcript, first secret and keys of R459; a right CONFIRM starts the
session; RK1 and RK2 give the next secret; the phases move on as R461 says; a message that is wrong or comes out of turn leaves
no keys; a phase that is late loses the port (R256, R458 to R462). A command's message stands for one assembled from KEY
blocks (log entry 5). -/
def Obligations.KeyAgreement : Prop :=
  ∀ (p : PortId) (s : State) (msg : List Byte),
    let n := p.val
    let lo := s.isLo n
    let taken := fun (kind : Nat) => ((s.dropMessage n kind).link n).keys
    let failed := fun (t : State) => (t.link n).keys = {} ∧ (t.link n).step = 108 ∧ t.portState n = 5 ∧ 0x1902 ∈ t.notedNow
    (s.keying n = true →
      (let m := (s.keyMessage n 1 0 msg).bytes
       let st := sliceBytes m 0 1568
       let eph := sliceBytes m 1568 1568
       let good := m.length = 3136 ∧ (taken 1).peerHs1 = [] ∧ peerDigest s n ≠ 0 ∧ digest64 st = peerDigest s n ∧
         Config.kemKeyOk st = true ∧ Config.kemKeyOk eph = true
       (good → ∃ t c d, exec (.hs1Receive p msg) s = .next t ∧ (t.link n).keys.peerHs1 = m ∧
         (t.link n).keys.hs2 = (Config.kemEncaps st c).1 ++ (Config.kemEncaps eph d).1 ∧
         (t.link n).keys.ownSecrets = (Config.kemEncaps st c).2 ++ (Config.kemEncaps eph d).2 ∧ t.portState n = 5) ∧
       (¬ good → ∃ t, exec (.hs1Receive p msg) s = .next t ∧ failed t)) ∧
      (let m := (s.keyMessage n 2 0 msg).bytes
       let k := taken 2
       let good := m.length = 3136 ∧ k.hs2 ≠ [] ∧ k.transcript = []
       let peer := Config.kemDecaps s.staticKey.2 (sliceBytes m 0 1568) ++ Config.kemDecaps k.ephKey (sliceBytes m 1568 1568)
       let tr := transcriptOf s n k m
       let s0 := shake256 64 (labelBytes "KX4 LINK S0" ++ tr ++ orderLo lo k.ownSecrets peer)
       (good → ∃ t, exec (.hs2Receive p msg) s = .next t ∧ (t.link n).keys.transcript = tr ∧ (t.link n).keys.secret = s0 ∧
         (t.link n).keys.material = [(0, phaseKeys s0)] ∧ (t.link n).keys.confirmSent = true ∧ t.portState n = 5) ∧
       (¬ good → ∃ t, exec (.hs2Receive p msg) s = .next t ∧ failed t)) ∧
      (let m := (s.keyMessage n 3 0 msg).bytes
       let k := taken 3
       let good := m.length = 16 ∧ k.confirmSent = true ∧ m = confirmTag ((k.of 0).getD []) k.transcript (!lo)
       (good → ∃ t, exec (.confirmReceive p msg) s = .next t ∧ (t.link n).step = 9 ∧ (t.link n).keys.established = true) ∧
       (¬ good → ∃ t, exec (.confirmReceive p msg) s = .next t ∧ failed t)) ∧
      (∀ (b : Nat), getf (BitVec.ofNat 256 b) 232 12 ≠ (((s.link n).keys.part.map (·.next)).getD 0) → failed (s.takeKeyBlock n b))) ∧
    (∀ (phase : BitVec 2), rekeyOpen s n = true →
      let ended := fun (t : State) => (t.link n).keys.secret = [] ∧ (t.link n).keys.material = [] ∧ (t.link n).keys.due = true
      (let x := s.keyMessage n 4 phase.toNat msg
       let k := taken 4
       let good := x.phase = (k.secretPhase + 1) % 4 ∧ x.bytes.length = 1568 ∧ k.rkOwn = []
       (good → ∃ t c, exec (.rk1Receive p phase msg) s = .next t ∧
         (k.rkPeer = [] → (t.link n).keys.rkOwn = (Config.kemEncaps x.bytes c).2 ∧ (t.link n).keys.secretPhase = k.secretPhase) ∧
         (k.rkPeer ≠ [] → (Config.kemEncaps x.bytes c).2 ≠ [] → (t.link n).keys.secretPhase = k.secretPhase + 1 ∧
           (t.link n).keys.secret = shake256 64 (labelBytes "KX4 LINK RK" ++ k.secret ++
             orderLo lo (Config.kemEncaps x.bytes c).2 k.rkPeer))) ∧
       (¬ good → ∃ t, exec (.rk1Receive p phase msg) s = .next t ∧ ended t)) ∧
      (let x := s.keyMessage n 5 phase.toNat msg
       let k := taken 5
       let good := x.phase = (k.secretPhase + 1) % 4 ∧ x.bytes.length = 1568 ∧ k.rkPeer = []
       (∀ dk, good → k.rkKey = some dk → ∃ t, exec (.rk2Receive p phase msg) s = .next t ∧
         (k.rkOwn = [] → (t.link n).keys.rkPeer = Config.kemDecaps dk x.bytes ∧ (t.link n).keys.secretPhase = k.secretPhase) ∧
         (k.rkOwn ≠ [] → Config.kemDecaps dk x.bytes ≠ [] → (t.link n).keys.secretPhase = k.secretPhase + 1 ∧
           (t.link n).keys.secret = shake256 64 (labelBytes "KX4 LINK RK" ++ k.secret ++
             orderLo lo k.rkOwn (Config.kemDecaps dk x.bytes)))) ∧
       (¬ good ∨ k.rkKey = none → ∃ t, exec (.rk2Receive p phase msg) s = .next t ∧ ended t))) ∧
    (let k := (s.link n).keys
     k.established = true → s.doffStep = 0 →
      ((k.of (k.txPhase + 1)).isSome = true → ∃ t, exec (.keyPhaseChange p) s = .next t ∧
        (t.link n).keys.txPhase = k.txPhase + 1 ∧ (t.link n).keys.due = false) ∧
      (k.of (k.txPhase + 1) = none → exec (.keyPhaseChange p) s = .next (s.setKeys n { k with due := true })) ∧
      (k.due = true ∨ 2 ^ 30 ≤ k.phaseBolts → k.of (k.txPhase + 1) = none →
        ∃ t, exec (.linkRekeyTimeout p) s = .next t ∧ t.portState n = (if s.portState n = 7 then 1 else 8) ∧
          t.link n = { step := 0 } ∧ 0x1903 ∈ t.notedNow)) ∧
    (let k := (s.link n).keys
     ∃ t, exec (.acceptanceWindowClose p) s = .next t ∧ (t.link n).keys.rxPrevious = false ∧ t.dict = s.dict ∧
      ∀ m ∈ (t.link n).keys.material, min k.txPhase k.rxPhase ≤ m.1)

/-- Naps and probes: a port that carries packets sends numbered NAPs with its state, counts the NAPs it misses but not one that
a later one has overtaken, takes a new peer only between steps, and is LOST or closed in order when they stop; probes are
echoed, stamped as their bolt leaves, and their results kept in step 6 and shown while UP (R259, R263, R281 to R283). -/
def Obligations.LivenessAndProbes : Prop :=
  (∀ (now : DWord) (x : Probe), x.echoTs = 0 → x.echoHold = 0 → x.ts = 1 →
    stampBlock now (probeBlock x) = probeBlock { x with ts := now }) ∧
  (∀ (now : DWord) (x : Probe), x.ts = 0 → x.echoTs ≠ 0 →
    stampBlock now (probeBlock x) = probeBlock { x with echoHold := now.setWidth 32 - x.echoHold }) ∧
  ∀ (p : PortId) (s : State),
    let n := p.val
    let l := s.link n
    (s.portCarries n = true → l.closingNaps ≠ 1 →
      let nap : Nap := { moduleId := BitVec.ofNat 16 s.moduleId, port := BitVec.ofNat 5 n
                         state := if s.portState n = 6 then 0 else if l.closingNaps = 0 then 1 else 2
                         seq := BitVec.ofNat 16 l.napTx, profile := BitVec.ofNat 2 (s.portProfile n) }
      exec (.napSend p) s = .next ((s.setLink n { l with napTx := (l.napTx + 1) % 2 ^ 16, closingNaps := l.closingNaps - 1 }).sendBlocks
        n [napBlock nap])) ∧
    (∀ (nap : Nap), s.portCarries n = true → nap.state.toNat ≤ 2 →
      (nap.moduleId.toNat = s.peerModule n →
        ∃ t, exec (.napReceive p nap) s = .next t ∧ t.portState n = s.portState n ∧
          (l.napRx = none → (t.link n).napRx = some nap.seq.toNat) ∧
          ((t.link n).peerClosing = true ↔ l.peerClosing = true ∨ nap.state = 2) ∧
          ((t.link n).peerDraining = true ↔ l.peerDraining = true ∨ nap.state = 1) ∧
          (∀ q : BitVec 16, l.napRx = some q.toNat →
            let missed := (nap.seq - (q + 1)).toNat
            (missed < 2 ^ 15 → (t.link n).napRx = some nap.seq.toNat ∧ t.val (portKey n 0x18) =
              if missed = 0 then s.val (portKey n 0x18) else counterAfter (s.val (portKey n 0x18)) missed) ∧
            (2 ^ 15 ≤ missed → (t.link n).napRx = l.napRx ∧ t.val (portKey n 0x18) = s.val (portKey n 0x18)))) ∧
      (nap.moduleId.toNat ≠ s.peerModule n →
        ((∃ j, j < 4 ∧ s.stepRunning j = true) → ∃ t, exec (.napReceive p nap) s = .next t ∧
          t.portState n = if s.portState n = 7 then 1 else 8) ∧
        ((∀ j, j < 4 → s.stepRunning j = false) → ∃ t, exec (.napReceive p nap) s = .next t ∧
          t.portState n = s.portState n ∧ t.peerModule n = nap.moduleId.toNat ∧ 0x130D ∈ t.notedNow))) ∧
    (∀ (nap : Nap), 2 < nap.state.toNat → exec (.napReceive p nap) s = .next s) ∧
    (s.portUp n = true →
      (l.peerClosing = false → ∃ t, exec (.napTimeout p) s = .next t ∧ t.portState n = 8 ∧ t.link n = { step := 0 }) ∧
      (l.peerClosing = true → ∃ t, exec (.napTimeout p) s = .next t ∧ t.portState n = 2 ∧ t.link n = { step := 1 })) ∧
    (s.portState n = 4 ∨ s.portState n = 6 → s.doffStep = 0 →
      exec (.probeSend p) s = .next ((s.setLink n { l with probeId := (l.probeId + 1) % 256 }).sendBlocks n
        [probeBlock { id := BitVec.ofNat 8 l.probeId, ts := 1, echoTs := 0, echoHold := 0, echoId := 0 }])) ∧
    (∀ (pr : Probe), s.portTalks n = true →
      (pr.ts ≠ 0 → pr.echoTs = 0 → exec (.probeReceive p pr) s = .next (s.sendBlocks n
        [probeBlock { id := 0, ts := 0, echoTs := pr.ts, echoHold := (s.clock clkBand).setWidth 32, echoId := pr.id }])) ∧
      (pr.ts = 0 → pr.echoTs ≠ 0 →
        let r := (s.clock clkBand - pr.echoTs - pr.echoHold.setWidth 64).toNat
        (s.portState n = 4 → l.results.length < 64 →
          exec (.probeReceive p pr) s = .next (s.setLink n { l with results := l.results ++ [r] })) ∧
        (s.portState n = 6 → ∃ t, exec (.probeReceive p pr) s = .next t ∧ t.val (portKey n 0x0B) = nsOfCycles r ∧
          t.links = s.links ∧ (nsOfCycles r ≤ s.portRtt n + 1000 → t = s.setVal (portKey n 0x0B) (nsOfCycles r)) ∧
          (s.portRtt n + 1000 < nsOfCycles r → 0x1307 ∈ t.notedNow))))

/-- Received bolts, acknowledgement and resending: an expected bolt of a Near port whose body is whole packets hands exactly
those packets on; a bolt that fails its checks counts and, on a link whose session runs, NAKs; a NAK has every later bolt sent again, a SACK and the timer
the bolts that they name; GAP closes a gap; credits come back; a WITHDRAWN bolt of the peer loses the port (R253 to R258, R265
to R268). -/
def Obligations.BoltsAndRecovery : Prop :=
  ∀ (p : PortId) (s : State),
    let n := p.val
    let l := s.link n
    (∀ (b : Bolt) (ps : List Pkt) (a : Nat) (f : Option Nat), s.portTalks n = true → s.portProfile n ≠ 2 →
      b.corrected = 0 → boltSound b = true →
      let h := boltHead b.bytes
      let body := ps.flatMap pktBytes
      h.kind = 0 → h.first = 0 → h.seq = l.rxNext % 2 ^ 20 → openBolt s n h b.bytes = .plain body f →
      body.length = 484 → (∀ x ∈ ps, x.payload.length = x.length.toNat) → l.nakSince = none →
      a ≤ l.rxNext → l.runs = [{ first := a, next := l.rxNext, synced := true }] →
      ∃ t, exec (.boltReceive p b) s = .next t ∧ (t.link n).rxNext = l.rxNext + 1 ∧
        t.arrived = s.arrived ++ ps.map fun x => { port := some n, pkt := x, gap := 0, since := s.bandNow }) ∧
    (∀ (b : Bolt), s.portTalks n = true → s.portProfile n ≠ 2 → b.corrected = 0 → boltSound b = false →
      (boltHead b.bytes).kind ≤ 1 → l.naking = false → l.naks.length < 15 →
      ∃ t, exec (.boltReceive p b) s = .next t ∧ t.val (portKey n 0x14) = counterAfter (s.val (portKey n 0x14)) 1 ∧
        (t.link n).naking = s.framed n ∧ (t.link n).rxNext = l.rxNext ∧ t.arrived = s.arrived) ∧
    (∀ (b : Bolt), boltSound b = true → (boltHead b.bytes).kind = 3 → 2 ≤ s.portState n → s.portState n ≤ 7 →
      s.doffStep = 0 → leAt b.bytes 8 2 = s.peerModule n →
      ∃ t, exec (.withdrawnBoltReceive p b) s = .next t ∧ t.portState n = (if s.portState n = 7 then 1 else 8) ∧
        t.link n = { step := 0 }) ∧
    (∀ (seq : BitVec 20), s.portTalks n = true → s.portProfile n ≠ 2 →
      ∃ t more, exec (.nakReceive p seq) s = .next t ∧
        let kept := ((s.acknowledge n seq.toNat).link n).unacked
        (t.link n).unacked.map (·.count) = kept.map (·.count) ++ more ∧ ∀ b ∈ kept, Sent.bolt n b.bytes ∈ t.sent) ∧
    (∀ (cum : BitVec 20) (ranges : List SackRange), s.portTalks n = true → s.portProfile n = 2 →
      let kept := ((s.acknowledge n cum.toNat).link n).unacked
      (∀ b ∈ kept, b.sends < 8) →
      ∃ t, exec (.sackReceive p cum ranges) s = .next t ∧
        ∀ b ∈ kept, (∃ r ∈ ranges, inSack r b.count = true) → replayUnreadable s n b.count = false →
          Sent.bolt n b.bytes ∈ t.sent) ∧
    (∀ (seq : BitVec 20), s.portTalks n = true → s.portProfile n = 2 →
      (∀ b ∈ l.unacked, b.sends < 8) → ∃ t, exec (.retransmitTimeout p seq) s = .next t ∧
        ∀ b ∈ l.unacked, b.count % 2 ^ 20 = seq.toNat → replayUnreadable s n b.count = false → Sent.bolt n b.bytes ∈ t.sent) ∧
    (s.portTalks n = true → s.framed n = true → s.portProfile n = 2 → exec (.sackResend p) s = .next (if l.gaps.isEmpty then s
      else s.sendBlocks n [sackBlock l.rxNext (sackRanges (l.gaps.map (·.1)))])) ∧
    (∀ (seq : BitVec 20), let c := countNear l.frontier seq.toNat
      s.portTalks n = true → s.portProfile n = 2 → c < l.frontier → c ∈ l.gaps.map (·.1) →
      ∃ t, exec (.gapReceive p seq) s = .next t ∧ (t.link n).gaps = l.gaps.filter (·.1 != c)) ∧
    (∀ (vc : BitVec 4) (u : Word), s.portCarries n = true →
      let old := mapGet 0 l.credited vc.toNat
      let v := old + (u.toNat + 2 ^ 32 - old % 2 ^ 32) % 2 ^ 32
      v ≤ mapGet 0 l.sentUnits vc.toNat →
      exec (.creditReceive p vc [u]) s = .next (s.setLink n { l with credited := mapSet 0 l.credited vc.toNat v }))

/-! ### The fabric (R270 to R280, R297 to R307) -/

/-- Flows are numbered and their sequence numbers checked as R272 says: packets of one source, job stream, destination and
channel of origin are numbered from 0 modulo 2^24; h advances by 1 to 2^23 - 1 with the gap counted, anything else counts as
reordered; a flow that is not held starts again; the last 16,384 flows are held; and SEQ never drops a packet. -/
def Obligations.FlowSequences : Prop :=
  (∀ (p q : Pkt), flowKey p.src.toNat p.js.toNat p.dst.toNat p.origVc.toNat =
      flowKey q.src.toNat q.js.toNat q.dst.toNat q.origVc.toNat ↔
    p.src = q.src ∧ p.js = q.js ∧ p.dst = q.dst ∧ p.origVc = q.origVc) ∧
  State.reset.flowsTx = [] ∧
  ∀ (s : State) (p : Pkt),
    let k := flowKey p.src.toNat p.js.toNat p.dst.toNat p.origVc.toNat
    let n := mapGet 0 s.flowsTx k
    let seq := p.seq.toNat
    let t := s.countFlow p
    let rest := s.flowsRx.filter (·.1 != k)
    let held := fun (h : Nat) => (rest ++ [(k, h)]).drop (rest.length + 1 - 16384)
    (s.inject p).toSwitch = s.toSwitch ++ [{ p with seq := BitVec.ofNat 24 n }] ∧
    mapGet 0 (s.inject p).flowsTx k = (n + 1) % 2 ^ 24 ∧
    (∀ k', k' ≠ k → mapGet 0 (s.inject p).flowsTx k' = mapGet 0 s.flowsTx k') ∧
    (s.flowsRx.find? (·.1 == k) = none → t = { s with flowsRx := held seq }) ∧
    (∀ e, s.flowsRx.find? (·.1 == k) = some e →
      let d := (seq + 2 ^ 24 - e.2) % 2 ^ 24
      (1 ≤ d → d ≤ 2 ^ 23 - 1 → t.flowsRx = held seq ∧ t.val (fabricKey 0x10) = s.val (fabricKey 0x10) ∧
        t.val (fabricKey 0x0F) = if d = 1 then s.val (fabricKey 0x0F) else counterAfter (s.val (fabricKey 0x0F)) (d - 1)) ∧
      (d = 0 ∨ 2 ^ 23 ≤ d → t.flowsRx = held e.2 ∧ t.val (fabricKey 0x0F) = s.val (fabricKey 0x0F) ∧
        t.val (fabricKey 0x10) = counterAfter (s.val (fabricKey 0x10)) 1)) ∧
    (∀ (a : Arrived), packetOk a.pkt = true → channelNamed s a.pkt = true →
      (if a.pkt.kind = 3 ∨ a.pkt.kind = 4 then a.pkt.dst.toNat = s.moduleId else (s.route a.pkt.dst.toNat).kind = 1) →
      (switchPacket s a).handed = s.handed ++ [a])

/-- The switch hands a packet for this module on, those of a Near port in order, counts and drops a malformed one and one whose hops have run out, and queues
another at the port of its route with one hop less; the arbiter takes a head with credit, one of the first tier when such a
head is eligible, and its bytes and credits leave; a head that waits too long for credit enters the escape pair (R268, R269,
R271, R273 to R277, R306). -/
def Obligations.SwitchAndArbiter : Prop :=
  (∀ (s : State) (pkt : Pkt), s.doffStep = 0 → pkt ∈ s.toSwitch → packetOk pkt = true → pkt.kind ≠ 3 → pkt.kind ≠ 4 →
    (s.route pkt.dst.toNat).kind = 1 →
    ∃ t, exec (.packetSwitch none pkt) s = .next t ∧ t.toSwitch = removeFirst (· == pkt) s.toSwitch ∧
      t.handed = s.handed ++ [{ port := none, pkt := pkt, gap := 0, since := s.bandNow }]) ∧
  (∀ (s : State) (p : PortId) (pkt : Pkt) (a : Arrived),
    let is := fun (x : Arrived) => x.port == some p.val && x.pkt == pkt
    let e := s.route pkt.dst.toNat
    s.doffStep = 0 → s.arrived.find? is = some a →
    (s.portProfile p.val = 1 → ∀ b, s.arrived.find? (fun x => x.port == some p.val) = some b → b.pkt = pkt) →
    (packetOk pkt = true → pkt.kind ≠ 3 → pkt.kind ≠ 4 → e.kind = 1 →
      ∃ t, exec (.packetSwitch (some p) pkt) s = .next t ∧ t.arrived = removeFirst is s.arrived ∧ t.handed = s.handed ++ [a]) ∧
    (packetOk pkt = false ∨ channelNamed s pkt = false → ∃ t, exec (.packetSwitch (some p) pkt) s = .next t ∧ t.handed = s.handed ∧
      t.val (fabricKey 0x0E) = counterAfter (s.val (fabricKey 0x0E)) 1) ∧
    (packetOk pkt = true → pkt.kind ≠ 3 → pkt.kind ≠ 4 → e.kind ≠ 1 → pkt.hops = 0 →
      ∃ t, exec (.packetSwitch (some p) pkt) s = .next t ∧ t.handed = s.handed ∧
        t.val (fabricKey 0x0D) = counterAfter (s.val (fabricKey 0x0D)) 1) ∧
    (packetOk pkt = true → pkt.kind ≠ 3 → pkt.kind ≠ 4 → e.kind = 2 → e.ingress.testBit p.val = true → pkt.hops ≠ 0 →
      pkt.escaped = false → s.opportunistic = false → s.budgeted pkt = false → s.portUp e.port = true →
      ∃ t q, exec (.packetSwitch (some p) pkt) s = .next t ∧ (t.link e.port).queue = (s.link e.port).queue ++ [q] ∧
        q.pkt = { pkt with hops := pkt.hops - 1 } ∧ q.origin = some (p.val, pkt.vc.toNat) ∧ t.handed = s.handed)) ∧
  (∀ (s : State) (p : PortId) (q : Queued) (l' : Link),
    let n := p.val
    let l := s.link n
    choosePacket s n = some (q, l') →
    (q ∈ headsWithCredit s n ∧
      ((∃ h ∈ headsWithCredit s n, (h.queue = .vc0 ∨ h.queue = .vc1 ∨ h.queue = .report) ∧ (eligibleAt s n h).isSome = true) →
        q.queue = .vc0 ∨ q.queue = .vc1 ∨ q.queue = .report)) ∧
    (s.portCarries n = true → l.peerDraining = false → l.peerClosing = false →
      (budgetAtDeparture (s.setLink n (unqueue l' q s.bandNow)) q).isSome = true →
      ∃ t, exec (.packetDepart p) s = .next t ∧ (t.link n).queue = (unqueue l' q s.bandNow).queue ∧
        mapGet 0 (t.link n).sentUnits q.pkt.vc.toNat = mapGet 0 l.sentUnits q.pkt.vc.toNat + pktUnits q.pkt)) ∧
  (∀ (s : State) (p : PortId) (q : Queued) (rest : List Queued),
    let n := p.val
    let e := s.route q.pkt.dst.toNat
    (s.link n).queue = q :: rest → q.pkt.escaped = false → s.hasCredit n q.pkt.vc.toNat (pktUnits q.pkt) = false → e.kind = 2 →
    s.portUp e.esc = true →
    ∃ t, exec (.escapeTimeout p q.pkt.vc) s = .next t ∧
      ((t.link e.esc).queue.getLast?.map (·.pkt)) = some { q.pkt with escaped := true, vc := if e.dateline then 3 else 2 })

/-- A data packet of an open use is kept where it belongs and disarms nothing; one whose budget is spent ends the use; a tile
whose bytes have come is written to its slot when it verifies, and the last one completes the use; codec lanes pass to the
next client, four at most to one; other packets free their buffer (R268, R271, R291, R298, R299, R301, R331, R358, R370). -/
def Obligations.DataLanding : Prop :=
  (∀ (s : State) (p : PortId) (pkt : Pkt) (x : Schedule × Nat × Transfer),
    let a := (s.takeHanded p.val pkt).1
    let src := pkt.src.toNat
    let j := pkt.js.toNat
    let id := pkt.id.toNat
    let t := x.2.2
    let old := s.landing? src j id
    pkt.kind = 0 → s.landingOf src j id = some x →
    (groupChannel pkt.origVc.toNat = true → pkt.epoch.toNat = s.val (keyEpoch t.dstJs)) →
    (∀ l, old = some l → l.gen = pkt.gen.toNat ∧ l.phase = 0) →
    (pkt.tileIndex.toNat < t.tiles → (∀ l, old = some l → pkt.tileIndex.toNat ∉ l.landed ∧ l.commit = none) →
      (t.budget ≠ 0 → budgetOnArrival s a ≠ 0) →
      ∃ s' l part, exec (.dataPacketArrive p pkt) s = .next s' ∧ s'.landing? src j id = some l ∧ l.gen = pkt.gen.toNat ∧
        l.phase = 0 ∧ part ∈ l.parts ∧ part.tile = pkt.tileIndex.toNat ∧ (pkt.tileOffset.toNat, pkt.payload) ∈ part.pieces ∧
        (t.budget ≠ 0 → l.deadline.isSome = true) ∧ s'.handed = (s.takeHanded p.val pkt).2.handed ∧ s'.cores = s.cores) ∧
    (t.budget ≠ 0 → budgetOnArrival s a = 0 →
      ∃ s' l, exec (.dataPacketArrive p pkt) s = .next s' ∧ s'.landing? src j id = some l ∧ l.phase = 2 ∧
        s'.val (keyWithdrawn t.dstJs) = 1 ∧ s'.cores = s.cores)) ∧
  (∀ (s : State) (src : BitVec 16) (js : JsId) (id : XferId) (tile : BitVec 16) (t : Transfer) (l : Landing) (x : TilePart)
      (img : Tile),
    let n := tile.toNat
    let out := tileImage (landedForm img).1
    s.landingFrom src.toNat js.val id.toNat = some (t, l) → l.parts.find? (·.tile == n) = some x → l.phase = 0 →
    x.complete = true → (s.codec.any fun b => b.landing == some (l.src, l.js, l.id, x.tile)) = false →
    (∀ e, x.expiry = some e → s.bandNow < e) → s.mirrorOf t = none →
    s.domainWorks (domEdge (addrCrown (tileSlot t n).1)) = true →
    ((x.exact = false ∧ imageVerifies x.bytes (tileSlot t n).2 = true ∧
        img = { header := hdrOfBytes x.bytes, payload := x.bytes.drop 64 }) ∨
      (x.exact = true ∧ s.codecOn = true ∧ exactDecode x.bytes = some img ∧
        imageVerifies (tileImage img) (tileSlot t n).2 = true)) →
    ∃ s' l', exec (.tileLanded src js id tile) s = .next s' ∧ s'.readMem (tileSlot t n).1 out.length = out ∧
      SameOutside s s' (tileSlot t n).1 out.length ∧ s'.landing? src.toNat js.val id.toNat = some l' ∧
      l'.landed = l.landed ++ [n] ∧ (l'.phase = 1 ↔ ∀ i, i < t.tiles → i ∈ l'.landed) ∧ s'.cores = s.cores) ∧
  (∀ (s : State) (enc : Bool) (lane : Fin 128),
    let left := s.codec.filter fun j => !(j.encoder == enc && j.lane == some lane.val)
    let bare := fun (j : CodecJob) => ({ j with lane := none } : CodecJob)
    let lanes := fun (s : State) (c : Nat) => (s.codec.filter fun j => j.encoder == enc && j.client == c && j.lane.isSome).length
    ∃ t, exec (.codecBlockDone enc lane) s = .next t ∧ t.codec.map bare = left.map bare ∧ t.cores = s.cores ∧ t.mem = s.mem ∧
      ((∀ c, lanes s c ≤ 4) → ∀ c, lanes t c ≤ 4)) ∧
  (∀ (s : State) (p : PortId) (pkt : Pkt),
    let a := (s.takeHanded p.val pkt).1
    let freed := fun (t : State) => t.handed = (s.takeHanded p.val pkt).2.handed ∧ t.cores = s.cores ∧
      ∀ q, a.port = some q → mapGet 0 (t.link q).freed pkt.vc.toNat = mapGet 0 (s.link q).freed pkt.vc.toNat + pktUnits pkt
    (pkt.kind = 2 → ∃ t, exec (.mgmtPacketReceive p pkt) s = .next t ∧ freed t) ∧
    (pkt.kind = 5 → ∃ t, exec (.diagPacketReceive p pkt) s = .next t ∧ freed t))

/-- A DELIVERY retires its use at the source, a WITHDRAW ends the use at its destination and is counted for one that has ended
(log entry 55), the completion timer withdraws a late
use and tells its destination, the local deadline ends an incomplete one; each leaves other uses alone (R240, R301 to R303,
R387). -/
def Obligations.DeliveryAndDeadlines : Prop :=
  (∀ (s : State) (p : PortId) (pkt : Pkt), pkt.kind = 4 →
    let j := pkt.js.toNat
    let id := pkt.id.toNat
    let x := s.idState j id
    let other := fun (t : State) => ∀ j' id', j' * 2 ^ 20 + id' ≠ j * 2 ^ 20 + id → t.idState j' id' = s.idState j' id'
    (x.phase = 1 → x.gen = pkt.gen.toNat → ∃ t, exec (.deliveryReceive p pkt) s = .next t ∧ (t.idState j id).phase = 2 ∧
      (t.idState j id).gen = x.gen ∧ (t.idState j id).retired = s.bandNow ∧ other t ∧
      t.val (dsKey 0x0B) = counterAfter (s.val (dsKey 0x0B)) 1) ∧
    (x.phase ≠ 1 ∨ x.gen ≠ pkt.gen.toNat → ∃ t, exec (.deliveryReceive p pkt) s = .next t ∧ t.ids = s.ids)) ∧
  (∀ (s : State) (p : PortId) (pkt : Pkt) (x : Schedule × Nat × Transfer) (l : Landing), pkt.kind = 3 →
    let src := pkt.src.toNat
    let j := pkt.js.toNat
    let id := pkt.id.toNat
    s.landingOf src j id = some x → s.landing? src j id = some l → l.gen = pkt.gen.toNat → l.phase ≠ 2 →
    ∃ t l', exec (.withdrawReceive p pkt) s = .next t ∧ t.landing? src j id = some l' ∧ l'.phase = 2 ∧ l'.parts = [] ∧
      t.val (keyWithdrawn x.2.2.dstJs) = 1 ∧ t.cores = s.cores) ∧
  (∀ (s : State) (p : PortId) (pkt : Pkt) (x : Schedule × Nat × Transfer) (l : Landing), pkt.kind = 3 →
    let src := pkt.src.toNat
    let j := pkt.js.toNat
    let id := pkt.id.toNat
    s.landingOf src j id = some x → s.landing? src j id = some l → l.gen = pkt.gen.toNat → l.phase = 2 →
    ∃ t, exec (.withdrawReceive p pkt) s = .next t ∧ t.landings = s.landings ∧ t.cores = s.cores ∧ t.mem = s.mem ∧
      t.val (dsKey 0x0C) = counterAfter (s.val (dsKey 0x0C)) 1) ∧
  (∀ (s : State) (j : JsId) (id : XferId) (x : Schedule × Nat × Transfer),
    let u := s.idState j.val id.toNat
    s.sourcedAny j.val id.toNat = some x → u.phase = 1 → u.t0.isSome = true → x.2.2.budget ≠ 0 →
    ∃ t q, exec (.deadlineTx j id) s = .next t ∧ (t.idState j.val id.toNat).phase = 2 ∧ t.val (keyWithdrawn j.val) = 1 ∧
      t.toSwitch = s.toSwitch ++ [q] ∧ q.kind = 3 ∧ q.id = id ∧ q.dst = BitVec.ofNat 16 x.2.2.dst ∧ t.cores = s.cores) ∧
  (∀ (s : State) (src : BitVec 16) (js : JsId) (id : XferId) (t : Transfer) (l : Landing),
    s.landingFrom src.toNat js.val id.toNat = some (t, l) → l.phase = 0 → l.deadline.isSome = true →
    ∃ s' l', exec (.deadlineIncomplete src js id) s = .next s' ∧ s'.landing? src.toNat js.val id.toNat = some l' ∧
      l'.phase = 2 ∧ s'.val (keyWithdrawn t.dstJs) = 1 ∧ s'.cores = s.cores) ∧
  (∀ (s : State) (src : BitVec 16) (js : JsId) (id : XferId),
    ∃ t, exec (.inFlightBudgetExpire src js id) s = .next t ∧
      (∀ u, u ∈ t.seenUses ↔ u ∈ s.seenUses ∧ ¬ (u.src = src.toNat ∧ u.js = js.val ∧ u.id = id.toNat)) ∧
      t = { s with seenUses := t.seenUses })

/-- Admission of a schedule: LOADING, checked, its terms sent, WAITING until every source has sent FIT, then ACTIVE; a refusal
anywhere frees the row, is recorded and is told to the other members; a schedule that nothing uses is released (R292 to R296, R310, R487). -/
def Obligations.ScheduleAdmission : Prop :=
  ∀ (s : State) (rq : Rq),
    let refused := fun (t : State) (x : Schedule) (reason transfer : Nat) =>
      t.schedules = s.schedules.filter (·.row != x.row) ∧
      t.val (dsKey 4) = x.id + reason * 2 ^ 32 + transfer % 2 ^ 17 * 2 ^ 40
    let becomes := fun (t : State) (x z : Schedule) =>
      t.schedules = s.schedules.map fun o => if o.row = x.row then z else o
    (∀ (v : DWord) r, admits s rq 0x3400 1 → (∀ x ∈ s.schedules, x.state ≠ 1) → v.toNat < 2 ^ 48 → freeRow s = some r →
      ∃ t x, exec (.scheduleLoad rq v) s = setDone t rq 0x3400 1 ∧ t.schedules = s.schedules ++ [x] ∧ x.row = r ∧
        x.state = 1 ∧ x.addr = v.toNat ∧ readsCounted s t) ∧
    (∀ (v : DWord), admits s rq 0x3400 1 → (∃ x ∈ s.schedules, x.state = 1) →
      exec (.scheduleLoad rq v) s = setRefused s rq 0x3400 1 stBusy 0) ∧
    (∀ (sched : Word) x, s.schedules.find? (fun x => x.id == sched.toNat && x.state == 1) = some x →
      let mem := s.seen .firmware
      let h := BitVec.ofNat 512 (leAt (mem.readMem x.addr 64) 0 64)
      let bs := mem.readMem x.addr (schBytes h)
      let y := readSchedule x h bs
      readableImage s x.addr 64 = true → readableImage s x.addr (schBytes h) = true →
      mem.spanPoisoned x.addr (schBytes h) = false → imageRefused s x h bs = none →
      (∀ e, localRefusal s y = some e → ∃ t, exec (.scheduleLocalChecks sched) s = .next t ∧ refused t y e.1 e.2 ∧
        ∀ m ∈ y.members, m ≠ s.moduleId → Sent.nofit m y.id e.2 e.1 ∈ t.sent) ∧
      (localRefusal s y = none → sourcedHere s y = [] → (∃ m ∈ y.sources, m ∉ x.fits) →
        ∃ t z, exec (.scheduleLocalChecks sched) s = .next t ∧ becomes t x z ∧ z.state = 2 ∧ z.transfers = y.transfers ∧
          z.res = y.res ∧
          ∀ i u, y.transfers[i]? = some u → u.src ≠ s.moduleId → ownTerms s y i u ≠ [] →
            ∃ rs, Sent.admission u.src 0x20 y.id rs ∈ t.sent)) ∧
    (∀ (src : BitVec 16) (sched : Word) (recs : List AdmitRecord) x, recs ≠ [] → recs.length ≤ 127 →
      s.pendingSchedule sched.toNat = some x →
      let y := addTerms x src.toNat recs
      let own := sourcedHere s y
      (∃ m ∈ y.sources, m ∉ x.fits ∧ m ≠ s.moduleId) →
      ((∃ e ∈ own, termsComplete y e.1 e.2 = false) →
        ∃ t, exec (.admitTerms src sched recs) s = .next t ∧ becomes t x y ∧ t.sent = s.sent) ∧
      (x.state = 2 → x.answered = false → own ≠ [] → (∀ e ∈ own, termsComplete y e.1 e.2 = true) →
        ((∀ e ∈ own, budgetRefused s e.2 (admissionTime s y e.1 e.2) = false) →
          ∃ t z, exec (.admitTerms src sched recs) s = .next t ∧ becomes t x z ∧ z.state = 2 ∧ s.moduleId ∈ z.fits ∧
            ∀ m ∈ y.members, m ≠ s.moduleId → Sent.admission m 0x21 y.id [] ∈ t.sent) ∧
        (∀ e, own.find? (fun e => budgetRefused s e.2 (admissionTime s y e.1 e.2)) = some e →
          ∃ t, exec (.admitTerms src sched recs) s = .next t ∧ refused t x 7 e.1 ∧
            ∀ m ∈ y.members, m ≠ s.moduleId → Sent.nofit m y.id e.1 7 ∈ t.sent))) ∧
    (∀ (src : BitVec 16) (sched : Word) x, s.pendingSchedule sched.toNat = some x →
      (∃ t z, exec (.admitFit src sched) s = .next t ∧ becomes t x z ∧ src.toNat ∈ z.fits ∧ (∀ m ∈ x.fits, m ∈ z.fits) ∧
        (z.state = 3 ↔ x.state = 2 ∧ ∀ m ∈ x.sources, m ∈ z.fits)) ∧
      (∀ (transfer : BitVec 16) (reason : Byte), ∃ t, exec (.admitNofit src sched transfer reason) s = .next t ∧
        refused t x 8 transfer.toNat ∧ ∀ m ∈ x.members, m ≠ s.moduleId → Sent.nofit m x.id transfer.toNat 8 ∈ t.sent) ∧
      (∃ t, exec (.admitAbort src sched) s = .next t ∧ refused t x 8 0 ∧
        ∀ m ∈ x.members, m ≠ s.moduleId → Sent.nofit m x.id 0 8 ∈ t.sent) ∧
      (∃ t, exec (.admitTimeout sched) s = .next t ∧ refused t x 9 0 ∧
        ∀ m ∈ x.members, m ≠ s.moduleId → Sent.admission m 0x23 x.id [] ∈ t.sent)) ∧
    (∀ (v : Word) x, admits s rq 0x3400 2 → s.schedules.find? (·.id == v.toNat) = some x → 3 ≤ x.state →
      ((∀ t ∈ x.transfers, (t.src = s.moduleId → s.stepRunning t.srcJs = false ∧ (s.idState t.srcJs t.id).phase = 0) ∧
          (t.dst = s.moduleId → s.stepRunning t.dstJs = false)) →
        exec (.scheduleRelease rq v) s = setDone { s with schedules := s.schedules.filter (·.row != x.row) } rq 0x3400 2) ∧
      ((∃ t ∈ x.transfers, t.src = s.moduleId ∧ (s.idState t.srcJs t.id).phase ≠ 0) →
        exec (.scheduleRelease rq v) s = setRefused s rq 0x3400 2 stState 0))

/-- Route images: ROUTE_LOAD starts the check of a staged image, which ends VALID with its table and epoch staged or REFUSED with
the first failing condition; ROUTE_SWAP exchanges the two tables, whose packets under way keep their routes, and a second swap
restores them (R278 to R280, R455). -/
def Obligations.RouteImages : Prop :=
  ∀ (s : State) (rq : Rq),
    (∀ (v : DWord), admits s rq 0x3000 2 → s.stagedState ≠ 1 → v.toNat < 2 ^ 48 → swapPending s = false →
      readableImage s v.toNat routeImageBytes = true →
      ∃ t, exec (.routeLoad rq v) s = setDone t rq 0x3000 2 ∧ t.stagedState = 1 ∧ t.staged = [] ∧ t.routes = s.routes ∧
        t.routeAddr = v.toNat) ∧
    (∀ (v : DWord), admits s rq 0x3000 2 → s.stagedState = 1 → exec (.routeLoad rq v) s = setRefused s rq 0x3000 2 stBusy 0) ∧
    (s.stagedState = 1 →
      let mem := s.seen .firmware
      let bs := mem.readMem s.routeAddr routeImageBytes
      let header := BitVec.ofNat 512 (leAt bs 0 64)
      let vs := (List.range 65536).map fun d => leAt bs (64 + 8 * d) 8
      let crc := crcHeaderOk (bs.take 64) (bs.drop 64) && !mem.spanPoisoned s.routeAddr routeImageBytes
      (routeRefusal s header crc vs = none → ∃ t, exec .routeCheckDone s = .next t ∧ t.stagedState = 2 ∧
        (∀ d, d < 65536 → mapGet 0 t.staged d = leAt bs (64 + 8 * d) 8) ∧ t.val (fabricKey 6) = getf header 32 32 ∧
        t.routes = s.routes ∧ t.routeMeasure = extendDigest s.routeMeasure (leNat (shake256 64 bs))) ∧
      (∀ r d p, routeRefusal s header crc vs = some (r, d, p) → ∃ t, exec .routeCheckDone s = .next t ∧
        t.val (fabricKey 4) = 3 + 256 * r ∧ t.val (fabricKey 7) = d + 2 ^ 16 * p ∧ t.routes = s.routes)) ∧
    (admits s rq 0x3000 3 →
      (s.stagedState = 2 → ∃ t, exec (.routeSwap rq 1) s = setDone t rq 0x3000 3 ∧ t.routes = s.staged ∧
        t.staged = s.routes ∧ t.routeEpoch = s.val (fabricKey 6) ∧ t.val (fabricKey 6) = s.routeEpoch ∧ t.stagedState = 2 ∧
        t.links = s.links ∧ t.toSwitch = s.toSwitch ∧ t.arrived = s.arrived ∧ t.swapRoutes.routes = s.routes ∧
        t.swapRoutes.staged = s.staged) ∧
      (s.stagedState = 1 → exec (.routeSwap rq 1) s = setRefused s rq 0x3000 3 stBusy 0) ∧
      (s.stagedState ≠ 1 → s.stagedState ≠ 2 → exec (.routeSwap rq 1) s = setRefused s rq 0x3000 3 stState 0))

/-! ### Power and heat (R400 to R419) -/

/-- CAP_W, CAP_FORCE and CLOCK_MODE take what R402, R406 and R407 allow; a window puts CAP_W in force, records its readings,
marks and releases throttled sensors, and leaves every duty between 4 and 16 sixteenths and every hold at 16 at most; a change
of point completes; droops stretch the clock and are counted (R400, R402, R403, R406, R407, R413 to R418; that a sample above
the bounds of R403 is no window is the model's choice, log entry 61). -/
def Obligations.PowerManagement : Prop :=
  ∀ (s : State) (rq : Rq),
    let cap : Key := ⟨0x2000, 1, 0⟩
    let refusals : Key := ⟨0x2001, 1, 0⟩
    (∀ (v : Word), admits s rq 0x2000 1 →
      (s.floorW ≤ v.toNat → v.toNat ≤ 4000 → exec (.capWSet rq v) s = setDone (s.setVal cap v.toNat) rq 0x2000 1) ∧
      (v.toNat < 1220 ∨ 4000 < v.toNat → ∃ t, exec (.capWSet rq v) s = setRefused t rq 0x2000 1 stRange 0 ∧
        t.val cap = s.val cap ∧ t.val refusals = counterAfter (s.val refusals) 1) ∧
      (1220 ≤ v.toNat → v.toNat < s.floorW → ∃ t, exec (.capWSet rq v) s = setRefused t rq 0x2000 1 stState 0 ∧
        t.val cap = s.val cap ∧ t.val refusals = counterAfter (s.val refusals) 1)) ∧
    (∀ (v : Word), admits s rq 0x2000 2 →
      (s.floorW ≤ v.toNat → exec (.capForce rq v) s = setDone (s.setVal cap (min v.toNat 4000)) rq 0x2000 2) ∧
      (v.toNat < s.floorW → s.doffStep = 0 → s.mrstLow = false → s.thermTrip = false →
        ∃ t, exec (.capForce rq v) s = setDone t rq 0x2000 2 ∧ t.lifecycle = 6 ∧ t.doffStep = 3)) ∧
    (∀ (v : Byte), admits s rq 0x5000 1 → v.toNat ≤ 1 → (∀ j, j < 4 → s.stepRunning j = false) →
      (v = 1 → 1288 ≤ s.val cap) → (v = 0 → ∀ r ∈ s.rings, r.compute = 0 ∧ r.bwdCompute = 0) →
      exec (.clockModeSet rq v) s = setDone (s.setVal ⟨0x5000, 1, 0⟩ v.toNat) rq 0x5000 1) ∧
    (∀ (c : CrownId) e, s.opTarget.find? (·.1 == c.val) = some e →
      ∃ t, exec (.opChangeDone c) s = .next t ∧ t.val (opKey c.val) = e.2 ∧ (∀ x ∈ t.opTarget, x.1 ≠ c.val) ∧
        t.cores = s.cores) ∧
    (∀ (c : CrownId), c.val ∉ s.stretched → s.lifecycle ≠ 0 → s.lifecycle ≠ 6 →
      ∃ t, exec (.droopDetect c) s = .next t ∧ t.stretched = s.stretched ++ [c.val] ∧
        t.val ⟨0x2000, 0x12, c.val⟩ = counterAfter (s.val ⟨0x2000, 0x12, c.val⟩) 1) ∧
    (∀ (c : CrownId) (n : Nat), c.val ∈ s.stretched →
      ∃ t, exec (.droopRecovery c n) s = .next t ∧ c.val ∉ t.stretched ∧
        t.val ⟨0x2000, 0x13, c.val⟩ = counterAfter (s.val ⟨0x2000, 0x13, c.val⟩) n) ∧
    (∀ (w : WindowSample), inputHeld w s = false → exec (.powerWindow w) s = .next s) ∧
    (∀ (w : WindowSample), 3 ≤ s.lifecycle → s.lifecycle ≤ 5 → s.mrstLow = false → inputHeld w s = true →
      ∃ t, exec (.powerWindow w) s = .next t ∧ t.capNow = s.val cap ∧ t.notedNow = [] ∧ t.phaseMet = [] ∧
        t.val ⟨0x2000, 6, 0⟩ = f32OfRat (((w.inputMilliwatts : Nat) : Rat) / 1000) ∧
        (∀ k, k < 32 → 4 ≤ t.val (dutyKey k) ∧ t.val (dutyKey k) ≤ 16) ∧ (∀ c, c < 4 → t.val (holdKey c) ≤ 16) ∧
        (∀ e ∈ sensorReadings w, (9500 ≤ e.2 → e.1 ∈ t.hot) ∧ (e.2 < 9300 → e.1 ∉ t.hot)) ∧
        (∀ p, (t.link p).tagFails = 0) ∧ t.inputHistory.length ≤ max 9 s.inputHistory.length ∧ t.cores = s.cores ∧ t.mem = s.mem)

/-! ### Doffing (R420, R431 to R435, R464) -/

/-- Every cause of a doff abandons the work in flight, records itself in LAST_DOFF, sends its code on every port that carries
packets or is LOST, and leaves module memory alone; the bolts then end and everything goes OFF; a thermal trip goes there at
once, and so does one found in the window of another cause; a further cause is only recorded (R257, R420, R431, R432, R434,
R464). -/
def Obligations.DoffSequence : Prop :=
  ∀ (s : State), s.lifecycle ≠ 0 → s.mrstLow = false →
    let last := fun (t : State) => getf (BitVec.ofNat 512 (t.val ⟨0x7000, 7, 0⟩)) 496 16
    let abandoned := fun (t : State) => (∀ c, (t.core c).queues = [] ∧ (t.core c).flights = [] ∧ (t.core c).ctl.running = false) ∧
      t.increments = [] ∧ t.hbm = [] ∧ t.hbmWaiting = [] ∧ t.walks = [] ∧ t.toSwitch = [] ∧ t.arrived = [] ∧ t.handed = [] ∧
      t.landings = [] ∧ t.busMaster = false
    let gone := fun (s t : State) => t.doffStep = 5 ∧ t.lifeShown = 6 ∧ (∀ p, p < 32 → t.portState p = 0) ∧
      (∀ d, d < 72 → t.domain d = if keptDomain s d then s.domain d else 0) ∧ (∀ c, t.core c = {}) ∧
      ∀ a, a < hbmEnd → t.readByte a = s.readByte a
    (∀ (d : ClockDomain) (dom : DomainId) (al : AlarmCause) (i : Instr) (code : Nat),
      (i, code) ∈ [(.clockLoss d, 0x3801), (.watchdog, 0x3802), (.mgmtWatchdog, 0x3803), (.regFault dom, 0x3702),
        (.liningAlarm al, 0x3804)] → s.doffStep = 0 → s.thermTrip = false →
      ∃ t, exec i s = .next t ∧ t.lifecycle = 6 ∧ t.doffStep = 3 ∧ t.lifeShown = s.lifecycle ∧ last t = code ∧ abandoned t ∧
        t.mem = s.mem ∧ t.poison = s.poison ∧
        (∀ p, p < 32 → (s.portState p = 6 ∨ s.portState p = 7 ∨ s.portState p = 8) →
          Sent.withdrawnBolts p (withdrawnBytes s p code) ∈ t.sent) ∧
        (i = .regFault dom → t.domain dom.val = 4) ∧ (i = .mgmtWatchdog → t.inDoubt = true) ∧
        (i = .liningAlarm al → t.val liningKey = 4 ∧ t.val ⟨0x6000, 0x16, 0⟩ = alarmCode al ∧ ∀ p, (t.link p).keys = {})) ∧
    (∀ (sn : Sensor), s.doffStep = 0 → ∃ t, exec (.thermTrip sn) s = .next t ∧ t.thermTrip = true ∧ t.lifecycle = 6 ∧
      last t = 0x3703 ∧ gone s t) ∧
    (∀ (sn : Sensor), s.doffStep ≠ 0 → s.doffNow = true → s.thermTrip = false →
      ∃ t, exec (.thermTrip sn) s = .next t ∧ t.thermTrip = true ∧ last t = 0x3703 ∧ gone s t) ∧
    (s.doffStep = 3 → ∃ t, exec .doffWithdrawnEnd s = .next t ∧ t.doffStep = 4 ∧ t.dict = s.dict ∧ t.mem = s.mem ∧
      ∀ p, p < 32 → (s.portState p = 6 ∨ s.portState p = 7 ∨ s.portState p = 8) →
        Sent.idleBolts p (idleBolt s p) ∈ t.sent) ∧
    (s.doffStep = 4 → ∃ t, exec .doffIdleEnd s = .next t ∧ gone s t ∧ t.lifecycle = s.lifecycle ∧ last t = last s) ∧
    (s.doffStep ≠ 0 → s.val ⟨0x7000, 2, 0⟩ < 2 ^ 48 - 1 → s.val ⟨0x7000, 3, 0⟩ < 2 ^ 48 - 1 → ∃ t, exec .watchdog s = .next t ∧ t.doffStep = s.doffStep ∧ last t = last s ∧ t.sent = s.sent ∧
      t.lifecycle = s.lifecycle ∧ t.mem = s.mem)

/-! ### The lining (R449 to R466) -/

/-- The lining's commands: versions are only raised, keys are only added or revoked, ZEROISE and RETIRE leave no key, ENROL makes
a new one, a staging checks the image as R450 says and touches only the bank that does not run, and nothing of this runs while
a staging is under way (R449 to R454, R462, R465). -/
def Obligations.LiningCommands : Prop :=
  ∀ (s : State) (rq : Rq),
    (s.staging = false →
      (admits s rq 0x6000 5 → ∃ t, exec (.rollbackCommit rq 1) s = setDone t rq 0x6000 5 ∧
        t.val securityKey = max (s.val securityKey)
          (([1, 2, 3, 4, 5].filterMap fun k => (bootedImage s k).map fun x => x.2.1).foldl min 64)) ∧
      (admits s rq 0x6000 0x13 → ∃ t, exec (.zeroise rq 1) s = setDone t rq 0x6000 0x13 ∧ t.linkSeed = [] ∧
        t.storeSalt = [] ∧ t.drbg = none ∧ t.val liningKey = (if s.retired then 3 else 2) ∧ (∀ p, (t.link p).keys = {}) ∧
        ∀ p, p < 32 → (s.portState p = 5 ∨ s.portState p = 6) → t.portState p = 8) ∧
      (admits s rq 0x6000 0x14 → s.retired = false → ∃ t, exec (.enrol rq 1) s = setDone t rq 0x6000 0x14 ∧
        t.linkSeed.length = 64 ∧ t.storeSalt.length = 32 ∧ t.val liningKey = 1) ∧
      (admits s rq 0x6000 0x15 → ∃ t, exec (.retire rq 0xC0DEDEAD) s = setDone t rq 0x6000 0x15 ∧ t.retired = true ∧
        t.linkSeed = [] ∧ t.storeSalt = [] ∧ t.drbg = none ∧ t.val liningKey = 3 ∧ ∀ p, (t.link p).keys = {}) ∧
      (∀ (v : Word), admits s rq 0x6000 0x15 → v ≠ 0xC0DEDEAD → exec (.retire rq v) s = setRefused s rq 0x6000 0x15 stRange 0) ∧
      (∀ (d : List Byte) i, admits s rq 0x6000 0x0B → d.length = 64 →
        (List.range 4).find? (fun i => s.val (ownerKey i) == 0) = some i →
        exec (.ownerKeyAdd rq d) s = setDone (s.setVal (ownerKey i) (leNat d)) rq 0x6000 0x0B) ∧
      (∀ (slot : Byte), admits s rq 0x6000 0x0C → slot.toNat < 4 →
        exec (.ownerKeyRevoke rq slot) s = setDone (s.setVal revokedKey (s.val revokedKey ||| 2 ^ slot.toNat)) rq 0x6000 0x0C) ∧
      (∀ (v : DWord), admits s rq 0x6000 8 → v.toNat < 2 ^ 48 → readableHbm s v.toNat 64 = true →
        ∃ t, exec (.fwStage rq v) s = setDone t rq 0x6000 8 ∧ t.staging = true ∧ t.stageAddr = v.toNat ∧ t.bankA = s.bankA ∧
          t.bankB = s.bankB)) ∧
    (s.staging = true →
      (admits s rq 0x6000 0x13 → exec (.zeroise rq 1) s = setRefused s rq 0x6000 0x13 stBusy 0) ∧
      (let mem := s.seen .firmware
       let head := mem.readMem s.stageAddr 64
       let img := mem.readMem s.stageAddr (imgBytes head)
       imgHeaderOk head = true → readableHbm s s.stageAddr (imgBytes head) = true →
       mem.spanPoisoned s.stageAddr (imgBytes head) = false → s.bootBank ≤ 1 →
       ∃ t, exec .fwStageDone s = .next t ∧
         t.val stageKey = (match imageRefusal s img with | none => 2 | some r => 3 + 256 * r) ∧
         (t.bank (1 - s.bootBank)).written (imgKind img) = some img ∧ t.bank s.bootBank = s.bank s.bootBank)) ∧
    (∀ (v : Byte), admits s rq 0x6000 7 → v.toNat ≤ 1 → exec (.bootBankNextSet rq v) s =
      if v.toNat = s.bootBank ∨ bankFirm s (s.bank v.toNat) = true then setDone (s.setVal ⟨0x6000, 7, 0⟩ v.toNat) rq 0x6000 7
      else setRefused s rq 0x6000 7 stState 0) ∧
    (∀ (table : List Byte), admits s rq 0x6000 0x10 → table.length = 2048 →
      ((∀ p, p < 32 → (s.portState p = 5 ∨ s.portState p = 6) → leAt table (64 * p) 64 = s.val (peerKey p)) →
        ∃ t, exec (.peerKeyDigestSet rq table) s = setDone t rq 0x6000 0x10 ∧
          (∀ p, p < 32 → t.val (peerKey p) = leAt table (64 * p) 64) ∧ t.links = s.links) ∧
      ((∃ p, p < 32 ∧ (s.portState p = 5 ∨ s.portState p = 6) ∧ leAt table (64 * p) 64 ≠ s.val (peerKey p)) →
        exec (.peerKeyDigestSet rq table) s = setRefused s rq 0x6000 0x10 stState 0))

/-- The SPDM exchange: versions, capabilities and algorithms in order, certificates and measurements, requests that need a
signature through the signer's queue of one and four, large messages in parts; an early request is turned away (R455 to
R457; message codes are the model's choice, log entry 7). -/
def Obligations.SpdmExchange : Prop :=
  ∀ (s : State) (who : Requester), s.reachable = true →
    let c := s.conn who
    let turned := fun (t : State) (code : Byte) => t.sent = s.sent ++ [.spdm who 0x7F [code]] ∧ t.signing = s.signing
    let early := fun (i : Instr) => exec i s = .next (s.emit (.spdm who 0x7F [0x04]))
    let signed := fun (i : Instr) (code : Nat) (body : List Byte) =>
      ∃ t, exec i s = .next t ∧
        if s.retired = true then turned t 0x05
        else if 5 ≤ s.signing.length then turned t 0x03
        else t.signing = s.signing ++ [{ who := who, code := code, body := body, ack := [] }] ∧ t.sent = s.sent
    (∃ t, exec (.getVersion who) s = .next t ∧ spdmAnswered s t who 0x04 (Config.protocolBytes 0) ∧ (t.conn who).stage = 1) ∧
    (c.stage = 0 → early (.getCapabilities who)) ∧
    (1 ≤ c.stage → ∃ t, exec (.getCapabilities who) s = .next t ∧ spdmAnswered s t who 0x61 (Config.protocolBytes 1) ∧
      (t.conn who).stage = max 2 c.stage) ∧
    (∀ req, (c.stage < 2 → early (.negotiateAlgorithms who req)) ∧
      (2 ≤ c.stage → ∃ t, exec (.negotiateAlgorithms who req) s = .next t ∧
        spdmAnswered s t who 0x63 (Config.protocolBytes 2 ++ (spdmAlgorithms.filter (offers req)).flatten) ∧
        ((∀ a ∈ spdmAlgorithms, offers req a = true) → (t.conn who).stage = 3) ∧
        ((∃ a ∈ spdmAlgorithms, offers req a = false) → (t.conn who).stage = 2))) ∧
    (c.stage < 3 → early (.getDigests who) ∧ (∀ off len, early (.getCertificate who off len)) ∧
      (∀ nonce, early (.challenge who nonce)) ∧ (∀ i nonce, early (.getMeasurements who i nonce)) ∧
      ∀ h n last data, early (.chunkSend who h n last data)) ∧
    (3 ≤ c.stage →
      (∃ t, exec (.getDigests who) s = .next t ∧ spdmAnswered s t who 0x01 (shake256 64 certificate)) ∧
      (∀ (off len : BitVec 16), ∃ t, exec (.getCertificate who off len) s = .next t ∧
        let rest := certificate.drop off.toNat
        let part := rest.take len.toNat
        if rest = [] then turned t 0x01
        else spdmAnswered s t who 0x02 (natLe 2 part.length ++ natLe 2 (rest.length - part.length) ++ part)) ∧
      (∀ nonce, signed (.challenge who nonce) 0x03 (shake256 64 certificate ++ nonce)) ∧
      (∀ (i : Byte) (nonce : List Byte),
        (∀ b, measurementBlocks s i.toNat = some b →
          (nonce ≠ [] → signed (.getMeasurements who i nonce) 0x60 (b ++ nonce)) ∧
          (nonce = [] → s.retired = false → ∃ t, exec (.getMeasurements who i nonce) s = .next t ∧ spdmAnswered s t who 0x60 b) ∧
          (nonce = [] → s.retired = true → ∃ t, exec (.getMeasurements who i nonce) s = .next t ∧ turned t 0x05)) ∧
        (measurementBlocks s i.toNat = none → ∃ t, exec (.getMeasurements who i nonce) s = .next t ∧ turned t 0x01)) ∧
      (∀ (h : Byte) (n : BitVec 16) (bs data : List Byte),
        (n = 0 ∧ bs = []) ∨ (n ≠ 0 ∧ c.request = some (h.toNat, n.toNat, bs)) →
        let ack := h :: natLe 2 n.toNat
        let d : SpdmConn := { c with request := none }
        let ans := match spdmRequestOf (bs ++ data) with
          | some r => (spdmAnswer (s.setConn who d) d r).2
          | none => .error 0x07
        (∃ t, exec (.chunkSend who h n false data) s = .next t ∧ spdmAnswered s t who 0x05 ack ∧
          (t.conn who).request = some (h.toNat, n.toNat + 1, bs ++ data)) ∧
        (∃ t, exec (.chunkSend who h n true data) s = .next t ∧ (t.conn who).request = none ∧
          (∀ code body, ans = .reply code body → spdmAnswered s t who 0x05 (ack ++ BitVec.ofNat 8 code :: body)) ∧
          (∀ code, ans = .error code → spdmAnswered s t who 0x05 (ack ++ [0x7F, BitVec.ofNat 8 code])) ∧
          (∀ code body, ans = .signed code body → s.retired = false → s.signing.length < 5 →
            t.signing = s.signing ++ [{ who := who, code := code, body := body, ack := ack }] ∧ t.sent = s.sent))) ∧
      (∀ (h : Byte) (n : BitVec 16) (bs : List Byte), c.handle = h.toNat → c.response = some (n.toNat, bs) →
        ∃ t, exec (.chunkGet who h n) s = .next t ∧
          t.sent = s.sent ++ [.spdm who 0x06 (h :: natLe 2 n.toNat ++ bs.take (Config.spdmChunk + 1))] ∧
          (t.conn who).response = if bs.length ≤ Config.spdmChunk + 1 then none
            else some (n.toNat + 1, bs.drop (Config.spdmChunk + 1)))) ∧
    (∀ i, 1 ≤ i → i ≤ 8 → ∃ typ : Byte, 128 ≤ typ.toNat ∧
      measurementBlocks s i = some (1 :: BitVec.ofNat 8 i :: 1 :: (natLe 2 67 ++ [typ] ++ natLe 2 64 ++ natLe 64 (s.measurement i)))) ∧
    (∀ x rest, s.signing = x :: rest → ∃ t, exec .signingComplete s = .next t ∧ t.signing = rest ∧
      let b := x.body ++ Config.slhSign (BitVec.ofNat 8 x.code :: x.body)
      if x.ack = [] then spdmAnswered s t x.who x.code b
      else spdmAnswered s t x.who 0x05 (x.ack ++ BitVec.ofNat 8 x.code :: b))

/-! ### The dictionary: GET, SET, GET_RANGE, subscriptions (R469 to R486) -/

/-- A GET answers the value from its offset on, an unknown entry UNKNOWN; a SET in parts keeps each part and takes the whole at
the last one; GET_RANGE answers records of at most 4,096 bytes; MAINT_NONCE is remembered; a subscription is numbered anew,
sampled every window and notified when its condition holds and its interval is over (R476, R481 to R486). -/
def Obligations.DictionaryReads : Prop :=
  ∀ (s : State) (rq : Rq), s.reachable = true →
    let who := requesterId rq.who
    (headerWellFormed rq = true → ∀ (index : BitVec 16) (sub : Byte),
      let i := index.toNat
      let b := sub.toNat
      let k : Key := ⟨i, b, 0⟩
      (notReady s i true = false → entryOf i b = none → ∀ offset, ∃ t, exec (.get rq index sub offset) s = .next t ∧
        t = s.emit (.response rq.who 0x81 rq.tag stUnknown i b 0 false [])) ∧
      (∀ e, entryOf i b = some e → getRefusal s rq.who e i b = none → ¬ (i = 0x1100 ∧ b = 4) →
        let v := match derivedValue s i b with | some bs => bs | none => storedValue s e i b
        (∀ (offset : Word), notReady s i true = false → offset.toNat ≤ v.length → ∃ t, exec (.get rq index sub offset) s = .next t ∧
          readAnswered s t rq 1 i b stOk offset.toNat (decide (offset.toNat + 4096 < v.length))
            ((v.drop offset.toNat).take 4096) ∧ t.dict = s.dict ∧ t.mem = s.mem ∧ t.cores = s.cores) ∧
        (derivedValue s i b = none → b ≠ 0 → e.cells * max 1 e.rows = 1 → v = natLe e.width (s.val k)) ∧
        (s.lifecycle ≠ 2 → e.length ≤ 64 → v.length ≤ 64 → ∃ t, exec (.getRange rq index sub index sub) s = .next t ∧
          readAnswered s t rq 3 i b stOk 0 false (natLe 2 i ++ natLe 1 b ++ natLe 1 e.typ ++ natLe 2 e.length ++ [0, 0] ++
            padTo ((v.length + 3) / 4 * 4) v))) ∧
      (s.lifecycle ≠ 2 → ∀ (lastIndex : BitVec 16) (lastSub : Byte), ∃ t more data,
        exec (.getRange rq index sub lastIndex lastSub) s = .next t ∧ readAnswered s t rq 3 i b stOk 0 more data ∧
          data.length ≤ 4096 ∧ t.dict = s.dict ∧ t.mem = s.mem) ∧
      (s.lifecycle ≠ 2 → ∀ e (row interval : BitVec 16) (kind : Byte) (threshold : DWord), entryOf i b = some e →
        getRefusal s rq.who e i b = none → subscribable e = true →
        (if e.rows = 0 then row = 0 else row.toNat < e.rows) → kind.toNat ≤ 1 → interval ≠ 0 → interval.toNat ≤ 60000 →
        s.subscriptions.length < 64 → (s.subscriptions.filter fun x => requesterId x.who == who).length < 16 →
        ∃ t x, exec (.subscribe rq index sub row kind interval threshold) s = .next t ∧
          t.subscriptions = s.subscriptions ++ [x] ∧ readAnswered s t rq 4 i b stOk 0 false (natLe 2 x.number) ∧
          x.who = rq.who ∧ x.index = i ∧ x.sub = b ∧ x.row = row.toNat ∧ x.kind = kind.toNat ∧ x.interval = interval.toNat ∧
          x.reference = targetValue s e i b row.toNat ∧ x.sequence = 0 ∧ x.elapsed = none ∧
          ∀ y ∈ s.subscriptions, y.number ≠ x.number)) ∧
    (headerWellFormed rq = true → s.lifecycle ≠ 2 →
      (∃ t n, exec (.maintNonce rq) s = .next t ∧ t.nonces.find? (·.1 == who) = some (who, n) ∧
        readAnswered s t rq 1 0x1100 4 stOk 0 false (natLe 32 n.toNat) ∧ t.dict = s.dict) ∧
      ∀ (number : BitVec 16),
        let mine := fun (x : Subscription) => x.number == number.toNat && requesterId x.who == who
        s.subscriptions.any mine = true → ∃ t, exec (.unsubscribe rq number) s = .next t ∧
          t.subscriptions = s.subscriptions.filter (fun x => !mine x) ∧ readAnswered s t rq 5 0 0 stOk 0 false []) ∧
    (∀ (index : BitVec 16) (sub : Byte) (offset : Word) (data : List Byte) e,
      let i := index.toNat
      let b := sub.toNat
      let held := s.stagedFor who i b
      setRefusal s rq i b = none → entryBusy s i b = false → data.length ≤ 4096 → entryOf i b = some e →
      (offset = 0 → data.length ≤ e.length → ∃ t, exec (.set rq index sub offset false data) s = setDone t rq i b ∧
        t.stagedFor who i b = data ∧ t.dict = s.dict) ∧
      (offset.toNat = held.length → offset ≠ 0 → held.length + data.length ≤ e.length →
        ∃ t, exec (.set rq index sub offset false data) s = setDone t rq i b ∧ t.stagedFor who i b = held ++ data ∧
          t.dict = s.dict) ∧
      (offset.toNat = held.length → held.length + data.length = e.length →
        exec (.set rq index sub offset true data) s = match setValue rq.who i b (held ++ data) s with
          | .ok t => setDone (t.dropStaged who) rq i b
          | .refuse st d => setRefused s rq i b st d
          | .refuseIn t st d => setRefused t rq i b st d) ∧
      (held.length < offset.toNat ∨ e.length < offset.toNat + data.length →
        exec (.set rq index sub offset true data) s = setRefused (s.dropStaged who) rq i b stType 0)) ∧
    ∃ t, exec .subscriptionSample s = .next t ∧ t.subscriptions.length = s.subscriptions.length ∧ t.dict = s.dict ∧
      ∀ (n : Nat) (x : Subscription) (e : Entry), s.subscriptions[n]? = some x → entryOf x.index x.sub = some e →
        let v := targetValue s e x.index x.sub x.row
        let num := targetNum e (isFloatEntry e x.index x.sub)
        let due := ∀ m, x.elapsed = some m → x.interval ≤ m + 1
        (due → fires x (num v) (num x.reference) (num x.threshold) = true →
          t.subscriptions[n]? = some ({ x with reference := v, sequence := (x.sequence + 1) % 2 ^ 32, elapsed := some 0 }) ∧
          Sent.notify x.who x.index x.sub (natLe 2 x.number ++ [0, 0] ++ natLe 4 x.sequence ++
            natLe 8 (s.clock clkMgmt).toNat ++ natLe 8 v) ∈ t.sent) ∧
        (¬ due ∨ fires x (num v) (num x.reference) (num x.threshold) = false →
          t.subscriptions[n]? = some ({ x with elapsed := x.elapsed.map (· + 1) }))

/-! ### Maintenance, clears, MCTP (R439, R444, R474 to R479, R489) -/

/-- MAINT_CLAIM spends the nonce and gives the right where the proof holds; the right is released or lapses; STATE_REQUEST moves
between Ready and Maintenance; RESET is acknowledged; the clears empty what they name; MCTP control messages are answered
(R439, R444, R474 to R479, R489; their codes are the model's choice, log entries 7 and 48). -/
def Obligations.MaintenanceAndMctp : Prop :=
  ∀ (s : State) (rq : Rq),
    let id := requesterId rq.who
    (∀ (claim : List Byte), admits s rq 0x1100 5 → s.staging = false → claim.length = 29860 →
      (claim.getD 0 0).toNat ≤ 3 → leAt claim 1 3 = 0 →
      let slot := (claim.getD 0 0).toNat
      let key := (claim.drop 4).take 64
      let spent := fun (t : State) => t.nonces = mapErase s.nonces id
      (∀ n, s.val holderKey = 0 ∨ s.val holderKey = id → s.ownerOk slot = true → digest64 key = s.val (ownerKey slot) →
        s.nonces.find? (·.1 == id) = some n →
        ∃ t, spent t ∧ if Config.slhVerify key (claimText n.2 id) (claim.drop 68) = true then
            exec (.maintClaim rq claim) s = setDone t rq 0x1100 5 ∧ t.val holderKey = id
          else exec (.maintClaim rq claim) s = setRefused t rq 0x1100 5 stRight 5 ∧ t.dict = s.dict) ∧
      (s.val holderKey ≠ 0 → s.val holderKey ≠ id →
        ∃ t, exec (.maintClaim rq claim) s = setRefused t rq 0x1100 5 stRight 1 ∧ spent t ∧ t.dict = s.dict) ∧
      (s.val holderKey = 0 ∨ s.val holderKey = id → s.ownerOk slot = true → digest64 key = s.val (ownerKey slot) →
        s.nonces.find? (·.1 == id) = none →
        ∃ t, exec (.maintClaim rq claim) s = setRefused t rq 0x1100 5 stRight 4 ∧ t.dict = s.dict)) ∧
    (admits s rq 0x1100 6 →
      exec (.maintRelease rq 1) s = if s.holdsRight rq.who = true then setDone (s.setVal holderKey 0) rq 0x1100 6
        else setRefused s rq 0x1100 6 stRight 0) ∧
    (s.val holderKey ≠ 0 → exec .maintIdleTimeout s = .next (s.setVal holderKey 0)) ∧
    (∀ (who : Requester), ∃ t, exec (.maintNonceExpire who) s = .next t ∧ (∀ n ∈ t.nonces, n.1 ≠ requesterId who) ∧
      ∀ n ∈ s.nonces, n.1 ≠ requesterId who → n ∈ t.nonces) ∧
    (admits s rq 0x1100 1 →
      (s.lifecycle = 4 → ∃ t, exec (.stateRequest rq 3) s = setDone t rq 0x1100 1 ∧ t.lifecycle = 3 ∧ t.cores = s.cores ∧
        t.mem = s.mem) ∧
      (s.lifecycle = 3 → ∃ t, exec (.stateRequest rq 4) s = setDone t rq 0x1100 1 ∧ t.lifecycle = 4 ∧ t.cores = s.cores ∧
        t.mem = s.mem) ∧
      (s.lifecycle = 5 → exec (.stateRequest rq 3) s = setRefused s rq 0x1100 1 stState 0) ∧
      ∀ (v : Byte), v ≠ 3 → v ≠ 4 → exec (.stateRequest rq v) s = setRefused s rq 0x1100 1 stRange 0) ∧
    (admits s rq 0x1100 2 → exec (.reset rq 1) s = setDone { s with resetDue := true } rq 0x1100 2 ∧
      ∀ (v : Word), v ≠ 1 → exec (.reset rq v) s = setRefused s rq 0x1100 2 stRange 0) ∧
    (∀ (v : Word), admits s rq 0x8000 1 → v.toNat < 2 ^ 24 ∨ v = 0xFFFFFFFF →
      ∃ t, exec (.counterClear rq v) s = setDone t rq 0x8000 1 ∧ t = { s with dict := t.dict } ∧
        ∀ (k : Key), k.sub < 256 → k.row < 65536 →
          let named := v = 0xFFFFFFFF ∨ (k.index = v.toNat % 65536 ∧ (v.toNat / 65536 = 0xFF ∨ k.sub = v.toNat / 65536))
          ((∃ e, entryOf k.index k.sub = some e ∧ e.counter = true) → named → t.val k = 0) ∧
          ((∀ e, entryOf k.index k.sub = some e → e.counter = false) ∨ ¬ named → t.val k = s.val k)) ∧
    (admits s rq 0x7000 6 → exec (.faultLogClear rq 1) s = setDone { s with faultLog := [] } rq 0x7000 6) ∧
    (s.reachable = true → ∀ (tr : Transport),
      let answers := fun (i : Instr) (command : Nat) (body : List Byte) =>
        exec i s = .next (s.emit (.mctp tr command body))
      answers (.getEndpointId tr) 0x02 ([0, BitVec.ofNat 8 (s.eid tr)] ++ Config.protocolBytes 3) ∧
      (∀ (eid : Byte), ∃ t, exec (.setEndpointId tr eid) s = .next t ∧
        t.eid tr = (if tr = .vc0 ∧ s.eids.any (·.1 == transportCode .vc0) = true then s.eid tr else eid.toNat) ∧
        (∀ tr', tr' ≠ tr → t.eid tr' = s.eid tr') ∧
        t.sent = s.sent ++ [.mctp tr 0x01 ([0] ++ Config.protocolBytes 4 ++ [BitVec.ofNat 8 (t.eid tr)])]) ∧
      (∀ (ty : Byte), answers (.getMctpVersionSupport tr ty) 0x04
        (if ty = 0x00 ∨ ty = 0x05 ∨ ty = 0x7E ∨ ty = 0xFF then 0 :: Config.protocolBytes (0x100 + ty.toNat) else [0x80])) ∧
      answers (.getMessageTypeSupport tr) 0x05 [0, 3, 0x00, 0x05, 0x7E] ∧
      ∀ (sel : Byte), answers (.getVendorMessageSupport tr sel) 0x06
        (if sel = 0 then [0, 0xFF, 0, 0x1E, 0x4F] ++ Config.protocolBytes 5 else [0x02]))

/-! ### Host queues (R497 to R504) -/

/-- Queues are enabled and disabled, doorbells move them, after what the host has posted to BAR2, and each command fetched ends with one CQ entry of its own status:
NOP, TRIGGER, and copies, which are checked when they start and write exactly their span; messages of one vector keep their
distance (R194, R496 to R504, R506; that a copy moves its bytes at its end is the model's choice, log entry 41). -/
def Obligations.HostQueues : Prop :=
  ∀ (s : State) (q : QueueId),
    let n := q.val
    let x := s.hostQueue n
    let next := (x.sqHead + 1) % x.sqSize
    (∀ (v : Word), s.hostReady = true → bitf v 31 = true → x.state = 0 →
      let js := getf v 29 2
      let good := decide (s.val (keyJsState js) = 1 ∧ 4 ≤ getf v 17 4 ∧ getf v 17 4 ≤ 12 ∧ 4 ≤ getf v 13 4 ∧ getf v 13 4 ≤ 12)
      ∃ t, exec (.qcfgEnableSet q v) s = .next t ∧ t.hostQueue n = { sqBase := x.sqBase, cqBase := x.cqBase, cfg := setf v 0 13 0
                                                                     state := if good then 1 else 3
                                                                     error := if good then 0 else 4 } ∧
        (good = false → t.eventCause.testBit 2 = true)) ∧
    (∀ (v : Word), s.hostWrites = true → bitf v 31 = true → x.state ≠ 0 → exec (.qcfgEnableSet q v) s = .next s) ∧
    (∀ (v : Word), s.hostWrites = true → bitf v 31 = false →
      (x.state ≠ 0 → bitf x.cfg 31 = true → ∃ t, exec (.qcfgEnableClear q v) s = .next t ∧
        let y := t.hostQueue n
        y.avail = [] ∧ bitf y.cfg 31 = false ∧ (y.state = 0 ∨ y.state = 2) ∧ (y.state = 0 ↔ y.active = []) ∧
        (∀ c ∈ y.active, c.done.isSome = true) ∧ ((∃ c ∈ x.active, c.done = none) → t.val (keyWithdrawn x.js) = 1)) ∧
      (x.state = 0 → ∃ t, exec (.qcfgEnableClear q v) s = .next t ∧
        t.hostQueue n = { x with cfg := setf (setf v 0 13 0) 31 1 0 })) ∧
    (∀ (v : Word) (entries : List SqEntry), s.hostWrites = true → x.state = 1 →
      let tail := v.toNat % 65536
      (tail < x.sqSize → entries.length = (tail + x.sqSize - x.sqTail) % x.sqSize →
        exec (.sqTailDoorbell q v entries) s = .next (s.landPosted.setHostQueue n
          { x with sqTail := tail, avail := x.avail ++ entries.map fun e => BitVec.ofNat 512 (leAt e 0 64) })) ∧
      (x.sqSize ≤ tail → ∃ t, exec (.sqTailDoorbell q v entries) s = .next t ∧ (t.hostQueue n).state = 3 ∧
        (t.hostQueue n).error = 1 ∧ t.eventCause.testBit 2 = true)) ∧
    (∀ (v : Word), s.hostWrites = true → x.state = 1 →
      let head := v.toNat % 65536
      let valid := head < x.cqSize ∧ (head + x.cqSize - x.cqHead) % x.cqSize ≤ (x.cqTail + x.cqSize - x.cqHead) % x.cqSize
      (valid → (∀ c ∈ x.active, c.done = none) →
        exec (.cqHeadDoorbell q v) s = .next (s.landPosted.setHostQueue n { x with cqHead := head })) ∧
      (valid → ∀ c rest st d, x.active = c :: rest → c.done = some (st, d) → st < 256 → d < 2 ^ 64 → x.sqHead < 2 ^ 16 →
        (x.cqTail + 1) % x.cqSize ≠ head → s.busMaster = true →
        ∃ t, exec (.cqHeadDoorbell q v) s = .next t ∧ completionSent t n x x.sqHead c.entry st d) ∧
      (¬ valid → ∃ t, exec (.cqHeadDoorbell q v) s = .next t ∧ (t.hostQueue n).state = 3 ∧ (t.hostQueue n).error = 2)) ∧
    (∀ (e : BitVec 512), commandReady s n e →
      let op := getf e 0 8
      let addr := getf e 128 48
      let len := getf e 192 40
      let ends := fun (i : Instr) (status : Nat) => ∃ t, exec i s = .next t ∧ completionSent t n x next e status 0 ∧
        t.mem = s.mem ∧ (t.hostQueue n).avail = x.avail.drop 1 ∧ (t.hostQueue n).sqHead = next ∧
        (t.hostQueue n).active = x.active ∧ (t.hostQueue n).cqTail = (x.cqTail + 1) % x.cqSize ∧
        (t.hostQueue n).phase = if (x.cqTail + 1) % x.cqSize = 0 then !x.phase else x.phase
      let starts := fun (i : Instr) => ∃ t, exec i s = .next t ∧ t.mem = s.mem ∧
        (t.hostQueue n).active = x.active ++ [{ entry := e, token := s.nextToken }] ∧ (t.hostQueue n).sqHead = next
      (op = 0 → entryOk e = true → ends (.hostNop q) 0) ∧
      (op = 0 → entryOk e = false → ends (.hostNop q) 1) ∧
      (3 < op → ends (.hostNop q) 1) ∧
      (op = 3 → entryOk e = true → s.isSpare x.js = false →
        (s.startsSteps = true ∧ s.val (keyJsState x.js) = 1 ∧ s.val (keyTriggers x.js) < 15 → ends (.hostTrigger q) 0) ∧
        (¬ (s.startsSteps = true ∧ s.val (keyJsState x.js) = 1 ∧ s.val (keyTriggers x.js) < 15) → ends (.hostTrigger q) 5)) ∧
      (op = 1 → entryOk e = true → s.access (some x.js) addr len .host = true → starts (.copyIn q)) ∧
      (op = 1 → entryOk e = true → s.access (some x.js) addr len .host = false → ends (.copyIn q) 2) ∧
      (op = 1 → entryOk e = false → ends (.copyIn q) 1) ∧
      (op = 2 → entryOk e = true → s.access (some x.js) addr len .host = true → starts (.copyOut q)) ∧
      (op = 2 → entryOk e = true → s.access (some x.js) addr len .host = false → ends (.copyOut q) 2)) ∧
    (∀ (c : HostCommand) rest, x.active = c :: rest → c.done = none → (∀ d ∈ rest, d.done = none) → x.state = 1 →
      s.tokenBusy c.token = false → s.busMaster = true → s.hostWrites = true → x.cqRoom = true → x.sqHead < 2 ^ 16 →
      let e := c.entry
      let addr := getf e 128 48
      let len := getf e 192 40
      let done := fun (t : State) (status detail : Nat) =>
        completionSent t n x x.sqHead e status detail ∧ (t.hostQueue n).active = rest
      (s.access (some x.js) addr len .host = false → ∀ data res, ∃ t, exec (.copyComplete q 0 data res) s = .next t ∧
        done t 2 0 ∧ t.mem = s.mem) ∧
      (s.access (some x.js) addr len .host = true → getf e 0 8 = 1 → ∀ (data : List Byte),
        (data.length = len → ∃ t, exec (.copyComplete q 0 data .ok) s = .next t ∧ done t 0 len ∧
          t.readMem addr len = data ∧ SameOutside s t addr len) ∧
        (data.length < len → data.length % 64 = 0 → ∃ t, exec (.copyComplete q 0 data .hostError) s = .next t ∧
          done t 3 data.length ∧ t.readMem addr data.length = data ∧ SameOutside s t addr data.length)) ∧
      (s.access (some x.js) addr len .host = true → getf e 0 8 = 2 →
        ((∀ i, i < len / 64 → s.atomPoisoned (addr / 64 + i) = false) → ∀ data,
          ∃ t, exec (.copyComplete q 0 data .ok) s = .next t ∧ done t 0 len ∧
            Sent.hostWrite (getf e 64 64) (s.readMem addr len) ∈ t.sent ∧ t.mem = s.mem) ∧
        (∀ i, len % 64 = 0 → i < len / 64 → s.atomPoisoned (addr / 64 + i) = true → (∀ k, k < i → s.atomPoisoned (addr / 64 + k) = false) →
          ∀ data, ∃ t bs, exec (.copyComplete q 0 data .ok) s = .next t ∧ done t 4 (64 * i) ∧
            Sent.hostWrite (getf e 64 64) bs ∈ t.sent ∧ bs.length = len ∧ t.mem = s.mem ∧
            (∀ b, b < len → bs[b]? = some (if s.atomPoisoned (addr / 64 + b / 64) then 0 else s.readByte (addr + b)))))) ∧
    (∀ (v : Byte), v.toNat ∈ s.msixBusy →
      (v.toNat ∉ s.msixOwed → ∃ t, exec (.msixIntervalExpire v) s = .next t ∧ v.toNat ∉ t.msixBusy ∧ t.sent = s.sent) ∧
      (v.toNat ∈ s.msixOwed → v ≠ 0 → v.toNat ∉ s.msixPending → s.busMaster = true → s.msixEntry v.toNat / 2 ^ 96 % 2 = 0 →
        ∃ t, exec (.msixIntervalExpire v) s = .next t ∧ v.toNat ∈ t.msixBusy ∧ v.toNat ∉ t.msixOwed ∧
          t.sent = s.sent ++ [.msix v.toNat (s.msixEntry v.toNat % 2 ^ 64) (s.msixEntry v.toNat / 2 ^ 64 % 2 ^ 32)])) ∧
    ((∀ r ∈ s.hbm ++ s.hbmWaiting, r.who = .pcie → r.write = true → r.data = []) →
      s.landPosted.mem = s.mem ∧ s.landPosted.dict = s.dict ∧ s.landPosted.queues = s.queues) ∧
    ∀ (j : JsId) (v : Word), s.hostWrites = true → s.hostReady = true →
      (v = 1 → s.isSpare j.val = false → s.startsSteps = true → s.val (keyJsState j.val) = 1 → s.val (keyTriggers j.val) < 15 →
        exec (.jsDoorbell j v) s = .next (s.landPosted.setVal (keyTriggers j.val) (s.val (keyTriggers j.val) + 1))) ∧
      (v ≠ 1 → exec (.jsDoorbell j v) s = .next s)

/-! ### The window, BAR0, and resets of the interface (R494, R495, R505 to R508) -/

/-- A window entry is taken or refused; an access through it reads its page, or presents a write that a read of the host finds
there and nowhere else; counters are read and
cleared; EVENT_CAUSE is cleared by ones; registers without a row are read and written; the interface alone is reset (R194,
R209, R433, R494, R495, R505 to R508; reads of BAR0 without a row are no command, log entry 62). -/
def Obligations.HostWindow : Prop :=
  ∀ (s : State),
    (∀ (n : Fin 262144) (v : DWord), s.hostReady = true →
      let e := setf (setf v 48 14 0) 0 21 0
      let hosted := s.regions.any fun r =>
        r.state == .active && decide (r.tier ≤ 2) && r.host && r.holds (getf v 21 27 * 0x200000) 0x200000
      (n.val < 2 ^ (s.bar2Log2 - 21) → bitf v 63 = false ∨ hosted = true →
        ∃ t, exec (.windowEntryWrite n v) s = .next t ∧ t.windowEntry n.val = e ∧ t = { s with windows := t.windows } ∧
          ∀ m, m ≠ n.val → t.windowEntry m = s.windowEntry m) ∧
      (n.val < 2 ^ (s.bar2Log2 - 21) → bitf v 63 = true → hosted = false →
        ∃ t, exec (.windowEntryWrite n v) s = .next t ∧ t.windowEntry n.val = 0 ∧
          t.windowRefusals = min 0xFFFFFFFF (s.windowRefusals + 1) ∧ t.eventCause = s.eventCause ||| 16 ∧ t.mem = s.mem) ∧
      (2 ^ (s.bar2Log2 - 21) ≤ n.val → exec (.windowEntryWrite n v) s = .next s)) ∧
    (∀ (off : BitVec 39), s.barsRespond = true → off.toNat < 2 ^ s.bar2Log2 →
      let o := off.toNat
      let w := s.windowEntry (o / 0x200000)
      let a := getf w 21 27 * 0x200000 + o % 0x200000
      (∀ n, 0 < n → n ≤ 4096 → o % 4096 + n ≤ 4096 →
        (s.lifecycle = 6 → exec (.bar2Access off (.read n)) s = .next (s.emit (.readData (wordBytes 0xD0FFD0FF n)))) ∧
        (s.lifecycle ≠ 6 → bitf w 63 = false → ∃ t, exec (.bar2Access off (.read n)) s = .next t ∧
          Sent.readData (List.replicate n 0xFF) ∈ t.sent ∧ t.windowMisses = min 0xFFFFFFFF (s.windowMisses + 1) ∧
          t.mem = s.mem) ∧
        (s.lifecycle ≠ 6 → bitf w 63 = true → ∃ t data, exec (.bar2Access off (.read n)) s = .next t ∧
          Sent.readData data ∈ t.sent ∧ data.length = n ∧ t.mem = s.mem ∧
          ∀ i, i < n → (s.seen .pcie).atomPoisoned ((a + i) / 64) = false →
            data[i]? = some ((s.seen .pcie).readByte (a + i)))) ∧
      (∀ (d : List Byte), 0 < d.length → d.length ≤ 512 → o % 4096 + d.length ≤ 4096 →
        (s.lifecycle = 6 → exec (.bar2Access off (.write d)) s = .next s) ∧
        (s.lifecycle ≠ 6 → bitf w 63 = true → bitf w 62 = true → ∃ t, exec (.bar2Access off (.write d)) s = .next t ∧
          t.cores = s.cores ∧ t.mem = s.mem ∧
          ((∀ r ∈ s.hbmWaiting, r.write = false) → (t.seen .pcie).readMem a d.length = d ∧
            SameOutside (s.seen .pcie) (t.seen .pcie) a d.length)) ∧
        (s.lifecycle ≠ 6 → bitf w 63 = false ∨ bitf w 62 = false → ∃ t, exec (.bar2Access off (.write d)) s = .next t ∧
          t.windowMisses = min 0xFFFFFFFF (s.windowMisses + 1) ∧ t.eventCause = s.eventCause ||| 16 ∧ t.mem = s.mem))) ∧
    (∀ (n : Byte), s.linkUp = true → 30 ≤ n.toNat → n.toNat ≤ 39 →
      exec (.bar2Resize n) s = .next { s with bar2Log2 := n.toNat, windows := [] }) ∧
    (∀ (v : Word), s.hostWrites = true → ∃ t, exec (.eventCauseW1c v) s = .next t ∧ t = { s with eventCause := t.eventCause } ∧
      ∀ b, b < 5 → t.eventCause.testBit b = (s.eventCause.testBit b && !v.toNat.testBit b)) ∧
    (s.barsRespond = true → s.lifecycle ≠ 6 →
      exec .windowMissesRead s = .next (({ s with windowMisses := 0 } : State).emit (.readData (natLe 4 s.windowMisses))) ∧
      exec .windowRefusalsRead s =
        .next (({ s with windowRefusals := 0 } : State).emit (.readData (natLe 4 s.windowRefusals)))) ∧
    (s.barsRespond = true → s.lifecycle = 6 →
      exec .windowMissesRead s = .next (s.emit (.readData (natLe 4 0xD0FFD0FF))) ∧
      exec .windowRefusalsRead s = .next (s.emit (.readData (natLe 4 0xD0FFD0FF))) ∧
      ∀ off, off % 4 = 0 → bar0Read s off 4 = natLe 4 0xD0FFD0FF) ∧
    (s.lifecycle ≠ 6 → bar0Read s 8 4 = natLe 4 s.bar2Log2 ∧ bar0Read s 0x10 4 = natLe 4 s.eventCause ∧
      bar0Read s 0x14 4 = natLe 4 s.eventMask ∧
      ∀ q, q < 64 → bar0Read s (0x10000 + 64 * q) 8 = natLe 8 (s.hostQueue q).sqBase.toNat ∧
        bar0Read s (0x10000 + 64 * q + 8) 8 = natLe 8 (s.hostQueue q).cqBase.toNat ∧
        bar0Read s (0x10000 + 64 * q + 16) 4 = natLe 4 (s.hostQueue q).cfg.toNat) ∧
    (∀ (off : BitVec 26) (v : DWord), s.hostWrites = true →
      let o := off.toNat
      let q := (o - 0x10000) / 64
      (∀ n, n ≠ 4 → n ≠ 8 → exec (.bar0RegisterWrite off n v) s = .next s) ∧
      (∀ n, o % n ≠ 0 → exec (.bar0RegisterWrite off n v) s = .next s) ∧
      (o = 0x14 → ∃ t, exec (.bar0RegisterWrite off 4 v) s = .next t ∧ t.eventMask = v.toNat % 32 ∧
        t.eventCause = s.eventCause ∧ t.dict = s.dict ∧ t.queues = s.queues ∧ t.windows = s.windows ∧
        (s.eventCause &&& s.eventMask = 0 → s.eventCause &&& (v.toNat % 32) ≠ 0 → s.busMaster = true →
          s.msixEntry 0 / 2 ^ 96 % 2 = 0 →
          t.sent = s.sent ++ [.msix 0 (s.msixEntry 0 % 2 ^ 64) (s.msixEntry 0 / 2 ^ 64 % 2 ^ 32)])) ∧
      (0x10000 ≤ o → o < 0x11000 → o % 64 = 0 → exec (.bar0RegisterWrite off 8 v) s = .next
        (if (s.hostQueue q).state = 0 then s.setHostQueue q { s.hostQueue q with sqBase := setf v 0 12 0 } else s)) ∧
      (0x10000 ≤ o → o < 0x11000 → o % 64 = 8 → exec (.bar0RegisterWrite off 8 v) s = .next
        (if (s.hostQueue q).state = 0 then s.setHostQueue q { s.hostQueue q with cqBase := setf v 0 12 0 } else s)) ∧
      (0x31000 ≤ o → ∀ n, exec (.bar0RegisterWrite off n v) s = .next s)) ∧
    (s.linkUp = true → s.d3hot = false → s.lifecycle ≠ 6 →
      exec (.busMasterEnable false) s = .next { s with busMaster := false } ∧
      ∃ t, exec (.busMasterEnable true) s = .next t ∧ t.busMaster = true ∧ t.mem = s.mem ∧ t.dict = s.dict ∧
        ∀ v ∈ s.msixPending, s.msixEntry v / 2 ^ 96 % 2 = 0 →
          Sent.msix v (s.msixEntry v % 2 ^ 64) (s.msixEntry v / 2 ^ 64 % 2 ^ 32) ∈ t.sent) ∧
    (let resets := fun (i : Instr) => ∃ t, exec i s = .next t ∧ HostInterfaceReset t ∧ t.mem = s.mem ∧ t.cores = s.cores ∧
       t.regions = s.regions ∧ t.links = s.links ∧ t.lifecycle = s.lifecycle ∧
       (∀ q, q < 64 → (s.hostQueue q).state ≠ 0 → (t.hostQueue q).avail = [] ∧ (t.hostQueue q).active = []) ∧
       (i = .functionLevelReset → t.linkUp = s.linkUp) ∧ (i = .hotReset ∨ i = .perstNAssert → t.linkUp = false)
     (s.linkUp = true → resets .functionLevelReset ∧ resets .hotReset ∧
       exec .d3hotEntry s = .next { s with d3hot := true }) ∧
     (s.d3hot = true → resets .d3hotExit) ∧ (s.lifecycle ≠ 0 → resets .perstNAssert)) ∧
    exec .perstNRelease s = .next { s with perstLow := false } ∧
    (s.perstLow = false → s.mrstLow = false → s.lifecycle ≠ 0 → exec .pcieLinkUp s = .next { s with linkUp := true })

/-! ### Power-up, resets and pins (R451 to R453, R516, R517, R521 to R526) -/

/-- Power-up from each of its causes boots a bank whose images are valid, or stays Sequencing; bounds that are missed end it
as R523 says; resets lose everything volatile and keep what is Fused or Flash; MRST_N and the flash owner hold power-up; ENTDAA
takes an address (R451 to R453, R472, R515, R516, R521 to R526; that a sequence is one step is the model's choice, log entry
45). -/
def Obligations.PowerUp : Prop :=
  ∀ (s : State),
    let chosen := fun (x : State) => (x.afterReset 1).bootChoice false
    (∀ (i : PowerUpInputs), s.lifecycle = 0 → s.railFailures < 2 →
      (s.mrstLow = false → ∀ unit, i.missed = some (2, unit) → ∃ t, exec (.inputPowerOn i) s = .next t ∧ VolatileLost t ∧
        t.lifecycle = 0 ∧ t.railFailures = s.railFailures + 1) ∧
      (s.mrstLow = false → i.missed = none → i.selfTestOk = true → ∀ b f, chosen s = some (b, f) →
        ∃ t, exec (.inputPowerOn i) s = .next t ∧ Booted s t b 0 i.slotId.toNat ∧ t.inputOn = true ∧ t.railFailures = 0) ∧
      (s.mrstLow = false → i.missed = none → i.selfTestOk = false → ∃ t, exec (.inputPowerOn i) s = .next t ∧ VolatileLost t ∧ t.lifecycle = 1) ∧
      (s.mrstLow = false → i.missed = none → i.selfTestOk = true → chosen s = none →
        ∃ t, exec (.inputPowerOn i) s = .next t ∧ VolatileLost t ∧ t.lifecycle = 1) ∧
      (s.mrstLow = true → ∃ t, exec (.inputPowerOn i) s = .next t ∧ VolatileLost t ∧ t.lifecycle = 1 ∧ t.inputOn = true)) ∧
    (∀ (step : Nat) (unit : Byte), s.mrstLow = false → (s.lifecycle = 0 ∧ s.railFailures < 2) ∨ (s.resetDue = true ∧ s.inDoubt = false) →
      let cause := if s.lifecycle = 0 ∧ s.railFailures < 2 then 0 else 2
      (step = 2 → ∃ t, exec (.powerUpTimeout step unit) s = .next t ∧ VolatileLost t ∧ t.lifecycle = 0 ∧
        t.railFailures = s.railFailures + 1) ∧
      (step = 3 ∨ step = 4 → s.straps.selfTestOk = true → ∀ b f, (s.afterReset 1).bootChoice true = some (b, f) →
        ∃ t, exec (.powerUpTimeout step unit) s = .next t ∧ Booted s t b cause s.straps.slotId.toNat) ∧
      (6 ≤ step → step ≤ 9 → s.straps.selfTestOk = true → s.thermTrip = false → (chosen s).isSome = true →
        ∃ t, exec (.powerUpTimeout step unit) s = .next t ∧ t.lifecycle = 6 ∧ t.doffStep = 3 ∧
          getf (BitVec.ofNat 512 (t.val ⟨0x7000, 7, 0⟩)) 496 16 = 0x3802)) ∧
    (∃ t, exec .inputPowerOff s = .next t ∧ VolatileLost t ∧ DictKept s t ∧ t.lifecycle = 0 ∧ t.thermTrip = false ∧
      t.inputOn = false ∧ t.railFailures = 0 ∧ t.bankA = s.bankA ∧ t.bankB = s.bankB ∧ t.linkSeed = s.linkSeed ∧
      t.storeSalt = s.storeSalt ∧ t.drbg = none ∧ t.retired = s.retired) ∧
    (s.mrstLow = false → s.lifecycle ≠ 0 → ∃ t, exec .mrstNAssert s = .next t ∧ VolatileLost t ∧ DictKept s t ∧
      t.lifecycle = 1 ∧ t.mrstLow = true ∧ t.thermTrip = false ∧ t.linkUp = false ∧
      ∀ q, q < 4 → (q ∈ t.darkQuads ↔ s.lifecycle < 3 ∨ s.domainOn (domQuad q) = false)) ∧
    (∀ (i : PowerUpInputs), s.mrstLow = true → s.lifecycle ≠ 0 →
      (s.flOwnLow = false → i.missed = none → i.selfTestOk = true → ∀ b f, chosen s = some (b, f) →
        ∃ t, exec (.mrstNRelease i) s = .next t ∧ Booted s t b 1 i.slotId.toNat ∧ t.mrstLow = false ∧ t.darkQuads = []) ∧
      (s.flOwnLow = false → i.selfTestOk = true → s.thermTrip = false → (chosen s).isSome = true → ∀ step unit,
        i.missed = some (step, unit) → 6 ≤ step → step ≤ 9 → ∃ t, exec (.mrstNRelease i) s = .next t ∧ t.lifecycle = 6 ∧
          t.doffStep = 3 ∧ getf (BitVec.ofNat 512 (t.val ⟨0x7000, 7, 0⟩)) 496 16 = 0x3802) ∧
      (s.flOwnLow = true → exec (.mrstNRelease i) s =
        .next { s with mrstLow := false, darkQuads := [], straps := i, flHold := true })) ∧
    (∀ (a b : List ImageBytes), exec (.flOwnNChange false a b) s = .next { s with flOwnLow := true } ∧
      (s.flOwnLow = true → let x : State := { s with flOwnLow := false, bankA := trayBank s.bankA a, bankB := trayBank s.bankB b }
        (s.mrstLow = true → s.flHold = false → exec (.flOwnNChange true a b) s = .next x) ∧
        (s.flHold = true → s.straps.missed = none → s.straps.selfTestOk = true → ∀ k f, chosen x = some (k, f) →
          ∃ t, exec (.flOwnNChange true a b) s = .next t ∧ Booted s t k 1 s.straps.slotId.toNat ∧ t.flHold = false))) ∧
    (s.resetDue = true → s.mrstLow = false → s.inDoubt = false → s.straps.selfTestOk = true → ∀ b f, chosen s = some (b, f) →
      ∃ t, exec .resetDelayExpire s = .next t ∧ Booted s t b 2 s.straps.slotId.toNat ∧ t.resetDue = false) ∧
    (∀ (addr : BitVec 7), s.reachable = true → s.i3cAddr = none → ∃ t, exec (.entdaa addr) s = .next t ∧
      t.i3cAddr = some addr.toNat ∧ t.dict = s.dict ∧
      t.sent = s.sent ++ [.i3cId (BitVec.ofNat 48 (0x0A3D * 2 ^ 33 + 0x4B34 * 2 ^ 16 + s.val ⟨0x1000, 0x0A, 0⟩ % 64))])

/-! ### Encodings (R233, R252 to R254, R270) -/

/-- What the module builds it reads back: a sync message from its 32 bytes, a packet from its header and payload, packets from
a port's stream however its bolts cut it, and a bolt's header, body and tag from its 512 bytes, which pass the checks of R254
(R233, R252, R253, R254, R270). -/
def Obligations.EncodingsReadBack : Prop :=
  (∀ (m : Sync), m.kind ≤ 1 → m.srcJs < 4 → m.dstJs < 4 → m.srcCore < 256 → m.dstCore < 256 → m.sem < 256 → m.n < 2 ^ 16 →
    m.epoch < 2 ^ 32 → m.firstId < 2 ^ 20 → m.gen < 256 → m.count < 256 → m.lastTiles < 2 ^ 16 →
    (syncBytes m).length = 32 ∧ syncOk (syncBytes m) = true ∧ syncOf (syncBytes m) = m) ∧
  (∀ (p : Pkt), pktOf (pktHeader p) p.payload = p) ∧
  (∀ (ps : List Pkt) (xs : List Seg) (n : Nat), (∀ p ∈ ps, p.payload.length = p.length.toNat) → ps.length ≤ n →
    xs.flatMap (·.bytes) = ps.flatMap pktBytes →
    (parsePackets n xs).1.map (·.1) = ps ∧ segBytes (parsePackets n xs).2 = 0) ∧
  ∀ (kind phase seq ack first : Nat) (enc : Bool) (body tag : List Byte),
    kind ≤ 3 → phase < 4 → seq < 2 ^ 20 → ack < 2 ^ 20 → first < 512 → body.length = 484 → tag.length = 16 →
    let bs := closeBolt (boltHeader kind enc phase seq ack first) body tag
    bs.length = 512 ∧ boltSound { fecOk := true, bytes := bs } = true ∧
      boltHead bs = { kind := kind, enc := enc, phase := phase, seq := seq, ack := ack, first := first } ∧
      sliceBytes bs 8 484 = body ∧ sliceBytes bs 492 16 = tag

/-! ### The whole machine -/

/-- Every step keeps module memory and the poisoned atoms in their one form and the fault log within its 1,024 records (R444),
and takes exactly the front command off the queue. -/
def Obligations.MemoryStaysCanonical : Prop :=
  ∀ (s t : State), step s = .next t →
    (s.memOk = true → t.memOk = true) ∧ (s.faultLog.length ≤ 1024 → t.faultLog.length ≤ 1024) ∧ t.pending = s.pending.tail

/-- THERMTRIP_N is asserted only by the trip comparators, which are powered outside Off, and once asserted stays so until MRST_N
is asserted or the 48 V input is removed, and each of these releases it; a trip in a module that has doffed before its window
is recorded only (R431, R515). -/
def Obligations.ThermtripPin : Prop :=
  (∀ (c : Instr) (s t : State), exec c s = .next t →
    (s.thermTrip = false → t.thermTrip = true → ∃ sn, c = .thermTrip sn ∧ s.lifecycle ≠ 0) ∧
    (s.thermTrip = true → t.thermTrip = false → c = .mrstNAssert ∨ c = .inputPowerOff)) ∧
  ∀ (s : State),
    (∀ sn, s.lifecycle ≠ 0 → s.mrstLow = true ∨ s.doffStep = 0 ∨ s.doffNow = true →
      ∃ t, exec (.thermTrip sn) s = .next t ∧ t.thermTrip = true) ∧
    (∃ t, exec .inputPowerOff s = .next t ∧ t.thermTrip = false) ∧
    (s.mrstLow = false → ∃ t, exec .mrstNAssert s = .next t ∧ t.thermTrip = false)

/-- The state after reset: no command waits, memory reads zero without poison, every tile table entry is FREE and unbound,
semaphores and control registers read zero, banks are FREE, no region, schedule, step or host queue is in use, every port
trains. That the module is in Ready is the model's choice (log entry 1). -/
def Obligations.ResetState : Prop :=
  let s := State.reset
  s.pending = [] ∧ s.memOk = true ∧ s.lifecycle = 4 ∧ s.modOk = true ∧ s.thermTrip = false ∧ s.regions = [] ∧
    s.schedules = [] ∧ s.faultLog = [] ∧ s.bar2Log2 = 36 ∧
    (∀ a, s.readByte a = 0) ∧ (∀ n, s.atomPoisoned n = false) ∧
    (∀ c h, ((s.core c).tte h).state = .free ∧ ((s.core c).tte h).bound = false) ∧
    (∀ c n, (s.core c).sem n = 0) ∧ (∀ c r, (s.core c).reg r = 0) ∧
    (∀ c b, ((s.core c).bank b).state = .free ∧ ((s.core c).bank b).poison = false) ∧
    (∀ j, s.stepRunning j = false) ∧ (∀ p, p < 32 → s.portState p = 2) ∧
    (∀ q, (s.hostQueue q).state = 0 ∧ (s.hostQueue q).sqSize = 16 ∧ (s.hostQueue q).cqSize = 16) ∧
    ∀ n, s.windowEntry n = 0
end

