-- ==== Sys2Proof/Laws/Maps.lean ====
section
/-! SUPPORT. Sparse maps: reading after writing, and the canonical form that every operation keeps. -/
namespace Sys2Proof.Machine

section
variable {α : Type}

/-! ### Reading -/

@[simp] theorem mapGet_nil (d : α) (k : Nat) : mapGet d [] k = d := rfl

theorem mapGet_erase_same (d : α) (m : List (Nat × α)) (k : Nat) : mapGet d (mapErase m k) k = d := by
  induction m with
  | nil => rfl
  | cons e m ih =>
    simp only [mapErase] at ih ⊢
    by_cases h : e.1 = k
    · rw [List.filter_cons_of_neg (by simp [h])]; exact ih
    · rw [List.filter_cons_of_pos (by simp [h])]; simpa [mapGet, h] using ih

theorem mapGet_erase_other (d : α) (m : List (Nat × α)) {k k' : Nat} (h : k' ≠ k) :
    mapGet d (mapErase m k) k' = mapGet d m k' := by
  induction m with
  | nil => rfl
  | cons e m ih =>
    simp only [mapErase] at ih ⊢
    by_cases hk : e.1 = k
    · have : e.1 ≠ k' := fun he => h (he.symm.trans hk)
      rw [List.filter_cons_of_neg (by simp [hk])]; simpa [mapGet, this] using ih
    · rw [List.filter_cons_of_pos (by simp [hk])]; simp only [mapGet, ih]

theorem mapGet_insert_same (d : α) (m : List (Nat × α)) (k : Nat) (v : α) (hm : ∀ e ∈ m, e.1 ≠ k) :
    mapGet d (mapInsert k v m) k = v := by
  induction m with
  | nil => simp [mapInsert, mapGet]
  | cons e m ih =>
    have he := hm e (by simp)
    have := ih fun e' h' => hm e' (by simp [h'])
    by_cases hl : k < e.1 <;> simp [mapInsert, mapGet, hl, he, this]

theorem mapGet_insert_other (d : α) (m : List (Nat × α)) {k k' : Nat} (v : α) (h : k' ≠ k) :
    mapGet d (mapInsert k v m) k' = mapGet d m k' := by
  induction m with
  | nil => simp [mapInsert, mapGet, h.symm]
  | cons e m ih =>
    by_cases hl : k < e.1
    · simp [mapInsert, mapGet, hl, h.symm]
    · simp [mapInsert, mapGet, hl, ih]

theorem mapErase_ne (m : List (Nat × α)) (k : Nat) : ∀ e ∈ mapErase m k, e.1 ≠ k := by
  intro e he; simpa [mapErase] using (List.mem_filter.mp he).2

variable [DecidableEq α]

@[simp] theorem mapGet_set_same (d : α) (m : List (Nat × α)) (k : Nat) (v : α) : mapGet d (mapSet d m k v) k = v := by
  unfold mapSet
  split
  · next h => rw [mapGet_erase_same, h]
  · exact mapGet_insert_same d _ k v (mapErase_ne m k)

theorem mapGet_set_other (d d' : α) (m : List (Nat × α)) {k k' : Nat} (v : α) (h : k' ≠ k) :
    mapGet d' (mapSet d m k v) k' = mapGet d' m k' := by
  unfold mapSet
  split
  · exact mapGet_erase_other d' m h
  · rw [mapGet_insert_other d' _ v h, mapGet_erase_other d' m h]

theorem mapGet_set (d : α) (m : List (Nat × α)) (k k' : Nat) (v : α) :
    mapGet d (mapSet d m k v) k' = if k' = k then v else mapGet d m k' := by
  split
  · next h => subst h; exact mapGet_set_same d m k' v
  · next h => exact mapGet_set_other d d m v h

/-! ### Writing twice -/

omit [DecidableEq α] in
theorem mapErase_erase (m : List (Nat × α)) (k : Nat) : mapErase (mapErase m k) k = mapErase m k := by
  simp [mapErase, List.filter_filter]

omit [DecidableEq α] in
theorem mapErase_of_ne (m : List (Nat × α)) (k : Nat) (h : ∀ e ∈ m, e.1 ≠ k) : mapErase m k = m := by
  simpa [mapErase, List.filter_eq_self] using h

omit [DecidableEq α] in
theorem mapErase_insert (m : List (Nat × α)) (k : Nat) (v : α) (h : ∀ e ∈ m, e.1 ≠ k) :
    mapErase (mapInsert k v m) k = m := by
  induction m with
  | nil => simp [mapInsert, mapErase]
  | cons e m ih =>
    have he : e.1 ≠ k := h e (by simp)
    have hm : ∀ e' ∈ m, e'.1 ≠ k := fun e' h' => h e' (by simp [h'])
    by_cases hl : k < e.1
    · have : mapErase m k = m := mapErase_of_ne m k hm
      simp only [mapErase] at this
      simp [mapInsert, hl, mapErase, he, this]
    · have := ih hm
      simp only [mapErase] at this
      simp [mapInsert, hl, mapErase, he, this]

theorem mapSet_set (d : α) (m : List (Nat × α)) (k : Nat) (v w : α) :
    mapSet d (mapSet d m k v) k w = mapSet d m k w := by
  have h : mapErase (mapSet d m k v) k = mapErase m k := by
    unfold mapSet
    split
    · exact mapErase_erase m k
    · exact mapErase_insert _ k v (mapErase_ne m k)
  unfold mapSet at h ⊢
  rw [h]

/-! ### The canonical form -/

theorem mapWf_cons (d : α) (e : Nat × α) (m : List (Nat × α)) :
    mapWf d (e :: m) = true ↔ e.2 ≠ d ∧ (∀ e' ∈ m, e.1 < e'.1) ∧ mapWf d m = true := by
  simp [mapWf, and_assoc]

theorem mapWf_filter (d : α) (p : Nat × α → Bool) (m : List (Nat × α)) (h : mapWf d m = true) :
    mapWf d (m.filter p) = true := by
  induction m with
  | nil => rfl
  | cons e m ih =>
    rw [mapWf_cons] at h
    by_cases hp : p e = true
    · rw [List.filter_cons_of_pos hp, mapWf_cons]
      exact ⟨h.1, fun e' he' => h.2.1 e' (List.mem_filter.mp he').1, ih h.2.2⟩
    · rw [List.filter_cons_of_neg hp]; exact ih h.2.2

omit [DecidableEq α] in
theorem mem_mapInsert (m : List (Nat × α)) (k : Nat) (v : α) (e : Nat × α) :
    e ∈ mapInsert k v m ↔ e = (k, v) ∨ e ∈ m := by
  induction m with
  | nil => simp [mapInsert]
  | cons x m ih =>
    by_cases hl : k < x.1
    · simp [mapInsert, hl]
    · simp [mapInsert, hl, ih]
      constructor
      · rintro (h | h | h) <;> simp [h]
      · rintro (h | h | h) <;> simp [h]

theorem mapWf_insert (d : α) (m : List (Nat × α)) (k : Nat) (v : α) (hv : v ≠ d) (hm : ∀ e ∈ m, e.1 ≠ k)
    (h : mapWf d m = true) : mapWf d (mapInsert k v m) = true := by
  induction m with
  | nil => simp [mapInsert, mapWf, hv]
  | cons e m ih =>
    have he := hm e (by simp)
    have hmm : ∀ e' ∈ m, e'.1 ≠ k := fun e' h' => hm e' (by simp [h'])
    have h' := (mapWf_cons d e m).mp h
    by_cases hl : k < e.1
    · rw [mapInsert, if_pos hl, mapWf_cons]
      refine ⟨hv, fun e' he' => ?_, h⟩
      rcases List.mem_cons.mp he' with rfl | h2
      · exact hl
      · exact Nat.lt_trans hl (h'.2.1 e' h2)
    · rw [mapInsert, if_neg hl, mapWf_cons]
      refine ⟨h'.1, fun e' he' => ?_, ih hmm h'.2.2⟩
      rcases (mem_mapInsert m k v e').mp he' with rfl | h2
      · exact Nat.lt_of_le_of_ne (Nat.le_of_not_lt hl) he
      · exact h'.2.1 e' h2

theorem mapWf_set (d : α) (m : List (Nat × α)) (k : Nat) (v : α) (h : mapWf d m = true) :
    mapWf d (mapSet d m k v) = true := by
  unfold mapSet
  split
  · exact mapWf_filter d _ m h
  · next hv => exact mapWf_insert d _ k v hv (mapErase_ne m k) (mapWf_filter d _ m h)

theorem mapWf_span (d : α) (m : List (Nat × α)) (a n : Nat) (h : mapWf d m = true) :
    mapWf d (spanClear m a n) = true := mapWf_filter d _ m h

omit [DecidableEq α] in
theorem mapGet_span (d : α) (m : List (Nat × α)) (a n k : Nat) :
    mapGet d (spanClear m a n) k = if a ≤ k ∧ k < a + n then d else mapGet d m k := by
  induction m with
  | nil => simp [spanClear]
  | cons e m ih =>
    simp only [spanClear] at ih
    by_cases hp : a ≤ e.1 ∧ e.1 < a + n
    · simp only [spanClear, List.filter, hp.1, hp.2, decide_true, Bool.and_self, Bool.not_true]
      rw [ih]
      by_cases hk : e.1 = k
      · subst hk; simp [hp]
      · simp [mapGet, hk]
    · have hd : (!(decide (a ≤ e.1) && decide (e.1 < a + n))) = true := by
        by_cases h1 : a ≤ e.1 <;> by_cases h2 : e.1 < a + n <;> simp_all
      simp only [spanClear, List.filter, hd, mapGet, ih]
      by_cases hk : e.1 = k
      · subst hk; simp [hp]
      · simp only [hk, if_false]

end

/-! ### Bytes -/

theorem bytesSet_wf (m : List (Nat × Byte)) (a : Nat) (bs : List Byte) (h : mapWf 0 m = true) :
    mapWf 0 (bytesSet m a bs) = true := by
  induction bs generalizing m a with
  | nil => exact h
  | cons b bs ih => exact ih _ _ (mapWf_set 0 m a b h)

/-- A byte outside the bytes written reads as before. -/
theorem mapGet_bytesSet_outside (m : List (Nat × Byte)) (a : Nat) (bs : List Byte) (k : Nat)
    (h : k < a ∨ a + bs.length ≤ k) : mapGet 0 (bytesSet m a bs) k = mapGet 0 m k := by
  induction bs generalizing m a with
  | nil => rfl
  | cons b bs ih =>
    simp only [List.length_cons] at h
    rw [bytesSet, ih _ _ (by omega), mapGet_set_other]
    omega

/-- A byte inside the bytes written reads as written. -/
theorem mapGet_bytesSet_inside (m : List (Nat × Byte)) (a : Nat) (bs : List Byte) (i : Nat) (h : i < bs.length) :
    mapGet 0 (bytesSet m a bs) (a + i) = bs[i] := by
  induction bs generalizing m a i with
  | nil => simp at h
  | cons b bs ih =>
    cases i with
    | zero => rw [bytesSet, mapGet_bytesSet_outside _ _ _ _ (by omega)]; simp
    | succ i =>
      have := ih (mapSet 0 m a b) (a + 1) i (by simpa using h)
      simpa [bytesSet, Nat.add_assoc, Nat.add_comm 1 i] using this

end Sys2Proof.Machine
end

