-- ==== Sys2Proof/Laws/State.lean ====
section
/-! SUPPORT. What each named update of the state leaves of each field and reading, so that no proof unfolds a record
update; and readings after the update of what they read. -/
namespace Sys2Proof.Machine

section
variable (s : State)

/-! ### setVal -/

@[simp] theorem State.setVal_pending (k : Key) (v : Nat) : (s.setVal k v).pending = s.pending := rfl
@[simp] theorem State.setVal_tick (k : Key) (v : Nat) : (s.setVal k v).tick = s.tick := rfl
@[simp] theorem State.setVal_sent (k : Key) (v : Nat) : (s.setVal k v).sent = s.sent := rfl
@[simp] theorem State.setVal_cycles (k : Key) (v : Nat) : (s.setVal k v).cycles = s.cycles := rfl
@[simp] theorem State.setVal_mem (k : Key) (v : Nat) : (s.setVal k v).mem = s.mem := rfl
@[simp] theorem State.setVal_poison (k : Key) (v : Nat) : (s.setVal k v).poison = s.poison := rfl
@[simp] theorem State.setVal_cores (k : Key) (v : Nat) : (s.setVal k v).cores = s.cores := rfl
@[simp] theorem State.setVal_increments (k : Key) (v : Nat) : (s.setVal k v).increments = s.increments := rfl
@[simp] theorem State.setVal_steps (k : Key) (v : Nat) : (s.setVal k v).steps = s.steps := rfl
@[simp] theorem State.setVal_faultLog (k : Key) (v : Nat) : (s.setVal k v).faultLog = s.faultLog := rfl
@[simp] theorem State.setVal_frecSeq (k : Key) (v : Nat) : (s.setVal k v).frecSeq = s.frecSeq := rfl
@[simp] theorem State.setVal_notedNow (k : Key) (v : Nat) : (s.setVal k v).notedNow = s.notedNow := rfl
@[simp] theorem State.setVal_regions (k : Key) (v : Nat) : (s.setVal k v).regions = s.regions := rfl
@[simp] theorem State.setVal_hbm (k : Key) (v : Nat) : (s.setVal k v).hbm = s.hbm := rfl
@[simp] theorem State.setVal_hbmWaiting (k : Key) (v : Nat) : (s.setVal k v).hbmWaiting = s.hbmWaiting := rfl
@[simp] theorem State.setVal_nextToken (k : Key) (v : Nat) : (s.setVal k v).nextToken = s.nextToken := rfl
@[simp] theorem State.setVal_walks (k : Key) (v : Nat) : (s.setVal k v).walks = s.walks := rfl
@[simp] theorem State.setVal_codec (k : Key) (v : Nat) : (s.setVal k v).codec = s.codec := rfl
@[simp] theorem State.setVal_laneHolds (k : Key) (v : Nat) : (s.setVal k v).laneHolds = s.laneHolds := rfl
@[simp] theorem State.setVal_codecLast (k : Key) (v : Nat) : (s.setVal k v).codecLast = s.codecLast := rfl
@[simp] theorem State.setVal_phases (k : Key) (v : Nat) : (s.setVal k v).phases = s.phases := rfl
@[simp] theorem State.setVal_phaseMet (k : Key) (v : Nat) : (s.setVal k v).phaseMet = s.phaseMet := rfl
@[simp] theorem State.setVal_schedules (k : Key) (v : Nat) : (s.setVal k v).schedules = s.schedules := rfl
@[simp] theorem State.setVal_ids (k : Key) (v : Nat) : (s.setVal k v).ids = s.ids := rfl
@[simp] theorem State.setVal_landings (k : Key) (v : Nat) : (s.setVal k v).landings = s.landings := rfl
@[simp] theorem State.setVal_held (k : Key) (v : Nat) : (s.setVal k v).held = s.held := rfl
@[simp] theorem State.setVal_heldWaiting (k : Key) (v : Nat) : (s.setVal k v).heldWaiting = s.heldWaiting := rfl
@[simp] theorem State.setVal_seenUses (k : Key) (v : Nat) : (s.setVal k v).seenUses = s.seenUses := rfl
@[simp] theorem State.setVal_toSwitch (k : Key) (v : Nat) : (s.setVal k v).toSwitch = s.toSwitch := rfl
@[simp] theorem State.setVal_flowsTx (k : Key) (v : Nat) : (s.setVal k v).flowsTx = s.flowsTx := rfl
@[simp] theorem State.setVal_links (k : Key) (v : Nat) : (s.setVal k v).links = s.links := rfl
@[simp] theorem State.setVal_arrived (k : Key) (v : Nat) : (s.setVal k v).arrived = s.arrived := rfl
@[simp] theorem State.setVal_handed (k : Key) (v : Nat) : (s.setVal k v).handed = s.handed := rfl
@[simp] theorem State.setVal_flowsRx (k : Key) (v : Nat) : (s.setVal k v).flowsRx = s.flowsRx := rfl
@[simp] theorem State.setVal_routes (k : Key) (v : Nat) : (s.setVal k v).routes = s.routes := rfl
@[simp] theorem State.setVal_staged (k : Key) (v : Nat) : (s.setVal k v).staged = s.staged := rfl
@[simp] theorem State.setVal_colls (k : Key) (v : Nat) : (s.setVal k v).colls = s.colls := rfl
@[simp] theorem State.setVal_rings (k : Key) (v : Nat) : (s.setVal k v).rings = s.rings := rfl
@[simp] theorem State.setVal_prepared (k : Key) (v : Nat) : (s.setVal k v).prepared = s.prepared := rfl
@[simp] theorem State.setVal_contexts (k : Key) (v : Nat) : (s.setVal k v).contexts = s.contexts := rfl
@[simp] theorem State.setVal_stagedSets (k : Key) (v : Nat) : (s.setVal k v).stagedSets = s.stagedSets := rfl
@[simp] theorem State.setVal_subscriptions (k : Key) (v : Nat) : (s.setVal k v).subscriptions = s.subscriptions := rfl
@[simp] theorem State.setVal_nonces (k : Key) (v : Nat) : (s.setVal k v).nonces = s.nonces := rfl
@[simp] theorem State.setVal_inDoubt (k : Key) (v : Nat) : (s.setVal k v).inDoubt = s.inDoubt := rfl
@[simp] theorem State.setVal_pinned (k : Key) (v : Nat) : (s.setVal k v).pinned = s.pinned := rfl
@[simp] theorem State.setVal_linkSeed (k : Key) (v : Nat) : (s.setVal k v).linkSeed = s.linkSeed := rfl
@[simp] theorem State.setVal_routeAddr (k : Key) (v : Nat) : (s.setVal k v).routeAddr = s.routeAddr := rfl
@[simp] theorem State.setVal_maps (k : Key) (v : Nat) : (s.setVal k v).maps = s.maps := rfl
@[simp] theorem State.setVal_mapsNext (k : Key) (v : Nat) : (s.setVal k v).mapsNext = s.mapsNext := rfl
@[simp] theorem State.setVal_drainForced (k : Key) (v : Nat) : (s.setVal k v).drainForced = s.drainForced := rfl
@[simp] theorem State.setVal_replays (k : Key) (v : Nat) : (s.setVal k v).replays = s.replays := rfl
@[simp] theorem State.setVal_capNow (k : Key) (v : Nat) : (s.setVal k v).capNow = s.capNow := rfl
@[simp] theorem State.setVal_learned (k : Key) (v : Nat) : (s.setVal k v).learned = s.learned := rfl
@[simp] theorem State.setVal_modelRuns (k : Key) (v : Nat) : (s.setVal k v).modelRuns = s.modelRuns := rfl
@[simp] theorem State.setVal_hot (k : Key) (v : Nat) : (s.setVal k v).hot = s.hot := rfl
@[simp] theorem State.setVal_overheated (k : Key) (v : Nat) : (s.setVal k v).overheated = s.overheated := rfl
@[simp] theorem State.setVal_opTarget (k : Key) (v : Nat) : (s.setVal k v).opTarget = s.opTarget := rfl
@[simp] theorem State.setVal_stretched (k : Key) (v : Nat) : (s.setVal k v).stretched = s.stretched := rfl
@[simp] theorem State.setVal_thermTrip (k : Key) (v : Nat) : (s.setVal k v).thermTrip = s.thermTrip := rfl
@[simp] theorem State.setVal_doffStep (k : Key) (v : Nat) : (s.setVal k v).doffStep = s.doffStep := rfl
@[simp] theorem State.setVal_doffNow (k : Key) (v : Nat) : (s.setVal k v).doffNow = s.doffNow := rfl
@[simp] theorem State.setVal_patrolled (k : Key) (v : Nat) : (s.setVal k v).patrolled = s.patrolled := rfl
@[simp] theorem State.setVal_inputHistory (k : Key) (v : Nat) : (s.setVal k v).inputHistory = s.inputHistory := rfl
@[simp] theorem State.setVal_lastCounts (k : Key) (v : Nat) : (s.setVal k v).lastCounts = s.lastCounts := rfl
@[simp] theorem State.setVal_calibrations (k : Key) (v : Nat) : (s.setVal k v).calibrations = s.calibrations := rfl
@[simp] theorem State.setVal_enforced (k : Key) (v : Nat) : (s.setVal k v).enforced = s.enforced := rfl
@[simp] theorem State.setVal_lifeShown (k : Key) (v : Nat) : (s.setVal k v).lifeShown = s.lifeShown := rfl
@[simp] theorem State.setVal_inputOn (k : Key) (v : Nat) : (s.setVal k v).inputOn = s.inputOn := rfl
@[simp] theorem State.setVal_mrstLow (k : Key) (v : Nat) : (s.setVal k v).mrstLow = s.mrstLow := rfl
@[simp] theorem State.setVal_perstLow (k : Key) (v : Nat) : (s.setVal k v).perstLow = s.perstLow := rfl
@[simp] theorem State.setVal_darkQuads (k : Key) (v : Nat) : (s.setVal k v).darkQuads = s.darkQuads := rfl
@[simp] theorem State.setVal_flOwnLow (k : Key) (v : Nat) : (s.setVal k v).flOwnLow = s.flOwnLow := rfl
@[simp] theorem State.setVal_straps (k : Key) (v : Nat) : (s.setVal k v).straps = s.straps := rfl
@[simp] theorem State.setVal_flHold (k : Key) (v : Nat) : (s.setVal k v).flHold = s.flHold := rfl
@[simp] theorem State.setVal_railFailures (k : Key) (v : Nat) : (s.setVal k v).railFailures = s.railFailures := rfl
@[simp] theorem State.setVal_resetDue (k : Key) (v : Nat) : (s.setVal k v).resetDue = s.resetDue := rfl
@[simp] theorem State.setVal_bankA (k : Key) (v : Nat) : (s.setVal k v).bankA = s.bankA := rfl
@[simp] theorem State.setVal_bankB (k : Key) (v : Nat) : (s.setVal k v).bankB = s.bankB := rfl
@[simp] theorem State.setVal_storeSalt (k : Key) (v : Nat) : (s.setVal k v).storeSalt = s.storeSalt := rfl
@[simp] theorem State.setVal_drbg (k : Key) (v : Nat) : (s.setVal k v).drbg = s.drbg := rfl
@[simp] theorem State.setVal_drbgSeeds (k : Key) (v : Nat) : (s.setVal k v).drbgSeeds = s.drbgSeeds := rfl
@[simp] theorem State.setVal_retired (k : Key) (v : Nat) : (s.setVal k v).retired = s.retired := rfl
@[simp] theorem State.setVal_routeMeasure (k : Key) (v : Nat) : (s.setVal k v).routeMeasure = s.routeMeasure := rfl
@[simp] theorem State.setVal_storeOpened (k : Key) (v : Nat) : (s.setVal k v).storeOpened = s.storeOpened := rfl
@[simp] theorem State.setVal_stageAddr (k : Key) (v : Nat) : (s.setVal k v).stageAddr = s.stageAddr := rfl
@[simp] theorem State.setVal_spdm (k : Key) (v : Nat) : (s.setVal k v).spdm = s.spdm := rfl
@[simp] theorem State.setVal_signing (k : Key) (v : Nat) : (s.setVal k v).signing = s.signing := rfl
@[simp] theorem State.setVal_eids (k : Key) (v : Nat) : (s.setVal k v).eids = s.eids := rfl
@[simp] theorem State.setVal_i3cAddr (k : Key) (v : Nat) : (s.setVal k v).i3cAddr = s.i3cAddr := rfl
@[simp] theorem State.setVal_queues (k : Key) (v : Nat) : (s.setVal k v).queues = s.queues := rfl
@[simp] theorem State.setVal_windows (k : Key) (v : Nat) : (s.setVal k v).windows = s.windows := rfl
@[simp] theorem State.setVal_msixTable (k : Key) (v : Nat) : (s.setVal k v).msixTable = s.msixTable := rfl
@[simp] theorem State.setVal_msixPending (k : Key) (v : Nat) : (s.setVal k v).msixPending = s.msixPending := rfl
@[simp] theorem State.setVal_msixBusy (k : Key) (v : Nat) : (s.setVal k v).msixBusy = s.msixBusy := rfl
@[simp] theorem State.setVal_msixOwed (k : Key) (v : Nat) : (s.setVal k v).msixOwed = s.msixOwed := rfl
@[simp] theorem State.setVal_eventCause (k : Key) (v : Nat) : (s.setVal k v).eventCause = s.eventCause := rfl
@[simp] theorem State.setVal_eventMask (k : Key) (v : Nat) : (s.setVal k v).eventMask = s.eventMask := rfl
@[simp] theorem State.setVal_windowMisses (k : Key) (v : Nat) : (s.setVal k v).windowMisses = s.windowMisses := rfl
@[simp] theorem State.setVal_windowRefusals (k : Key) (v : Nat) : (s.setVal k v).windowRefusals = s.windowRefusals := rfl
@[simp] theorem State.setVal_bar2Log2 (k : Key) (v : Nat) : (s.setVal k v).bar2Log2 = s.bar2Log2 := rfl
@[simp] theorem State.setVal_busMaster (k : Key) (v : Nat) : (s.setVal k v).busMaster = s.busMaster := rfl
@[simp] theorem State.setVal_d3hot (k : Key) (v : Nat) : (s.setVal k v).d3hot = s.d3hot := rfl
@[simp] theorem State.setVal_linkUp (k : Key) (v : Nat) : (s.setVal k v).linkUp = s.linkUp := rfl
@[simp] theorem State.setVal_core (k : Key) (v : Nat) (c' : Nat) : (s.setVal k v).core c' = s.core c' := rfl
@[simp] theorem State.setVal_stepOf (k : Key) (v : Nat) (j' : Nat) : (s.setVal k v).stepOf j' = s.stepOf j' := rfl
@[simp] theorem State.setVal_clock (k : Key) (v : Nat) (i : Nat) : (s.setVal k v).clock i = s.clock i := rfl
@[simp] theorem State.setVal_readByte (k : Key) (v : Nat) (b : Nat) : (s.setVal k v).readByte b = s.readByte b := rfl
@[simp] theorem State.setVal_atomPoisoned (k : Key) (v : Nat) (b : Nat) : (s.setVal k v).atomPoisoned b = s.atomPoisoned b := rfl
@[simp] theorem State.setVal_link (k : Key) (v : Nat) (q' : Nat) : (s.setVal k v).link q' = s.link q' := rfl
@[simp] theorem State.setVal_hostQueue (k : Key) (v : Nat) (q' : Nat) : (s.setVal k v).hostQueue q' = s.hostQueue q' := rfl

/-! ### emit -/

@[simp] theorem State.emit_pending (x : Sent) : (s.emit x).pending = s.pending := rfl
@[simp] theorem State.emit_tick (x : Sent) : (s.emit x).tick = s.tick := rfl
@[simp] theorem State.emit_cycles (x : Sent) : (s.emit x).cycles = s.cycles := rfl
@[simp] theorem State.emit_dict (x : Sent) : (s.emit x).dict = s.dict := rfl
@[simp] theorem State.emit_mem (x : Sent) : (s.emit x).mem = s.mem := rfl
@[simp] theorem State.emit_poison (x : Sent) : (s.emit x).poison = s.poison := rfl
@[simp] theorem State.emit_cores (x : Sent) : (s.emit x).cores = s.cores := rfl
@[simp] theorem State.emit_increments (x : Sent) : (s.emit x).increments = s.increments := rfl
@[simp] theorem State.emit_steps (x : Sent) : (s.emit x).steps = s.steps := rfl
@[simp] theorem State.emit_faultLog (x : Sent) : (s.emit x).faultLog = s.faultLog := rfl
@[simp] theorem State.emit_frecSeq (x : Sent) : (s.emit x).frecSeq = s.frecSeq := rfl
@[simp] theorem State.emit_notedNow (x : Sent) : (s.emit x).notedNow = s.notedNow := rfl
@[simp] theorem State.emit_regions (x : Sent) : (s.emit x).regions = s.regions := rfl
@[simp] theorem State.emit_hbm (x : Sent) : (s.emit x).hbm = s.hbm := rfl
@[simp] theorem State.emit_hbmWaiting (x : Sent) : (s.emit x).hbmWaiting = s.hbmWaiting := rfl
@[simp] theorem State.emit_nextToken (x : Sent) : (s.emit x).nextToken = s.nextToken := rfl
@[simp] theorem State.emit_walks (x : Sent) : (s.emit x).walks = s.walks := rfl
@[simp] theorem State.emit_codec (x : Sent) : (s.emit x).codec = s.codec := rfl
@[simp] theorem State.emit_laneHolds (x : Sent) : (s.emit x).laneHolds = s.laneHolds := rfl
@[simp] theorem State.emit_codecLast (x : Sent) : (s.emit x).codecLast = s.codecLast := rfl
@[simp] theorem State.emit_phases (x : Sent) : (s.emit x).phases = s.phases := rfl
@[simp] theorem State.emit_phaseMet (x : Sent) : (s.emit x).phaseMet = s.phaseMet := rfl
@[simp] theorem State.emit_schedules (x : Sent) : (s.emit x).schedules = s.schedules := rfl
@[simp] theorem State.emit_ids (x : Sent) : (s.emit x).ids = s.ids := rfl
@[simp] theorem State.emit_landings (x : Sent) : (s.emit x).landings = s.landings := rfl
@[simp] theorem State.emit_held (x : Sent) : (s.emit x).held = s.held := rfl
@[simp] theorem State.emit_heldWaiting (x : Sent) : (s.emit x).heldWaiting = s.heldWaiting := rfl
@[simp] theorem State.emit_seenUses (x : Sent) : (s.emit x).seenUses = s.seenUses := rfl
@[simp] theorem State.emit_toSwitch (x : Sent) : (s.emit x).toSwitch = s.toSwitch := rfl
@[simp] theorem State.emit_flowsTx (x : Sent) : (s.emit x).flowsTx = s.flowsTx := rfl
@[simp] theorem State.emit_links (x : Sent) : (s.emit x).links = s.links := rfl
@[simp] theorem State.emit_arrived (x : Sent) : (s.emit x).arrived = s.arrived := rfl
@[simp] theorem State.emit_handed (x : Sent) : (s.emit x).handed = s.handed := rfl
@[simp] theorem State.emit_flowsRx (x : Sent) : (s.emit x).flowsRx = s.flowsRx := rfl
@[simp] theorem State.emit_routes (x : Sent) : (s.emit x).routes = s.routes := rfl
@[simp] theorem State.emit_staged (x : Sent) : (s.emit x).staged = s.staged := rfl
@[simp] theorem State.emit_colls (x : Sent) : (s.emit x).colls = s.colls := rfl
@[simp] theorem State.emit_rings (x : Sent) : (s.emit x).rings = s.rings := rfl
@[simp] theorem State.emit_prepared (x : Sent) : (s.emit x).prepared = s.prepared := rfl
@[simp] theorem State.emit_contexts (x : Sent) : (s.emit x).contexts = s.contexts := rfl
@[simp] theorem State.emit_stagedSets (x : Sent) : (s.emit x).stagedSets = s.stagedSets := rfl
@[simp] theorem State.emit_subscriptions (x : Sent) : (s.emit x).subscriptions = s.subscriptions := rfl
@[simp] theorem State.emit_nonces (x : Sent) : (s.emit x).nonces = s.nonces := rfl
@[simp] theorem State.emit_inDoubt (x : Sent) : (s.emit x).inDoubt = s.inDoubt := rfl
@[simp] theorem State.emit_pinned (x : Sent) : (s.emit x).pinned = s.pinned := rfl
@[simp] theorem State.emit_linkSeed (x : Sent) : (s.emit x).linkSeed = s.linkSeed := rfl
@[simp] theorem State.emit_routeAddr (x : Sent) : (s.emit x).routeAddr = s.routeAddr := rfl
@[simp] theorem State.emit_maps (x : Sent) : (s.emit x).maps = s.maps := rfl
@[simp] theorem State.emit_mapsNext (x : Sent) : (s.emit x).mapsNext = s.mapsNext := rfl
@[simp] theorem State.emit_drainForced (x : Sent) : (s.emit x).drainForced = s.drainForced := rfl
@[simp] theorem State.emit_replays (x : Sent) : (s.emit x).replays = s.replays := rfl
@[simp] theorem State.emit_capNow (x : Sent) : (s.emit x).capNow = s.capNow := rfl
@[simp] theorem State.emit_learned (x : Sent) : (s.emit x).learned = s.learned := rfl
@[simp] theorem State.emit_modelRuns (x : Sent) : (s.emit x).modelRuns = s.modelRuns := rfl
@[simp] theorem State.emit_hot (x : Sent) : (s.emit x).hot = s.hot := rfl
@[simp] theorem State.emit_overheated (x : Sent) : (s.emit x).overheated = s.overheated := rfl
@[simp] theorem State.emit_opTarget (x : Sent) : (s.emit x).opTarget = s.opTarget := rfl
@[simp] theorem State.emit_stretched (x : Sent) : (s.emit x).stretched = s.stretched := rfl
@[simp] theorem State.emit_thermTrip (x : Sent) : (s.emit x).thermTrip = s.thermTrip := rfl
@[simp] theorem State.emit_doffStep (x : Sent) : (s.emit x).doffStep = s.doffStep := rfl
@[simp] theorem State.emit_doffNow (x : Sent) : (s.emit x).doffNow = s.doffNow := rfl
@[simp] theorem State.emit_patrolled (x : Sent) : (s.emit x).patrolled = s.patrolled := rfl
@[simp] theorem State.emit_inputHistory (x : Sent) : (s.emit x).inputHistory = s.inputHistory := rfl
@[simp] theorem State.emit_lastCounts (x : Sent) : (s.emit x).lastCounts = s.lastCounts := rfl
@[simp] theorem State.emit_calibrations (x : Sent) : (s.emit x).calibrations = s.calibrations := rfl
@[simp] theorem State.emit_enforced (x : Sent) : (s.emit x).enforced = s.enforced := rfl
@[simp] theorem State.emit_lifeShown (x : Sent) : (s.emit x).lifeShown = s.lifeShown := rfl
@[simp] theorem State.emit_inputOn (x : Sent) : (s.emit x).inputOn = s.inputOn := rfl
@[simp] theorem State.emit_mrstLow (x : Sent) : (s.emit x).mrstLow = s.mrstLow := rfl
@[simp] theorem State.emit_perstLow (x : Sent) : (s.emit x).perstLow = s.perstLow := rfl
@[simp] theorem State.emit_darkQuads (x : Sent) : (s.emit x).darkQuads = s.darkQuads := rfl
@[simp] theorem State.emit_flOwnLow (x : Sent) : (s.emit x).flOwnLow = s.flOwnLow := rfl
@[simp] theorem State.emit_straps (x : Sent) : (s.emit x).straps = s.straps := rfl
@[simp] theorem State.emit_flHold (x : Sent) : (s.emit x).flHold = s.flHold := rfl
@[simp] theorem State.emit_railFailures (x : Sent) : (s.emit x).railFailures = s.railFailures := rfl
@[simp] theorem State.emit_resetDue (x : Sent) : (s.emit x).resetDue = s.resetDue := rfl
@[simp] theorem State.emit_bankA (x : Sent) : (s.emit x).bankA = s.bankA := rfl
@[simp] theorem State.emit_bankB (x : Sent) : (s.emit x).bankB = s.bankB := rfl
@[simp] theorem State.emit_storeSalt (x : Sent) : (s.emit x).storeSalt = s.storeSalt := rfl
@[simp] theorem State.emit_drbg (x : Sent) : (s.emit x).drbg = s.drbg := rfl
@[simp] theorem State.emit_drbgSeeds (x : Sent) : (s.emit x).drbgSeeds = s.drbgSeeds := rfl
@[simp] theorem State.emit_retired (x : Sent) : (s.emit x).retired = s.retired := rfl
@[simp] theorem State.emit_routeMeasure (x : Sent) : (s.emit x).routeMeasure = s.routeMeasure := rfl
@[simp] theorem State.emit_storeOpened (x : Sent) : (s.emit x).storeOpened = s.storeOpened := rfl
@[simp] theorem State.emit_stageAddr (x : Sent) : (s.emit x).stageAddr = s.stageAddr := rfl
@[simp] theorem State.emit_spdm (x : Sent) : (s.emit x).spdm = s.spdm := rfl
@[simp] theorem State.emit_signing (x : Sent) : (s.emit x).signing = s.signing := rfl
@[simp] theorem State.emit_eids (x : Sent) : (s.emit x).eids = s.eids := rfl
@[simp] theorem State.emit_i3cAddr (x : Sent) : (s.emit x).i3cAddr = s.i3cAddr := rfl
@[simp] theorem State.emit_queues (x : Sent) : (s.emit x).queues = s.queues := rfl
@[simp] theorem State.emit_windows (x : Sent) : (s.emit x).windows = s.windows := rfl
@[simp] theorem State.emit_msixTable (x : Sent) : (s.emit x).msixTable = s.msixTable := rfl
@[simp] theorem State.emit_msixPending (x : Sent) : (s.emit x).msixPending = s.msixPending := rfl
@[simp] theorem State.emit_msixBusy (x : Sent) : (s.emit x).msixBusy = s.msixBusy := rfl
@[simp] theorem State.emit_msixOwed (x : Sent) : (s.emit x).msixOwed = s.msixOwed := rfl
@[simp] theorem State.emit_eventCause (x : Sent) : (s.emit x).eventCause = s.eventCause := rfl
@[simp] theorem State.emit_eventMask (x : Sent) : (s.emit x).eventMask = s.eventMask := rfl
@[simp] theorem State.emit_windowMisses (x : Sent) : (s.emit x).windowMisses = s.windowMisses := rfl
@[simp] theorem State.emit_windowRefusals (x : Sent) : (s.emit x).windowRefusals = s.windowRefusals := rfl
@[simp] theorem State.emit_bar2Log2 (x : Sent) : (s.emit x).bar2Log2 = s.bar2Log2 := rfl
@[simp] theorem State.emit_busMaster (x : Sent) : (s.emit x).busMaster = s.busMaster := rfl
@[simp] theorem State.emit_d3hot (x : Sent) : (s.emit x).d3hot = s.d3hot := rfl
@[simp] theorem State.emit_linkUp (x : Sent) : (s.emit x).linkUp = s.linkUp := rfl
@[simp] theorem State.emit_val (x : Sent) (k' : Key) : (s.emit x).val k' = s.val k' := rfl
@[simp] theorem State.emit_core (x : Sent) (c' : Nat) : (s.emit x).core c' = s.core c' := rfl
@[simp] theorem State.emit_stepOf (x : Sent) (j' : Nat) : (s.emit x).stepOf j' = s.stepOf j' := rfl
@[simp] theorem State.emit_clock (x : Sent) (i : Nat) : (s.emit x).clock i = s.clock i := rfl
@[simp] theorem State.emit_readByte (x : Sent) (b : Nat) : (s.emit x).readByte b = s.readByte b := rfl
@[simp] theorem State.emit_atomPoisoned (x : Sent) (b : Nat) : (s.emit x).atomPoisoned b = s.atomPoisoned b := rfl
@[simp] theorem State.emit_link (x : Sent) (q' : Nat) : (s.emit x).link q' = s.link q' := rfl
@[simp] theorem State.emit_hostQueue (x : Sent) (q' : Nat) : (s.emit x).hostQueue q' = s.hostQueue q' := rfl

/-! ### setCore -/

@[simp] theorem State.setCore_pending (c : Nat) (x : Core) : (s.setCore c x).pending = s.pending := rfl
@[simp] theorem State.setCore_tick (c : Nat) (x : Core) : (s.setCore c x).tick = s.tick := rfl
@[simp] theorem State.setCore_sent (c : Nat) (x : Core) : (s.setCore c x).sent = s.sent := rfl
@[simp] theorem State.setCore_cycles (c : Nat) (x : Core) : (s.setCore c x).cycles = s.cycles := rfl
@[simp] theorem State.setCore_dict (c : Nat) (x : Core) : (s.setCore c x).dict = s.dict := rfl
@[simp] theorem State.setCore_mem (c : Nat) (x : Core) : (s.setCore c x).mem = s.mem := rfl
@[simp] theorem State.setCore_poison (c : Nat) (x : Core) : (s.setCore c x).poison = s.poison := rfl
@[simp] theorem State.setCore_increments (c : Nat) (x : Core) : (s.setCore c x).increments = s.increments := rfl
@[simp] theorem State.setCore_steps (c : Nat) (x : Core) : (s.setCore c x).steps = s.steps := rfl
@[simp] theorem State.setCore_faultLog (c : Nat) (x : Core) : (s.setCore c x).faultLog = s.faultLog := rfl
@[simp] theorem State.setCore_frecSeq (c : Nat) (x : Core) : (s.setCore c x).frecSeq = s.frecSeq := rfl
@[simp] theorem State.setCore_notedNow (c : Nat) (x : Core) : (s.setCore c x).notedNow = s.notedNow := rfl
@[simp] theorem State.setCore_regions (c : Nat) (x : Core) : (s.setCore c x).regions = s.regions := rfl
@[simp] theorem State.setCore_hbm (c : Nat) (x : Core) : (s.setCore c x).hbm = s.hbm := rfl
@[simp] theorem State.setCore_hbmWaiting (c : Nat) (x : Core) : (s.setCore c x).hbmWaiting = s.hbmWaiting := rfl
@[simp] theorem State.setCore_nextToken (c : Nat) (x : Core) : (s.setCore c x).nextToken = s.nextToken := rfl
@[simp] theorem State.setCore_walks (c : Nat) (x : Core) : (s.setCore c x).walks = s.walks := rfl
@[simp] theorem State.setCore_codec (c : Nat) (x : Core) : (s.setCore c x).codec = s.codec := rfl
@[simp] theorem State.setCore_laneHolds (c : Nat) (x : Core) : (s.setCore c x).laneHolds = s.laneHolds := rfl
@[simp] theorem State.setCore_codecLast (c : Nat) (x : Core) : (s.setCore c x).codecLast = s.codecLast := rfl
@[simp] theorem State.setCore_phases (c : Nat) (x : Core) : (s.setCore c x).phases = s.phases := rfl
@[simp] theorem State.setCore_phaseMet (c : Nat) (x : Core) : (s.setCore c x).phaseMet = s.phaseMet := rfl
@[simp] theorem State.setCore_schedules (c : Nat) (x : Core) : (s.setCore c x).schedules = s.schedules := rfl
@[simp] theorem State.setCore_ids (c : Nat) (x : Core) : (s.setCore c x).ids = s.ids := rfl
@[simp] theorem State.setCore_landings (c : Nat) (x : Core) : (s.setCore c x).landings = s.landings := rfl
@[simp] theorem State.setCore_held (c : Nat) (x : Core) : (s.setCore c x).held = s.held := rfl
@[simp] theorem State.setCore_heldWaiting (c : Nat) (x : Core) : (s.setCore c x).heldWaiting = s.heldWaiting := rfl
@[simp] theorem State.setCore_seenUses (c : Nat) (x : Core) : (s.setCore c x).seenUses = s.seenUses := rfl
@[simp] theorem State.setCore_toSwitch (c : Nat) (x : Core) : (s.setCore c x).toSwitch = s.toSwitch := rfl
@[simp] theorem State.setCore_flowsTx (c : Nat) (x : Core) : (s.setCore c x).flowsTx = s.flowsTx := rfl
@[simp] theorem State.setCore_links (c : Nat) (x : Core) : (s.setCore c x).links = s.links := rfl
@[simp] theorem State.setCore_arrived (c : Nat) (x : Core) : (s.setCore c x).arrived = s.arrived := rfl
@[simp] theorem State.setCore_handed (c : Nat) (x : Core) : (s.setCore c x).handed = s.handed := rfl
@[simp] theorem State.setCore_flowsRx (c : Nat) (x : Core) : (s.setCore c x).flowsRx = s.flowsRx := rfl
@[simp] theorem State.setCore_routes (c : Nat) (x : Core) : (s.setCore c x).routes = s.routes := rfl
@[simp] theorem State.setCore_staged (c : Nat) (x : Core) : (s.setCore c x).staged = s.staged := rfl
@[simp] theorem State.setCore_colls (c : Nat) (x : Core) : (s.setCore c x).colls = s.colls := rfl
@[simp] theorem State.setCore_rings (c : Nat) (x : Core) : (s.setCore c x).rings = s.rings := rfl
@[simp] theorem State.setCore_prepared (c : Nat) (x : Core) : (s.setCore c x).prepared = s.prepared := rfl
@[simp] theorem State.setCore_contexts (c : Nat) (x : Core) : (s.setCore c x).contexts = s.contexts := rfl
@[simp] theorem State.setCore_stagedSets (c : Nat) (x : Core) : (s.setCore c x).stagedSets = s.stagedSets := rfl
@[simp] theorem State.setCore_subscriptions (c : Nat) (x : Core) : (s.setCore c x).subscriptions = s.subscriptions := rfl
@[simp] theorem State.setCore_nonces (c : Nat) (x : Core) : (s.setCore c x).nonces = s.nonces := rfl
@[simp] theorem State.setCore_inDoubt (c : Nat) (x : Core) : (s.setCore c x).inDoubt = s.inDoubt := rfl
@[simp] theorem State.setCore_pinned (c : Nat) (x : Core) : (s.setCore c x).pinned = s.pinned := rfl
@[simp] theorem State.setCore_linkSeed (c : Nat) (x : Core) : (s.setCore c x).linkSeed = s.linkSeed := rfl
@[simp] theorem State.setCore_routeAddr (c : Nat) (x : Core) : (s.setCore c x).routeAddr = s.routeAddr := rfl
@[simp] theorem State.setCore_maps (c : Nat) (x : Core) : (s.setCore c x).maps = s.maps := rfl
@[simp] theorem State.setCore_mapsNext (c : Nat) (x : Core) : (s.setCore c x).mapsNext = s.mapsNext := rfl
@[simp] theorem State.setCore_drainForced (c : Nat) (x : Core) : (s.setCore c x).drainForced = s.drainForced := rfl
@[simp] theorem State.setCore_replays (c : Nat) (x : Core) : (s.setCore c x).replays = s.replays := rfl
@[simp] theorem State.setCore_capNow (c : Nat) (x : Core) : (s.setCore c x).capNow = s.capNow := rfl
@[simp] theorem State.setCore_learned (c : Nat) (x : Core) : (s.setCore c x).learned = s.learned := rfl
@[simp] theorem State.setCore_modelRuns (c : Nat) (x : Core) : (s.setCore c x).modelRuns = s.modelRuns := rfl
@[simp] theorem State.setCore_hot (c : Nat) (x : Core) : (s.setCore c x).hot = s.hot := rfl
@[simp] theorem State.setCore_overheated (c : Nat) (x : Core) : (s.setCore c x).overheated = s.overheated := rfl
@[simp] theorem State.setCore_opTarget (c : Nat) (x : Core) : (s.setCore c x).opTarget = s.opTarget := rfl
@[simp] theorem State.setCore_stretched (c : Nat) (x : Core) : (s.setCore c x).stretched = s.stretched := rfl
@[simp] theorem State.setCore_thermTrip (c : Nat) (x : Core) : (s.setCore c x).thermTrip = s.thermTrip := rfl
@[simp] theorem State.setCore_doffStep (c : Nat) (x : Core) : (s.setCore c x).doffStep = s.doffStep := rfl
@[simp] theorem State.setCore_doffNow (c : Nat) (x : Core) : (s.setCore c x).doffNow = s.doffNow := rfl
@[simp] theorem State.setCore_patrolled (c : Nat) (x : Core) : (s.setCore c x).patrolled = s.patrolled := rfl
@[simp] theorem State.setCore_inputHistory (c : Nat) (x : Core) : (s.setCore c x).inputHistory = s.inputHistory := rfl
@[simp] theorem State.setCore_lastCounts (c : Nat) (x : Core) : (s.setCore c x).lastCounts = s.lastCounts := rfl
@[simp] theorem State.setCore_calibrations (c : Nat) (x : Core) : (s.setCore c x).calibrations = s.calibrations := rfl
@[simp] theorem State.setCore_enforced (c : Nat) (x : Core) : (s.setCore c x).enforced = s.enforced := rfl
@[simp] theorem State.setCore_lifeShown (c : Nat) (x : Core) : (s.setCore c x).lifeShown = s.lifeShown := rfl
@[simp] theorem State.setCore_inputOn (c : Nat) (x : Core) : (s.setCore c x).inputOn = s.inputOn := rfl
@[simp] theorem State.setCore_mrstLow (c : Nat) (x : Core) : (s.setCore c x).mrstLow = s.mrstLow := rfl
@[simp] theorem State.setCore_perstLow (c : Nat) (x : Core) : (s.setCore c x).perstLow = s.perstLow := rfl
@[simp] theorem State.setCore_darkQuads (c : Nat) (x : Core) : (s.setCore c x).darkQuads = s.darkQuads := rfl
@[simp] theorem State.setCore_flOwnLow (c : Nat) (x : Core) : (s.setCore c x).flOwnLow = s.flOwnLow := rfl
@[simp] theorem State.setCore_straps (c : Nat) (x : Core) : (s.setCore c x).straps = s.straps := rfl
@[simp] theorem State.setCore_flHold (c : Nat) (x : Core) : (s.setCore c x).flHold = s.flHold := rfl
@[simp] theorem State.setCore_railFailures (c : Nat) (x : Core) : (s.setCore c x).railFailures = s.railFailures := rfl
@[simp] theorem State.setCore_resetDue (c : Nat) (x : Core) : (s.setCore c x).resetDue = s.resetDue := rfl
@[simp] theorem State.setCore_bankA (c : Nat) (x : Core) : (s.setCore c x).bankA = s.bankA := rfl
@[simp] theorem State.setCore_bankB (c : Nat) (x : Core) : (s.setCore c x).bankB = s.bankB := rfl
@[simp] theorem State.setCore_storeSalt (c : Nat) (x : Core) : (s.setCore c x).storeSalt = s.storeSalt := rfl
@[simp] theorem State.setCore_drbg (c : Nat) (x : Core) : (s.setCore c x).drbg = s.drbg := rfl
@[simp] theorem State.setCore_drbgSeeds (c : Nat) (x : Core) : (s.setCore c x).drbgSeeds = s.drbgSeeds := rfl
@[simp] theorem State.setCore_retired (c : Nat) (x : Core) : (s.setCore c x).retired = s.retired := rfl
@[simp] theorem State.setCore_routeMeasure (c : Nat) (x : Core) : (s.setCore c x).routeMeasure = s.routeMeasure := rfl
@[simp] theorem State.setCore_storeOpened (c : Nat) (x : Core) : (s.setCore c x).storeOpened = s.storeOpened := rfl
@[simp] theorem State.setCore_stageAddr (c : Nat) (x : Core) : (s.setCore c x).stageAddr = s.stageAddr := rfl
@[simp] theorem State.setCore_spdm (c : Nat) (x : Core) : (s.setCore c x).spdm = s.spdm := rfl
@[simp] theorem State.setCore_signing (c : Nat) (x : Core) : (s.setCore c x).signing = s.signing := rfl
@[simp] theorem State.setCore_eids (c : Nat) (x : Core) : (s.setCore c x).eids = s.eids := rfl
@[simp] theorem State.setCore_i3cAddr (c : Nat) (x : Core) : (s.setCore c x).i3cAddr = s.i3cAddr := rfl
@[simp] theorem State.setCore_queues (c : Nat) (x : Core) : (s.setCore c x).queues = s.queues := rfl
@[simp] theorem State.setCore_windows (c : Nat) (x : Core) : (s.setCore c x).windows = s.windows := rfl
@[simp] theorem State.setCore_msixTable (c : Nat) (x : Core) : (s.setCore c x).msixTable = s.msixTable := rfl
@[simp] theorem State.setCore_msixPending (c : Nat) (x : Core) : (s.setCore c x).msixPending = s.msixPending := rfl
@[simp] theorem State.setCore_msixBusy (c : Nat) (x : Core) : (s.setCore c x).msixBusy = s.msixBusy := rfl
@[simp] theorem State.setCore_msixOwed (c : Nat) (x : Core) : (s.setCore c x).msixOwed = s.msixOwed := rfl
@[simp] theorem State.setCore_eventCause (c : Nat) (x : Core) : (s.setCore c x).eventCause = s.eventCause := rfl
@[simp] theorem State.setCore_eventMask (c : Nat) (x : Core) : (s.setCore c x).eventMask = s.eventMask := rfl
@[simp] theorem State.setCore_windowMisses (c : Nat) (x : Core) : (s.setCore c x).windowMisses = s.windowMisses := rfl
@[simp] theorem State.setCore_windowRefusals (c : Nat) (x : Core) : (s.setCore c x).windowRefusals = s.windowRefusals := rfl
@[simp] theorem State.setCore_bar2Log2 (c : Nat) (x : Core) : (s.setCore c x).bar2Log2 = s.bar2Log2 := rfl
@[simp] theorem State.setCore_busMaster (c : Nat) (x : Core) : (s.setCore c x).busMaster = s.busMaster := rfl
@[simp] theorem State.setCore_d3hot (c : Nat) (x : Core) : (s.setCore c x).d3hot = s.d3hot := rfl
@[simp] theorem State.setCore_linkUp (c : Nat) (x : Core) : (s.setCore c x).linkUp = s.linkUp := rfl
@[simp] theorem State.setCore_val (c : Nat) (x : Core) (k' : Key) : (s.setCore c x).val k' = s.val k' := rfl
@[simp] theorem State.setCore_stepOf (c : Nat) (x : Core) (j' : Nat) : (s.setCore c x).stepOf j' = s.stepOf j' := rfl
@[simp] theorem State.setCore_clock (c : Nat) (x : Core) (i : Nat) : (s.setCore c x).clock i = s.clock i := rfl
@[simp] theorem State.setCore_readByte (c : Nat) (x : Core) (b : Nat) : (s.setCore c x).readByte b = s.readByte b := rfl
@[simp] theorem State.setCore_atomPoisoned (c : Nat) (x : Core) (b : Nat) : (s.setCore c x).atomPoisoned b = s.atomPoisoned b := rfl
@[simp] theorem State.setCore_link (c : Nat) (x : Core) (q' : Nat) : (s.setCore c x).link q' = s.link q' := rfl
@[simp] theorem State.setCore_hostQueue (c : Nat) (x : Core) (q' : Nat) : (s.setCore c x).hostQueue q' = s.hostQueue q' := rfl

/-! ### setStep -/

@[simp] theorem State.setStep_pending (j : Nat) (x : StepInfo) : (s.setStep j x).pending = s.pending := rfl
@[simp] theorem State.setStep_tick (j : Nat) (x : StepInfo) : (s.setStep j x).tick = s.tick := rfl
@[simp] theorem State.setStep_sent (j : Nat) (x : StepInfo) : (s.setStep j x).sent = s.sent := rfl
@[simp] theorem State.setStep_cycles (j : Nat) (x : StepInfo) : (s.setStep j x).cycles = s.cycles := rfl
@[simp] theorem State.setStep_dict (j : Nat) (x : StepInfo) : (s.setStep j x).dict = s.dict := rfl
@[simp] theorem State.setStep_mem (j : Nat) (x : StepInfo) : (s.setStep j x).mem = s.mem := rfl
@[simp] theorem State.setStep_poison (j : Nat) (x : StepInfo) : (s.setStep j x).poison = s.poison := rfl
@[simp] theorem State.setStep_cores (j : Nat) (x : StepInfo) : (s.setStep j x).cores = s.cores := rfl
@[simp] theorem State.setStep_increments (j : Nat) (x : StepInfo) : (s.setStep j x).increments = s.increments := rfl
@[simp] theorem State.setStep_faultLog (j : Nat) (x : StepInfo) : (s.setStep j x).faultLog = s.faultLog := rfl
@[simp] theorem State.setStep_frecSeq (j : Nat) (x : StepInfo) : (s.setStep j x).frecSeq = s.frecSeq := rfl
@[simp] theorem State.setStep_notedNow (j : Nat) (x : StepInfo) : (s.setStep j x).notedNow = s.notedNow := rfl
@[simp] theorem State.setStep_regions (j : Nat) (x : StepInfo) : (s.setStep j x).regions = s.regions := rfl
@[simp] theorem State.setStep_hbm (j : Nat) (x : StepInfo) : (s.setStep j x).hbm = s.hbm := rfl
@[simp] theorem State.setStep_hbmWaiting (j : Nat) (x : StepInfo) : (s.setStep j x).hbmWaiting = s.hbmWaiting := rfl
@[simp] theorem State.setStep_nextToken (j : Nat) (x : StepInfo) : (s.setStep j x).nextToken = s.nextToken := rfl
@[simp] theorem State.setStep_walks (j : Nat) (x : StepInfo) : (s.setStep j x).walks = s.walks := rfl
@[simp] theorem State.setStep_codec (j : Nat) (x : StepInfo) : (s.setStep j x).codec = s.codec := rfl
@[simp] theorem State.setStep_laneHolds (j : Nat) (x : StepInfo) : (s.setStep j x).laneHolds = s.laneHolds := rfl
@[simp] theorem State.setStep_codecLast (j : Nat) (x : StepInfo) : (s.setStep j x).codecLast = s.codecLast := rfl
@[simp] theorem State.setStep_phases (j : Nat) (x : StepInfo) : (s.setStep j x).phases = s.phases := rfl
@[simp] theorem State.setStep_phaseMet (j : Nat) (x : StepInfo) : (s.setStep j x).phaseMet = s.phaseMet := rfl
@[simp] theorem State.setStep_schedules (j : Nat) (x : StepInfo) : (s.setStep j x).schedules = s.schedules := rfl
@[simp] theorem State.setStep_ids (j : Nat) (x : StepInfo) : (s.setStep j x).ids = s.ids := rfl
@[simp] theorem State.setStep_landings (j : Nat) (x : StepInfo) : (s.setStep j x).landings = s.landings := rfl
@[simp] theorem State.setStep_held (j : Nat) (x : StepInfo) : (s.setStep j x).held = s.held := rfl
@[simp] theorem State.setStep_heldWaiting (j : Nat) (x : StepInfo) : (s.setStep j x).heldWaiting = s.heldWaiting := rfl
@[simp] theorem State.setStep_seenUses (j : Nat) (x : StepInfo) : (s.setStep j x).seenUses = s.seenUses := rfl
@[simp] theorem State.setStep_toSwitch (j : Nat) (x : StepInfo) : (s.setStep j x).toSwitch = s.toSwitch := rfl
@[simp] theorem State.setStep_flowsTx (j : Nat) (x : StepInfo) : (s.setStep j x).flowsTx = s.flowsTx := rfl
@[simp] theorem State.setStep_links (j : Nat) (x : StepInfo) : (s.setStep j x).links = s.links := rfl
@[simp] theorem State.setStep_arrived (j : Nat) (x : StepInfo) : (s.setStep j x).arrived = s.arrived := rfl
@[simp] theorem State.setStep_handed (j : Nat) (x : StepInfo) : (s.setStep j x).handed = s.handed := rfl
@[simp] theorem State.setStep_flowsRx (j : Nat) (x : StepInfo) : (s.setStep j x).flowsRx = s.flowsRx := rfl
@[simp] theorem State.setStep_routes (j : Nat) (x : StepInfo) : (s.setStep j x).routes = s.routes := rfl
@[simp] theorem State.setStep_staged (j : Nat) (x : StepInfo) : (s.setStep j x).staged = s.staged := rfl
@[simp] theorem State.setStep_colls (j : Nat) (x : StepInfo) : (s.setStep j x).colls = s.colls := rfl
@[simp] theorem State.setStep_rings (j : Nat) (x : StepInfo) : (s.setStep j x).rings = s.rings := rfl
@[simp] theorem State.setStep_prepared (j : Nat) (x : StepInfo) : (s.setStep j x).prepared = s.prepared := rfl
@[simp] theorem State.setStep_contexts (j : Nat) (x : StepInfo) : (s.setStep j x).contexts = s.contexts := rfl
@[simp] theorem State.setStep_stagedSets (j : Nat) (x : StepInfo) : (s.setStep j x).stagedSets = s.stagedSets := rfl
@[simp] theorem State.setStep_subscriptions (j : Nat) (x : StepInfo) : (s.setStep j x).subscriptions = s.subscriptions := rfl
@[simp] theorem State.setStep_nonces (j : Nat) (x : StepInfo) : (s.setStep j x).nonces = s.nonces := rfl
@[simp] theorem State.setStep_inDoubt (j : Nat) (x : StepInfo) : (s.setStep j x).inDoubt = s.inDoubt := rfl
@[simp] theorem State.setStep_pinned (j : Nat) (x : StepInfo) : (s.setStep j x).pinned = s.pinned := rfl
@[simp] theorem State.setStep_linkSeed (j : Nat) (x : StepInfo) : (s.setStep j x).linkSeed = s.linkSeed := rfl
@[simp] theorem State.setStep_routeAddr (j : Nat) (x : StepInfo) : (s.setStep j x).routeAddr = s.routeAddr := rfl
@[simp] theorem State.setStep_maps (j : Nat) (x : StepInfo) : (s.setStep j x).maps = s.maps := rfl
@[simp] theorem State.setStep_mapsNext (j : Nat) (x : StepInfo) : (s.setStep j x).mapsNext = s.mapsNext := rfl
@[simp] theorem State.setStep_drainForced (j : Nat) (x : StepInfo) : (s.setStep j x).drainForced = s.drainForced := rfl
@[simp] theorem State.setStep_replays (j : Nat) (x : StepInfo) : (s.setStep j x).replays = s.replays := rfl
@[simp] theorem State.setStep_capNow (j : Nat) (x : StepInfo) : (s.setStep j x).capNow = s.capNow := rfl
@[simp] theorem State.setStep_learned (j : Nat) (x : StepInfo) : (s.setStep j x).learned = s.learned := rfl
@[simp] theorem State.setStep_modelRuns (j : Nat) (x : StepInfo) : (s.setStep j x).modelRuns = s.modelRuns := rfl
@[simp] theorem State.setStep_hot (j : Nat) (x : StepInfo) : (s.setStep j x).hot = s.hot := rfl
@[simp] theorem State.setStep_overheated (j : Nat) (x : StepInfo) : (s.setStep j x).overheated = s.overheated := rfl
@[simp] theorem State.setStep_opTarget (j : Nat) (x : StepInfo) : (s.setStep j x).opTarget = s.opTarget := rfl
@[simp] theorem State.setStep_stretched (j : Nat) (x : StepInfo) : (s.setStep j x).stretched = s.stretched := rfl
@[simp] theorem State.setStep_thermTrip (j : Nat) (x : StepInfo) : (s.setStep j x).thermTrip = s.thermTrip := rfl
@[simp] theorem State.setStep_doffStep (j : Nat) (x : StepInfo) : (s.setStep j x).doffStep = s.doffStep := rfl
@[simp] theorem State.setStep_doffNow (j : Nat) (x : StepInfo) : (s.setStep j x).doffNow = s.doffNow := rfl
@[simp] theorem State.setStep_patrolled (j : Nat) (x : StepInfo) : (s.setStep j x).patrolled = s.patrolled := rfl
@[simp] theorem State.setStep_inputHistory (j : Nat) (x : StepInfo) : (s.setStep j x).inputHistory = s.inputHistory := rfl
@[simp] theorem State.setStep_lastCounts (j : Nat) (x : StepInfo) : (s.setStep j x).lastCounts = s.lastCounts := rfl
@[simp] theorem State.setStep_calibrations (j : Nat) (x : StepInfo) : (s.setStep j x).calibrations = s.calibrations := rfl
@[simp] theorem State.setStep_enforced (j : Nat) (x : StepInfo) : (s.setStep j x).enforced = s.enforced := rfl
@[simp] theorem State.setStep_lifeShown (j : Nat) (x : StepInfo) : (s.setStep j x).lifeShown = s.lifeShown := rfl
@[simp] theorem State.setStep_inputOn (j : Nat) (x : StepInfo) : (s.setStep j x).inputOn = s.inputOn := rfl
@[simp] theorem State.setStep_mrstLow (j : Nat) (x : StepInfo) : (s.setStep j x).mrstLow = s.mrstLow := rfl
@[simp] theorem State.setStep_perstLow (j : Nat) (x : StepInfo) : (s.setStep j x).perstLow = s.perstLow := rfl
@[simp] theorem State.setStep_darkQuads (j : Nat) (x : StepInfo) : (s.setStep j x).darkQuads = s.darkQuads := rfl
@[simp] theorem State.setStep_flOwnLow (j : Nat) (x : StepInfo) : (s.setStep j x).flOwnLow = s.flOwnLow := rfl
@[simp] theorem State.setStep_straps (j : Nat) (x : StepInfo) : (s.setStep j x).straps = s.straps := rfl
@[simp] theorem State.setStep_flHold (j : Nat) (x : StepInfo) : (s.setStep j x).flHold = s.flHold := rfl
@[simp] theorem State.setStep_railFailures (j : Nat) (x : StepInfo) : (s.setStep j x).railFailures = s.railFailures := rfl
@[simp] theorem State.setStep_resetDue (j : Nat) (x : StepInfo) : (s.setStep j x).resetDue = s.resetDue := rfl
@[simp] theorem State.setStep_bankA (j : Nat) (x : StepInfo) : (s.setStep j x).bankA = s.bankA := rfl
@[simp] theorem State.setStep_bankB (j : Nat) (x : StepInfo) : (s.setStep j x).bankB = s.bankB := rfl
@[simp] theorem State.setStep_storeSalt (j : Nat) (x : StepInfo) : (s.setStep j x).storeSalt = s.storeSalt := rfl
@[simp] theorem State.setStep_drbg (j : Nat) (x : StepInfo) : (s.setStep j x).drbg = s.drbg := rfl
@[simp] theorem State.setStep_drbgSeeds (j : Nat) (x : StepInfo) : (s.setStep j x).drbgSeeds = s.drbgSeeds := rfl
@[simp] theorem State.setStep_retired (j : Nat) (x : StepInfo) : (s.setStep j x).retired = s.retired := rfl
@[simp] theorem State.setStep_routeMeasure (j : Nat) (x : StepInfo) : (s.setStep j x).routeMeasure = s.routeMeasure := rfl
@[simp] theorem State.setStep_storeOpened (j : Nat) (x : StepInfo) : (s.setStep j x).storeOpened = s.storeOpened := rfl
@[simp] theorem State.setStep_stageAddr (j : Nat) (x : StepInfo) : (s.setStep j x).stageAddr = s.stageAddr := rfl
@[simp] theorem State.setStep_spdm (j : Nat) (x : StepInfo) : (s.setStep j x).spdm = s.spdm := rfl
@[simp] theorem State.setStep_signing (j : Nat) (x : StepInfo) : (s.setStep j x).signing = s.signing := rfl
@[simp] theorem State.setStep_eids (j : Nat) (x : StepInfo) : (s.setStep j x).eids = s.eids := rfl
@[simp] theorem State.setStep_i3cAddr (j : Nat) (x : StepInfo) : (s.setStep j x).i3cAddr = s.i3cAddr := rfl
@[simp] theorem State.setStep_queues (j : Nat) (x : StepInfo) : (s.setStep j x).queues = s.queues := rfl
@[simp] theorem State.setStep_windows (j : Nat) (x : StepInfo) : (s.setStep j x).windows = s.windows := rfl
@[simp] theorem State.setStep_msixTable (j : Nat) (x : StepInfo) : (s.setStep j x).msixTable = s.msixTable := rfl
@[simp] theorem State.setStep_msixPending (j : Nat) (x : StepInfo) : (s.setStep j x).msixPending = s.msixPending := rfl
@[simp] theorem State.setStep_msixBusy (j : Nat) (x : StepInfo) : (s.setStep j x).msixBusy = s.msixBusy := rfl
@[simp] theorem State.setStep_msixOwed (j : Nat) (x : StepInfo) : (s.setStep j x).msixOwed = s.msixOwed := rfl
@[simp] theorem State.setStep_eventCause (j : Nat) (x : StepInfo) : (s.setStep j x).eventCause = s.eventCause := rfl
@[simp] theorem State.setStep_eventMask (j : Nat) (x : StepInfo) : (s.setStep j x).eventMask = s.eventMask := rfl
@[simp] theorem State.setStep_windowMisses (j : Nat) (x : StepInfo) : (s.setStep j x).windowMisses = s.windowMisses := rfl
@[simp] theorem State.setStep_windowRefusals (j : Nat) (x : StepInfo) : (s.setStep j x).windowRefusals = s.windowRefusals := rfl
@[simp] theorem State.setStep_bar2Log2 (j : Nat) (x : StepInfo) : (s.setStep j x).bar2Log2 = s.bar2Log2 := rfl
@[simp] theorem State.setStep_busMaster (j : Nat) (x : StepInfo) : (s.setStep j x).busMaster = s.busMaster := rfl
@[simp] theorem State.setStep_d3hot (j : Nat) (x : StepInfo) : (s.setStep j x).d3hot = s.d3hot := rfl
@[simp] theorem State.setStep_linkUp (j : Nat) (x : StepInfo) : (s.setStep j x).linkUp = s.linkUp := rfl
@[simp] theorem State.setStep_val (j : Nat) (x : StepInfo) (k' : Key) : (s.setStep j x).val k' = s.val k' := rfl
@[simp] theorem State.setStep_core (j : Nat) (x : StepInfo) (c' : Nat) : (s.setStep j x).core c' = s.core c' := rfl
@[simp] theorem State.setStep_clock (j : Nat) (x : StepInfo) (i : Nat) : (s.setStep j x).clock i = s.clock i := rfl
@[simp] theorem State.setStep_readByte (j : Nat) (x : StepInfo) (b : Nat) : (s.setStep j x).readByte b = s.readByte b := rfl
@[simp] theorem State.setStep_atomPoisoned (j : Nat) (x : StepInfo) (b : Nat) : (s.setStep j x).atomPoisoned b = s.atomPoisoned b := rfl
@[simp] theorem State.setStep_link (j : Nat) (x : StepInfo) (q' : Nat) : (s.setStep j x).link q' = s.link q' := rfl
@[simp] theorem State.setStep_hostQueue (j : Nat) (x : StepInfo) (q' : Nat) : (s.setStep j x).hostQueue q' = s.hostQueue q' := rfl

/-! ### sendIncrement -/

@[simp] theorem State.sendIncrement_pending (src : SigSource) (dst sem amount : Nat) : (s.sendIncrement src dst sem amount).pending = s.pending := rfl
@[simp] theorem State.sendIncrement_tick (src : SigSource) (dst sem amount : Nat) : (s.sendIncrement src dst sem amount).tick = s.tick := rfl
@[simp] theorem State.sendIncrement_sent (src : SigSource) (dst sem amount : Nat) : (s.sendIncrement src dst sem amount).sent = s.sent := rfl
@[simp] theorem State.sendIncrement_cycles (src : SigSource) (dst sem amount : Nat) : (s.sendIncrement src dst sem amount).cycles = s.cycles := rfl
@[simp] theorem State.sendIncrement_dict (src : SigSource) (dst sem amount : Nat) : (s.sendIncrement src dst sem amount).dict = s.dict := rfl
@[simp] theorem State.sendIncrement_mem (src : SigSource) (dst sem amount : Nat) : (s.sendIncrement src dst sem amount).mem = s.mem := rfl
@[simp] theorem State.sendIncrement_poison (src : SigSource) (dst sem amount : Nat) : (s.sendIncrement src dst sem amount).poison = s.poison := rfl
@[simp] theorem State.sendIncrement_cores (src : SigSource) (dst sem amount : Nat) : (s.sendIncrement src dst sem amount).cores = s.cores := rfl
@[simp] theorem State.sendIncrement_steps (src : SigSource) (dst sem amount : Nat) : (s.sendIncrement src dst sem amount).steps = s.steps := rfl
@[simp] theorem State.sendIncrement_faultLog (src : SigSource) (dst sem amount : Nat) : (s.sendIncrement src dst sem amount).faultLog = s.faultLog := rfl
@[simp] theorem State.sendIncrement_frecSeq (src : SigSource) (dst sem amount : Nat) : (s.sendIncrement src dst sem amount).frecSeq = s.frecSeq := rfl
@[simp] theorem State.sendIncrement_notedNow (src : SigSource) (dst sem amount : Nat) : (s.sendIncrement src dst sem amount).notedNow = s.notedNow := rfl
@[simp] theorem State.sendIncrement_regions (src : SigSource) (dst sem amount : Nat) : (s.sendIncrement src dst sem amount).regions = s.regions := rfl
@[simp] theorem State.sendIncrement_hbm (src : SigSource) (dst sem amount : Nat) : (s.sendIncrement src dst sem amount).hbm = s.hbm := rfl
@[simp] theorem State.sendIncrement_hbmWaiting (src : SigSource) (dst sem amount : Nat) : (s.sendIncrement src dst sem amount).hbmWaiting = s.hbmWaiting := rfl
@[simp] theorem State.sendIncrement_nextToken (src : SigSource) (dst sem amount : Nat) : (s.sendIncrement src dst sem amount).nextToken = s.nextToken := rfl
@[simp] theorem State.sendIncrement_walks (src : SigSource) (dst sem amount : Nat) : (s.sendIncrement src dst sem amount).walks = s.walks := rfl
@[simp] theorem State.sendIncrement_codec (src : SigSource) (dst sem amount : Nat) : (s.sendIncrement src dst sem amount).codec = s.codec := rfl
@[simp] theorem State.sendIncrement_laneHolds (src : SigSource) (dst sem amount : Nat) : (s.sendIncrement src dst sem amount).laneHolds = s.laneHolds := rfl
@[simp] theorem State.sendIncrement_codecLast (src : SigSource) (dst sem amount : Nat) : (s.sendIncrement src dst sem amount).codecLast = s.codecLast := rfl
@[simp] theorem State.sendIncrement_phases (src : SigSource) (dst sem amount : Nat) : (s.sendIncrement src dst sem amount).phases = s.phases := rfl
@[simp] theorem State.sendIncrement_phaseMet (src : SigSource) (dst sem amount : Nat) : (s.sendIncrement src dst sem amount).phaseMet = s.phaseMet := rfl
@[simp] theorem State.sendIncrement_schedules (src : SigSource) (dst sem amount : Nat) : (s.sendIncrement src dst sem amount).schedules = s.schedules := rfl
@[simp] theorem State.sendIncrement_ids (src : SigSource) (dst sem amount : Nat) : (s.sendIncrement src dst sem amount).ids = s.ids := rfl
@[simp] theorem State.sendIncrement_landings (src : SigSource) (dst sem amount : Nat) : (s.sendIncrement src dst sem amount).landings = s.landings := rfl
@[simp] theorem State.sendIncrement_held (src : SigSource) (dst sem amount : Nat) : (s.sendIncrement src dst sem amount).held = s.held := rfl
@[simp] theorem State.sendIncrement_heldWaiting (src : SigSource) (dst sem amount : Nat) : (s.sendIncrement src dst sem amount).heldWaiting = s.heldWaiting := rfl
@[simp] theorem State.sendIncrement_seenUses (src : SigSource) (dst sem amount : Nat) : (s.sendIncrement src dst sem amount).seenUses = s.seenUses := rfl
@[simp] theorem State.sendIncrement_toSwitch (src : SigSource) (dst sem amount : Nat) : (s.sendIncrement src dst sem amount).toSwitch = s.toSwitch := rfl
@[simp] theorem State.sendIncrement_flowsTx (src : SigSource) (dst sem amount : Nat) : (s.sendIncrement src dst sem amount).flowsTx = s.flowsTx := rfl
@[simp] theorem State.sendIncrement_links (src : SigSource) (dst sem amount : Nat) : (s.sendIncrement src dst sem amount).links = s.links := rfl
@[simp] theorem State.sendIncrement_arrived (src : SigSource) (dst sem amount : Nat) : (s.sendIncrement src dst sem amount).arrived = s.arrived := rfl
@[simp] theorem State.sendIncrement_handed (src : SigSource) (dst sem amount : Nat) : (s.sendIncrement src dst sem amount).handed = s.handed := rfl
@[simp] theorem State.sendIncrement_flowsRx (src : SigSource) (dst sem amount : Nat) : (s.sendIncrement src dst sem amount).flowsRx = s.flowsRx := rfl
@[simp] theorem State.sendIncrement_routes (src : SigSource) (dst sem amount : Nat) : (s.sendIncrement src dst sem amount).routes = s.routes := rfl
@[simp] theorem State.sendIncrement_staged (src : SigSource) (dst sem amount : Nat) : (s.sendIncrement src dst sem amount).staged = s.staged := rfl
@[simp] theorem State.sendIncrement_colls (src : SigSource) (dst sem amount : Nat) : (s.sendIncrement src dst sem amount).colls = s.colls := rfl
@[simp] theorem State.sendIncrement_rings (src : SigSource) (dst sem amount : Nat) : (s.sendIncrement src dst sem amount).rings = s.rings := rfl
@[simp] theorem State.sendIncrement_prepared (src : SigSource) (dst sem amount : Nat) : (s.sendIncrement src dst sem amount).prepared = s.prepared := rfl
@[simp] theorem State.sendIncrement_contexts (src : SigSource) (dst sem amount : Nat) : (s.sendIncrement src dst sem amount).contexts = s.contexts := rfl
@[simp] theorem State.sendIncrement_stagedSets (src : SigSource) (dst sem amount : Nat) : (s.sendIncrement src dst sem amount).stagedSets = s.stagedSets := rfl
@[simp] theorem State.sendIncrement_subscriptions (src : SigSource) (dst sem amount : Nat) : (s.sendIncrement src dst sem amount).subscriptions = s.subscriptions := rfl
@[simp] theorem State.sendIncrement_nonces (src : SigSource) (dst sem amount : Nat) : (s.sendIncrement src dst sem amount).nonces = s.nonces := rfl
@[simp] theorem State.sendIncrement_inDoubt (src : SigSource) (dst sem amount : Nat) : (s.sendIncrement src dst sem amount).inDoubt = s.inDoubt := rfl
@[simp] theorem State.sendIncrement_pinned (src : SigSource) (dst sem amount : Nat) : (s.sendIncrement src dst sem amount).pinned = s.pinned := rfl
@[simp] theorem State.sendIncrement_linkSeed (src : SigSource) (dst sem amount : Nat) : (s.sendIncrement src dst sem amount).linkSeed = s.linkSeed := rfl
@[simp] theorem State.sendIncrement_routeAddr (src : SigSource) (dst sem amount : Nat) : (s.sendIncrement src dst sem amount).routeAddr = s.routeAddr := rfl
@[simp] theorem State.sendIncrement_maps (src : SigSource) (dst sem amount : Nat) : (s.sendIncrement src dst sem amount).maps = s.maps := rfl
@[simp] theorem State.sendIncrement_mapsNext (src : SigSource) (dst sem amount : Nat) : (s.sendIncrement src dst sem amount).mapsNext = s.mapsNext := rfl
@[simp] theorem State.sendIncrement_drainForced (src : SigSource) (dst sem amount : Nat) : (s.sendIncrement src dst sem amount).drainForced = s.drainForced := rfl
@[simp] theorem State.sendIncrement_replays (src : SigSource) (dst sem amount : Nat) : (s.sendIncrement src dst sem amount).replays = s.replays := rfl
@[simp] theorem State.sendIncrement_capNow (src : SigSource) (dst sem amount : Nat) : (s.sendIncrement src dst sem amount).capNow = s.capNow := rfl
@[simp] theorem State.sendIncrement_learned (src : SigSource) (dst sem amount : Nat) : (s.sendIncrement src dst sem amount).learned = s.learned := rfl
@[simp] theorem State.sendIncrement_modelRuns (src : SigSource) (dst sem amount : Nat) : (s.sendIncrement src dst sem amount).modelRuns = s.modelRuns := rfl
@[simp] theorem State.sendIncrement_hot (src : SigSource) (dst sem amount : Nat) : (s.sendIncrement src dst sem amount).hot = s.hot := rfl
@[simp] theorem State.sendIncrement_overheated (src : SigSource) (dst sem amount : Nat) : (s.sendIncrement src dst sem amount).overheated = s.overheated := rfl
@[simp] theorem State.sendIncrement_opTarget (src : SigSource) (dst sem amount : Nat) : (s.sendIncrement src dst sem amount).opTarget = s.opTarget := rfl
@[simp] theorem State.sendIncrement_stretched (src : SigSource) (dst sem amount : Nat) : (s.sendIncrement src dst sem amount).stretched = s.stretched := rfl
@[simp] theorem State.sendIncrement_thermTrip (src : SigSource) (dst sem amount : Nat) : (s.sendIncrement src dst sem amount).thermTrip = s.thermTrip := rfl
@[simp] theorem State.sendIncrement_doffStep (src : SigSource) (dst sem amount : Nat) : (s.sendIncrement src dst sem amount).doffStep = s.doffStep := rfl
@[simp] theorem State.sendIncrement_doffNow (src : SigSource) (dst sem amount : Nat) : (s.sendIncrement src dst sem amount).doffNow = s.doffNow := rfl
@[simp] theorem State.sendIncrement_patrolled (src : SigSource) (dst sem amount : Nat) : (s.sendIncrement src dst sem amount).patrolled = s.patrolled := rfl
@[simp] theorem State.sendIncrement_inputHistory (src : SigSource) (dst sem amount : Nat) : (s.sendIncrement src dst sem amount).inputHistory = s.inputHistory := rfl
@[simp] theorem State.sendIncrement_lastCounts (src : SigSource) (dst sem amount : Nat) : (s.sendIncrement src dst sem amount).lastCounts = s.lastCounts := rfl
@[simp] theorem State.sendIncrement_calibrations (src : SigSource) (dst sem amount : Nat) : (s.sendIncrement src dst sem amount).calibrations = s.calibrations := rfl
@[simp] theorem State.sendIncrement_enforced (src : SigSource) (dst sem amount : Nat) : (s.sendIncrement src dst sem amount).enforced = s.enforced := rfl
@[simp] theorem State.sendIncrement_lifeShown (src : SigSource) (dst sem amount : Nat) : (s.sendIncrement src dst sem amount).lifeShown = s.lifeShown := rfl
@[simp] theorem State.sendIncrement_inputOn (src : SigSource) (dst sem amount : Nat) : (s.sendIncrement src dst sem amount).inputOn = s.inputOn := rfl
@[simp] theorem State.sendIncrement_mrstLow (src : SigSource) (dst sem amount : Nat) : (s.sendIncrement src dst sem amount).mrstLow = s.mrstLow := rfl
@[simp] theorem State.sendIncrement_perstLow (src : SigSource) (dst sem amount : Nat) : (s.sendIncrement src dst sem amount).perstLow = s.perstLow := rfl
@[simp] theorem State.sendIncrement_darkQuads (src : SigSource) (dst sem amount : Nat) : (s.sendIncrement src dst sem amount).darkQuads = s.darkQuads := rfl
@[simp] theorem State.sendIncrement_flOwnLow (src : SigSource) (dst sem amount : Nat) : (s.sendIncrement src dst sem amount).flOwnLow = s.flOwnLow := rfl
@[simp] theorem State.sendIncrement_straps (src : SigSource) (dst sem amount : Nat) : (s.sendIncrement src dst sem amount).straps = s.straps := rfl
@[simp] theorem State.sendIncrement_flHold (src : SigSource) (dst sem amount : Nat) : (s.sendIncrement src dst sem amount).flHold = s.flHold := rfl
@[simp] theorem State.sendIncrement_railFailures (src : SigSource) (dst sem amount : Nat) : (s.sendIncrement src dst sem amount).railFailures = s.railFailures := rfl
@[simp] theorem State.sendIncrement_resetDue (src : SigSource) (dst sem amount : Nat) : (s.sendIncrement src dst sem amount).resetDue = s.resetDue := rfl
@[simp] theorem State.sendIncrement_bankA (src : SigSource) (dst sem amount : Nat) : (s.sendIncrement src dst sem amount).bankA = s.bankA := rfl
@[simp] theorem State.sendIncrement_bankB (src : SigSource) (dst sem amount : Nat) : (s.sendIncrement src dst sem amount).bankB = s.bankB := rfl
@[simp] theorem State.sendIncrement_storeSalt (src : SigSource) (dst sem amount : Nat) : (s.sendIncrement src dst sem amount).storeSalt = s.storeSalt := rfl
@[simp] theorem State.sendIncrement_drbg (src : SigSource) (dst sem amount : Nat) : (s.sendIncrement src dst sem amount).drbg = s.drbg := rfl
@[simp] theorem State.sendIncrement_drbgSeeds (src : SigSource) (dst sem amount : Nat) : (s.sendIncrement src dst sem amount).drbgSeeds = s.drbgSeeds := rfl
@[simp] theorem State.sendIncrement_retired (src : SigSource) (dst sem amount : Nat) : (s.sendIncrement src dst sem amount).retired = s.retired := rfl
@[simp] theorem State.sendIncrement_routeMeasure (src : SigSource) (dst sem amount : Nat) : (s.sendIncrement src dst sem amount).routeMeasure = s.routeMeasure := rfl
@[simp] theorem State.sendIncrement_storeOpened (src : SigSource) (dst sem amount : Nat) : (s.sendIncrement src dst sem amount).storeOpened = s.storeOpened := rfl
@[simp] theorem State.sendIncrement_stageAddr (src : SigSource) (dst sem amount : Nat) : (s.sendIncrement src dst sem amount).stageAddr = s.stageAddr := rfl
@[simp] theorem State.sendIncrement_spdm (src : SigSource) (dst sem amount : Nat) : (s.sendIncrement src dst sem amount).spdm = s.spdm := rfl
@[simp] theorem State.sendIncrement_signing (src : SigSource) (dst sem amount : Nat) : (s.sendIncrement src dst sem amount).signing = s.signing := rfl
@[simp] theorem State.sendIncrement_eids (src : SigSource) (dst sem amount : Nat) : (s.sendIncrement src dst sem amount).eids = s.eids := rfl
@[simp] theorem State.sendIncrement_i3cAddr (src : SigSource) (dst sem amount : Nat) : (s.sendIncrement src dst sem amount).i3cAddr = s.i3cAddr := rfl
@[simp] theorem State.sendIncrement_queues (src : SigSource) (dst sem amount : Nat) : (s.sendIncrement src dst sem amount).queues = s.queues := rfl
@[simp] theorem State.sendIncrement_windows (src : SigSource) (dst sem amount : Nat) : (s.sendIncrement src dst sem amount).windows = s.windows := rfl
@[simp] theorem State.sendIncrement_msixTable (src : SigSource) (dst sem amount : Nat) : (s.sendIncrement src dst sem amount).msixTable = s.msixTable := rfl
@[simp] theorem State.sendIncrement_msixPending (src : SigSource) (dst sem amount : Nat) : (s.sendIncrement src dst sem amount).msixPending = s.msixPending := rfl
@[simp] theorem State.sendIncrement_msixBusy (src : SigSource) (dst sem amount : Nat) : (s.sendIncrement src dst sem amount).msixBusy = s.msixBusy := rfl
@[simp] theorem State.sendIncrement_msixOwed (src : SigSource) (dst sem amount : Nat) : (s.sendIncrement src dst sem amount).msixOwed = s.msixOwed := rfl
@[simp] theorem State.sendIncrement_eventCause (src : SigSource) (dst sem amount : Nat) : (s.sendIncrement src dst sem amount).eventCause = s.eventCause := rfl
@[simp] theorem State.sendIncrement_eventMask (src : SigSource) (dst sem amount : Nat) : (s.sendIncrement src dst sem amount).eventMask = s.eventMask := rfl
@[simp] theorem State.sendIncrement_windowMisses (src : SigSource) (dst sem amount : Nat) : (s.sendIncrement src dst sem amount).windowMisses = s.windowMisses := rfl
@[simp] theorem State.sendIncrement_windowRefusals (src : SigSource) (dst sem amount : Nat) : (s.sendIncrement src dst sem amount).windowRefusals = s.windowRefusals := rfl
@[simp] theorem State.sendIncrement_bar2Log2 (src : SigSource) (dst sem amount : Nat) : (s.sendIncrement src dst sem amount).bar2Log2 = s.bar2Log2 := rfl
@[simp] theorem State.sendIncrement_busMaster (src : SigSource) (dst sem amount : Nat) : (s.sendIncrement src dst sem amount).busMaster = s.busMaster := rfl
@[simp] theorem State.sendIncrement_d3hot (src : SigSource) (dst sem amount : Nat) : (s.sendIncrement src dst sem amount).d3hot = s.d3hot := rfl
@[simp] theorem State.sendIncrement_linkUp (src : SigSource) (dst sem amount : Nat) : (s.sendIncrement src dst sem amount).linkUp = s.linkUp := rfl
@[simp] theorem State.sendIncrement_val (src : SigSource) (dst sem amount : Nat) (k' : Key) : (s.sendIncrement src dst sem amount).val k' = s.val k' := rfl
@[simp] theorem State.sendIncrement_core (src : SigSource) (dst sem amount : Nat) (c' : Nat) : (s.sendIncrement src dst sem amount).core c' = s.core c' := rfl
@[simp] theorem State.sendIncrement_stepOf (src : SigSource) (dst sem amount : Nat) (j' : Nat) : (s.sendIncrement src dst sem amount).stepOf j' = s.stepOf j' := rfl
@[simp] theorem State.sendIncrement_clock (src : SigSource) (dst sem amount : Nat) (i : Nat) : (s.sendIncrement src dst sem amount).clock i = s.clock i := rfl
@[simp] theorem State.sendIncrement_readByte (src : SigSource) (dst sem amount : Nat) (b : Nat) : (s.sendIncrement src dst sem amount).readByte b = s.readByte b := rfl
@[simp] theorem State.sendIncrement_atomPoisoned (src : SigSource) (dst sem amount : Nat) (b : Nat) : (s.sendIncrement src dst sem amount).atomPoisoned b = s.atomPoisoned b := rfl
@[simp] theorem State.sendIncrement_link (src : SigSource) (dst sem amount : Nat) (q' : Nat) : (s.sendIncrement src dst sem amount).link q' = s.link q' := rfl
@[simp] theorem State.sendIncrement_hostQueue (src : SigSource) (dst sem amount : Nat) (q' : Nat) : (s.sendIncrement src dst sem amount).hostQueue q' = s.hostQueue q' := rfl

/-! ### poisonAtom -/

@[simp] theorem State.poisonAtom_pending (atom : Nat) : (s.poisonAtom atom).pending = s.pending := rfl
@[simp] theorem State.poisonAtom_tick (atom : Nat) : (s.poisonAtom atom).tick = s.tick := rfl
@[simp] theorem State.poisonAtom_sent (atom : Nat) : (s.poisonAtom atom).sent = s.sent := rfl
@[simp] theorem State.poisonAtom_cycles (atom : Nat) : (s.poisonAtom atom).cycles = s.cycles := rfl
@[simp] theorem State.poisonAtom_dict (atom : Nat) : (s.poisonAtom atom).dict = s.dict := rfl
@[simp] theorem State.poisonAtom_mem (atom : Nat) : (s.poisonAtom atom).mem = s.mem := rfl
@[simp] theorem State.poisonAtom_cores (atom : Nat) : (s.poisonAtom atom).cores = s.cores := rfl
@[simp] theorem State.poisonAtom_increments (atom : Nat) : (s.poisonAtom atom).increments = s.increments := rfl
@[simp] theorem State.poisonAtom_steps (atom : Nat) : (s.poisonAtom atom).steps = s.steps := rfl
@[simp] theorem State.poisonAtom_faultLog (atom : Nat) : (s.poisonAtom atom).faultLog = s.faultLog := rfl
@[simp] theorem State.poisonAtom_frecSeq (atom : Nat) : (s.poisonAtom atom).frecSeq = s.frecSeq := rfl
@[simp] theorem State.poisonAtom_notedNow (atom : Nat) : (s.poisonAtom atom).notedNow = s.notedNow := rfl
@[simp] theorem State.poisonAtom_regions (atom : Nat) : (s.poisonAtom atom).regions = s.regions := rfl
@[simp] theorem State.poisonAtom_hbm (atom : Nat) : (s.poisonAtom atom).hbm = s.hbm := rfl
@[simp] theorem State.poisonAtom_hbmWaiting (atom : Nat) : (s.poisonAtom atom).hbmWaiting = s.hbmWaiting := rfl
@[simp] theorem State.poisonAtom_nextToken (atom : Nat) : (s.poisonAtom atom).nextToken = s.nextToken := rfl
@[simp] theorem State.poisonAtom_walks (atom : Nat) : (s.poisonAtom atom).walks = s.walks := rfl
@[simp] theorem State.poisonAtom_codec (atom : Nat) : (s.poisonAtom atom).codec = s.codec := rfl
@[simp] theorem State.poisonAtom_laneHolds (atom : Nat) : (s.poisonAtom atom).laneHolds = s.laneHolds := rfl
@[simp] theorem State.poisonAtom_codecLast (atom : Nat) : (s.poisonAtom atom).codecLast = s.codecLast := rfl
@[simp] theorem State.poisonAtom_phases (atom : Nat) : (s.poisonAtom atom).phases = s.phases := rfl
@[simp] theorem State.poisonAtom_phaseMet (atom : Nat) : (s.poisonAtom atom).phaseMet = s.phaseMet := rfl
@[simp] theorem State.poisonAtom_schedules (atom : Nat) : (s.poisonAtom atom).schedules = s.schedules := rfl
@[simp] theorem State.poisonAtom_ids (atom : Nat) : (s.poisonAtom atom).ids = s.ids := rfl
@[simp] theorem State.poisonAtom_landings (atom : Nat) : (s.poisonAtom atom).landings = s.landings := rfl
@[simp] theorem State.poisonAtom_held (atom : Nat) : (s.poisonAtom atom).held = s.held := rfl
@[simp] theorem State.poisonAtom_heldWaiting (atom : Nat) : (s.poisonAtom atom).heldWaiting = s.heldWaiting := rfl
@[simp] theorem State.poisonAtom_seenUses (atom : Nat) : (s.poisonAtom atom).seenUses = s.seenUses := rfl
@[simp] theorem State.poisonAtom_toSwitch (atom : Nat) : (s.poisonAtom atom).toSwitch = s.toSwitch := rfl
@[simp] theorem State.poisonAtom_flowsTx (atom : Nat) : (s.poisonAtom atom).flowsTx = s.flowsTx := rfl
@[simp] theorem State.poisonAtom_links (atom : Nat) : (s.poisonAtom atom).links = s.links := rfl
@[simp] theorem State.poisonAtom_arrived (atom : Nat) : (s.poisonAtom atom).arrived = s.arrived := rfl
@[simp] theorem State.poisonAtom_handed (atom : Nat) : (s.poisonAtom atom).handed = s.handed := rfl
@[simp] theorem State.poisonAtom_flowsRx (atom : Nat) : (s.poisonAtom atom).flowsRx = s.flowsRx := rfl
@[simp] theorem State.poisonAtom_routes (atom : Nat) : (s.poisonAtom atom).routes = s.routes := rfl
@[simp] theorem State.poisonAtom_staged (atom : Nat) : (s.poisonAtom atom).staged = s.staged := rfl
@[simp] theorem State.poisonAtom_colls (atom : Nat) : (s.poisonAtom atom).colls = s.colls := rfl
@[simp] theorem State.poisonAtom_rings (atom : Nat) : (s.poisonAtom atom).rings = s.rings := rfl
@[simp] theorem State.poisonAtom_prepared (atom : Nat) : (s.poisonAtom atom).prepared = s.prepared := rfl
@[simp] theorem State.poisonAtom_contexts (atom : Nat) : (s.poisonAtom atom).contexts = s.contexts := rfl
@[simp] theorem State.poisonAtom_stagedSets (atom : Nat) : (s.poisonAtom atom).stagedSets = s.stagedSets := rfl
@[simp] theorem State.poisonAtom_subscriptions (atom : Nat) : (s.poisonAtom atom).subscriptions = s.subscriptions := rfl
@[simp] theorem State.poisonAtom_nonces (atom : Nat) : (s.poisonAtom atom).nonces = s.nonces := rfl
@[simp] theorem State.poisonAtom_inDoubt (atom : Nat) : (s.poisonAtom atom).inDoubt = s.inDoubt := rfl
@[simp] theorem State.poisonAtom_pinned (atom : Nat) : (s.poisonAtom atom).pinned = s.pinned := rfl
@[simp] theorem State.poisonAtom_linkSeed (atom : Nat) : (s.poisonAtom atom).linkSeed = s.linkSeed := rfl
@[simp] theorem State.poisonAtom_routeAddr (atom : Nat) : (s.poisonAtom atom).routeAddr = s.routeAddr := rfl
@[simp] theorem State.poisonAtom_maps (atom : Nat) : (s.poisonAtom atom).maps = s.maps := rfl
@[simp] theorem State.poisonAtom_mapsNext (atom : Nat) : (s.poisonAtom atom).mapsNext = s.mapsNext := rfl
@[simp] theorem State.poisonAtom_drainForced (atom : Nat) : (s.poisonAtom atom).drainForced = s.drainForced := rfl
@[simp] theorem State.poisonAtom_replays (atom : Nat) : (s.poisonAtom atom).replays = s.replays := rfl
@[simp] theorem State.poisonAtom_capNow (atom : Nat) : (s.poisonAtom atom).capNow = s.capNow := rfl
@[simp] theorem State.poisonAtom_learned (atom : Nat) : (s.poisonAtom atom).learned = s.learned := rfl
@[simp] theorem State.poisonAtom_modelRuns (atom : Nat) : (s.poisonAtom atom).modelRuns = s.modelRuns := rfl
@[simp] theorem State.poisonAtom_hot (atom : Nat) : (s.poisonAtom atom).hot = s.hot := rfl
@[simp] theorem State.poisonAtom_overheated (atom : Nat) : (s.poisonAtom atom).overheated = s.overheated := rfl
@[simp] theorem State.poisonAtom_opTarget (atom : Nat) : (s.poisonAtom atom).opTarget = s.opTarget := rfl
@[simp] theorem State.poisonAtom_stretched (atom : Nat) : (s.poisonAtom atom).stretched = s.stretched := rfl
@[simp] theorem State.poisonAtom_thermTrip (atom : Nat) : (s.poisonAtom atom).thermTrip = s.thermTrip := rfl
@[simp] theorem State.poisonAtom_doffStep (atom : Nat) : (s.poisonAtom atom).doffStep = s.doffStep := rfl
@[simp] theorem State.poisonAtom_doffNow (atom : Nat) : (s.poisonAtom atom).doffNow = s.doffNow := rfl
@[simp] theorem State.poisonAtom_patrolled (atom : Nat) : (s.poisonAtom atom).patrolled = s.patrolled := rfl
@[simp] theorem State.poisonAtom_inputHistory (atom : Nat) : (s.poisonAtom atom).inputHistory = s.inputHistory := rfl
@[simp] theorem State.poisonAtom_lastCounts (atom : Nat) : (s.poisonAtom atom).lastCounts = s.lastCounts := rfl
@[simp] theorem State.poisonAtom_calibrations (atom : Nat) : (s.poisonAtom atom).calibrations = s.calibrations := rfl
@[simp] theorem State.poisonAtom_enforced (atom : Nat) : (s.poisonAtom atom).enforced = s.enforced := rfl
@[simp] theorem State.poisonAtom_lifeShown (atom : Nat) : (s.poisonAtom atom).lifeShown = s.lifeShown := rfl
@[simp] theorem State.poisonAtom_inputOn (atom : Nat) : (s.poisonAtom atom).inputOn = s.inputOn := rfl
@[simp] theorem State.poisonAtom_mrstLow (atom : Nat) : (s.poisonAtom atom).mrstLow = s.mrstLow := rfl
@[simp] theorem State.poisonAtom_perstLow (atom : Nat) : (s.poisonAtom atom).perstLow = s.perstLow := rfl
@[simp] theorem State.poisonAtom_darkQuads (atom : Nat) : (s.poisonAtom atom).darkQuads = s.darkQuads := rfl
@[simp] theorem State.poisonAtom_flOwnLow (atom : Nat) : (s.poisonAtom atom).flOwnLow = s.flOwnLow := rfl
@[simp] theorem State.poisonAtom_straps (atom : Nat) : (s.poisonAtom atom).straps = s.straps := rfl
@[simp] theorem State.poisonAtom_flHold (atom : Nat) : (s.poisonAtom atom).flHold = s.flHold := rfl
@[simp] theorem State.poisonAtom_railFailures (atom : Nat) : (s.poisonAtom atom).railFailures = s.railFailures := rfl
@[simp] theorem State.poisonAtom_resetDue (atom : Nat) : (s.poisonAtom atom).resetDue = s.resetDue := rfl
@[simp] theorem State.poisonAtom_bankA (atom : Nat) : (s.poisonAtom atom).bankA = s.bankA := rfl
@[simp] theorem State.poisonAtom_bankB (atom : Nat) : (s.poisonAtom atom).bankB = s.bankB := rfl
@[simp] theorem State.poisonAtom_storeSalt (atom : Nat) : (s.poisonAtom atom).storeSalt = s.storeSalt := rfl
@[simp] theorem State.poisonAtom_drbg (atom : Nat) : (s.poisonAtom atom).drbg = s.drbg := rfl
@[simp] theorem State.poisonAtom_drbgSeeds (atom : Nat) : (s.poisonAtom atom).drbgSeeds = s.drbgSeeds := rfl
@[simp] theorem State.poisonAtom_retired (atom : Nat) : (s.poisonAtom atom).retired = s.retired := rfl
@[simp] theorem State.poisonAtom_routeMeasure (atom : Nat) : (s.poisonAtom atom).routeMeasure = s.routeMeasure := rfl
@[simp] theorem State.poisonAtom_storeOpened (atom : Nat) : (s.poisonAtom atom).storeOpened = s.storeOpened := rfl
@[simp] theorem State.poisonAtom_stageAddr (atom : Nat) : (s.poisonAtom atom).stageAddr = s.stageAddr := rfl
@[simp] theorem State.poisonAtom_spdm (atom : Nat) : (s.poisonAtom atom).spdm = s.spdm := rfl
@[simp] theorem State.poisonAtom_signing (atom : Nat) : (s.poisonAtom atom).signing = s.signing := rfl
@[simp] theorem State.poisonAtom_eids (atom : Nat) : (s.poisonAtom atom).eids = s.eids := rfl
@[simp] theorem State.poisonAtom_i3cAddr (atom : Nat) : (s.poisonAtom atom).i3cAddr = s.i3cAddr := rfl
@[simp] theorem State.poisonAtom_queues (atom : Nat) : (s.poisonAtom atom).queues = s.queues := rfl
@[simp] theorem State.poisonAtom_windows (atom : Nat) : (s.poisonAtom atom).windows = s.windows := rfl
@[simp] theorem State.poisonAtom_msixTable (atom : Nat) : (s.poisonAtom atom).msixTable = s.msixTable := rfl
@[simp] theorem State.poisonAtom_msixPending (atom : Nat) : (s.poisonAtom atom).msixPending = s.msixPending := rfl
@[simp] theorem State.poisonAtom_msixBusy (atom : Nat) : (s.poisonAtom atom).msixBusy = s.msixBusy := rfl
@[simp] theorem State.poisonAtom_msixOwed (atom : Nat) : (s.poisonAtom atom).msixOwed = s.msixOwed := rfl
@[simp] theorem State.poisonAtom_eventCause (atom : Nat) : (s.poisonAtom atom).eventCause = s.eventCause := rfl
@[simp] theorem State.poisonAtom_eventMask (atom : Nat) : (s.poisonAtom atom).eventMask = s.eventMask := rfl
@[simp] theorem State.poisonAtom_windowMisses (atom : Nat) : (s.poisonAtom atom).windowMisses = s.windowMisses := rfl
@[simp] theorem State.poisonAtom_windowRefusals (atom : Nat) : (s.poisonAtom atom).windowRefusals = s.windowRefusals := rfl
@[simp] theorem State.poisonAtom_bar2Log2 (atom : Nat) : (s.poisonAtom atom).bar2Log2 = s.bar2Log2 := rfl
@[simp] theorem State.poisonAtom_busMaster (atom : Nat) : (s.poisonAtom atom).busMaster = s.busMaster := rfl
@[simp] theorem State.poisonAtom_d3hot (atom : Nat) : (s.poisonAtom atom).d3hot = s.d3hot := rfl
@[simp] theorem State.poisonAtom_linkUp (atom : Nat) : (s.poisonAtom atom).linkUp = s.linkUp := rfl
@[simp] theorem State.poisonAtom_val (atom : Nat) (k' : Key) : (s.poisonAtom atom).val k' = s.val k' := rfl
@[simp] theorem State.poisonAtom_core (atom : Nat) (c' : Nat) : (s.poisonAtom atom).core c' = s.core c' := rfl
@[simp] theorem State.poisonAtom_stepOf (atom : Nat) (j' : Nat) : (s.poisonAtom atom).stepOf j' = s.stepOf j' := rfl
@[simp] theorem State.poisonAtom_clock (atom : Nat) (i : Nat) : (s.poisonAtom atom).clock i = s.clock i := rfl
@[simp] theorem State.poisonAtom_readByte (atom : Nat) (b : Nat) : (s.poisonAtom atom).readByte b = s.readByte b := rfl
@[simp] theorem State.poisonAtom_link (atom : Nat) (q' : Nat) : (s.poisonAtom atom).link q' = s.link q' := rfl
@[simp] theorem State.poisonAtom_hostQueue (atom : Nat) (q' : Nat) : (s.poisonAtom atom).hostQueue q' = s.hostQueue q' := rfl

/-! ### writeMem -/

@[simp] theorem State.writeMem_pending (a : Nat) (bs : List Byte) : (s.writeMem a bs).pending = s.pending := rfl
@[simp] theorem State.writeMem_tick (a : Nat) (bs : List Byte) : (s.writeMem a bs).tick = s.tick := rfl
@[simp] theorem State.writeMem_sent (a : Nat) (bs : List Byte) : (s.writeMem a bs).sent = s.sent := rfl
@[simp] theorem State.writeMem_cycles (a : Nat) (bs : List Byte) : (s.writeMem a bs).cycles = s.cycles := rfl
@[simp] theorem State.writeMem_dict (a : Nat) (bs : List Byte) : (s.writeMem a bs).dict = s.dict := rfl
@[simp] theorem State.writeMem_cores (a : Nat) (bs : List Byte) : (s.writeMem a bs).cores = s.cores := rfl
@[simp] theorem State.writeMem_increments (a : Nat) (bs : List Byte) : (s.writeMem a bs).increments = s.increments := rfl
@[simp] theorem State.writeMem_steps (a : Nat) (bs : List Byte) : (s.writeMem a bs).steps = s.steps := rfl
@[simp] theorem State.writeMem_faultLog (a : Nat) (bs : List Byte) : (s.writeMem a bs).faultLog = s.faultLog := rfl
@[simp] theorem State.writeMem_frecSeq (a : Nat) (bs : List Byte) : (s.writeMem a bs).frecSeq = s.frecSeq := rfl
@[simp] theorem State.writeMem_notedNow (a : Nat) (bs : List Byte) : (s.writeMem a bs).notedNow = s.notedNow := rfl
@[simp] theorem State.writeMem_regions (a : Nat) (bs : List Byte) : (s.writeMem a bs).regions = s.regions := rfl
@[simp] theorem State.writeMem_hbm (a : Nat) (bs : List Byte) : (s.writeMem a bs).hbm = s.hbm := rfl
@[simp] theorem State.writeMem_hbmWaiting (a : Nat) (bs : List Byte) : (s.writeMem a bs).hbmWaiting = s.hbmWaiting := rfl
@[simp] theorem State.writeMem_nextToken (a : Nat) (bs : List Byte) : (s.writeMem a bs).nextToken = s.nextToken := rfl
@[simp] theorem State.writeMem_walks (a : Nat) (bs : List Byte) : (s.writeMem a bs).walks = s.walks := rfl
@[simp] theorem State.writeMem_codec (a : Nat) (bs : List Byte) : (s.writeMem a bs).codec = s.codec := rfl
@[simp] theorem State.writeMem_laneHolds (a : Nat) (bs : List Byte) : (s.writeMem a bs).laneHolds = s.laneHolds := rfl
@[simp] theorem State.writeMem_codecLast (a : Nat) (bs : List Byte) : (s.writeMem a bs).codecLast = s.codecLast := rfl
@[simp] theorem State.writeMem_phases (a : Nat) (bs : List Byte) : (s.writeMem a bs).phases = s.phases := rfl
@[simp] theorem State.writeMem_phaseMet (a : Nat) (bs : List Byte) : (s.writeMem a bs).phaseMet = s.phaseMet := rfl
@[simp] theorem State.writeMem_schedules (a : Nat) (bs : List Byte) : (s.writeMem a bs).schedules = s.schedules := rfl
@[simp] theorem State.writeMem_ids (a : Nat) (bs : List Byte) : (s.writeMem a bs).ids = s.ids := rfl
@[simp] theorem State.writeMem_landings (a : Nat) (bs : List Byte) : (s.writeMem a bs).landings = s.landings := rfl
@[simp] theorem State.writeMem_held (a : Nat) (bs : List Byte) : (s.writeMem a bs).held = s.held := rfl
@[simp] theorem State.writeMem_heldWaiting (a : Nat) (bs : List Byte) : (s.writeMem a bs).heldWaiting = s.heldWaiting := rfl
@[simp] theorem State.writeMem_seenUses (a : Nat) (bs : List Byte) : (s.writeMem a bs).seenUses = s.seenUses := rfl
@[simp] theorem State.writeMem_toSwitch (a : Nat) (bs : List Byte) : (s.writeMem a bs).toSwitch = s.toSwitch := rfl
@[simp] theorem State.writeMem_flowsTx (a : Nat) (bs : List Byte) : (s.writeMem a bs).flowsTx = s.flowsTx := rfl
@[simp] theorem State.writeMem_links (a : Nat) (bs : List Byte) : (s.writeMem a bs).links = s.links := rfl
@[simp] theorem State.writeMem_arrived (a : Nat) (bs : List Byte) : (s.writeMem a bs).arrived = s.arrived := rfl
@[simp] theorem State.writeMem_handed (a : Nat) (bs : List Byte) : (s.writeMem a bs).handed = s.handed := rfl
@[simp] theorem State.writeMem_flowsRx (a : Nat) (bs : List Byte) : (s.writeMem a bs).flowsRx = s.flowsRx := rfl
@[simp] theorem State.writeMem_routes (a : Nat) (bs : List Byte) : (s.writeMem a bs).routes = s.routes := rfl
@[simp] theorem State.writeMem_staged (a : Nat) (bs : List Byte) : (s.writeMem a bs).staged = s.staged := rfl
@[simp] theorem State.writeMem_colls (a : Nat) (bs : List Byte) : (s.writeMem a bs).colls = s.colls := rfl
@[simp] theorem State.writeMem_rings (a : Nat) (bs : List Byte) : (s.writeMem a bs).rings = s.rings := rfl
@[simp] theorem State.writeMem_prepared (a : Nat) (bs : List Byte) : (s.writeMem a bs).prepared = s.prepared := rfl
@[simp] theorem State.writeMem_contexts (a : Nat) (bs : List Byte) : (s.writeMem a bs).contexts = s.contexts := rfl
@[simp] theorem State.writeMem_stagedSets (a : Nat) (bs : List Byte) : (s.writeMem a bs).stagedSets = s.stagedSets := rfl
@[simp] theorem State.writeMem_subscriptions (a : Nat) (bs : List Byte) : (s.writeMem a bs).subscriptions = s.subscriptions := rfl
@[simp] theorem State.writeMem_nonces (a : Nat) (bs : List Byte) : (s.writeMem a bs).nonces = s.nonces := rfl
@[simp] theorem State.writeMem_inDoubt (a : Nat) (bs : List Byte) : (s.writeMem a bs).inDoubt = s.inDoubt := rfl
@[simp] theorem State.writeMem_pinned (a : Nat) (bs : List Byte) : (s.writeMem a bs).pinned = s.pinned := rfl
@[simp] theorem State.writeMem_linkSeed (a : Nat) (bs : List Byte) : (s.writeMem a bs).linkSeed = s.linkSeed := rfl
@[simp] theorem State.writeMem_routeAddr (a : Nat) (bs : List Byte) : (s.writeMem a bs).routeAddr = s.routeAddr := rfl
@[simp] theorem State.writeMem_maps (a : Nat) (bs : List Byte) : (s.writeMem a bs).maps = s.maps := rfl
@[simp] theorem State.writeMem_mapsNext (a : Nat) (bs : List Byte) : (s.writeMem a bs).mapsNext = s.mapsNext := rfl
@[simp] theorem State.writeMem_drainForced (a : Nat) (bs : List Byte) : (s.writeMem a bs).drainForced = s.drainForced := rfl
@[simp] theorem State.writeMem_replays (a : Nat) (bs : List Byte) : (s.writeMem a bs).replays = s.replays := rfl
@[simp] theorem State.writeMem_capNow (a : Nat) (bs : List Byte) : (s.writeMem a bs).capNow = s.capNow := rfl
@[simp] theorem State.writeMem_learned (a : Nat) (bs : List Byte) : (s.writeMem a bs).learned = s.learned := rfl
@[simp] theorem State.writeMem_modelRuns (a : Nat) (bs : List Byte) : (s.writeMem a bs).modelRuns = s.modelRuns := rfl
@[simp] theorem State.writeMem_hot (a : Nat) (bs : List Byte) : (s.writeMem a bs).hot = s.hot := rfl
@[simp] theorem State.writeMem_overheated (a : Nat) (bs : List Byte) : (s.writeMem a bs).overheated = s.overheated := rfl
@[simp] theorem State.writeMem_opTarget (a : Nat) (bs : List Byte) : (s.writeMem a bs).opTarget = s.opTarget := rfl
@[simp] theorem State.writeMem_stretched (a : Nat) (bs : List Byte) : (s.writeMem a bs).stretched = s.stretched := rfl
@[simp] theorem State.writeMem_thermTrip (a : Nat) (bs : List Byte) : (s.writeMem a bs).thermTrip = s.thermTrip := rfl
@[simp] theorem State.writeMem_doffStep (a : Nat) (bs : List Byte) : (s.writeMem a bs).doffStep = s.doffStep := rfl
@[simp] theorem State.writeMem_doffNow (a : Nat) (bs : List Byte) : (s.writeMem a bs).doffNow = s.doffNow := rfl
@[simp] theorem State.writeMem_patrolled (a : Nat) (bs : List Byte) : (s.writeMem a bs).patrolled = s.patrolled := rfl
@[simp] theorem State.writeMem_inputHistory (a : Nat) (bs : List Byte) : (s.writeMem a bs).inputHistory = s.inputHistory := rfl
@[simp] theorem State.writeMem_lastCounts (a : Nat) (bs : List Byte) : (s.writeMem a bs).lastCounts = s.lastCounts := rfl
@[simp] theorem State.writeMem_calibrations (a : Nat) (bs : List Byte) : (s.writeMem a bs).calibrations = s.calibrations := rfl
@[simp] theorem State.writeMem_enforced (a : Nat) (bs : List Byte) : (s.writeMem a bs).enforced = s.enforced := rfl
@[simp] theorem State.writeMem_lifeShown (a : Nat) (bs : List Byte) : (s.writeMem a bs).lifeShown = s.lifeShown := rfl
@[simp] theorem State.writeMem_inputOn (a : Nat) (bs : List Byte) : (s.writeMem a bs).inputOn = s.inputOn := rfl
@[simp] theorem State.writeMem_mrstLow (a : Nat) (bs : List Byte) : (s.writeMem a bs).mrstLow = s.mrstLow := rfl
@[simp] theorem State.writeMem_perstLow (a : Nat) (bs : List Byte) : (s.writeMem a bs).perstLow = s.perstLow := rfl
@[simp] theorem State.writeMem_darkQuads (a : Nat) (bs : List Byte) : (s.writeMem a bs).darkQuads = s.darkQuads := rfl
@[simp] theorem State.writeMem_flOwnLow (a : Nat) (bs : List Byte) : (s.writeMem a bs).flOwnLow = s.flOwnLow := rfl
@[simp] theorem State.writeMem_straps (a : Nat) (bs : List Byte) : (s.writeMem a bs).straps = s.straps := rfl
@[simp] theorem State.writeMem_flHold (a : Nat) (bs : List Byte) : (s.writeMem a bs).flHold = s.flHold := rfl
@[simp] theorem State.writeMem_railFailures (a : Nat) (bs : List Byte) : (s.writeMem a bs).railFailures = s.railFailures := rfl
@[simp] theorem State.writeMem_resetDue (a : Nat) (bs : List Byte) : (s.writeMem a bs).resetDue = s.resetDue := rfl
@[simp] theorem State.writeMem_bankA (a : Nat) (bs : List Byte) : (s.writeMem a bs).bankA = s.bankA := rfl
@[simp] theorem State.writeMem_bankB (a : Nat) (bs : List Byte) : (s.writeMem a bs).bankB = s.bankB := rfl
@[simp] theorem State.writeMem_storeSalt (a : Nat) (bs : List Byte) : (s.writeMem a bs).storeSalt = s.storeSalt := rfl
@[simp] theorem State.writeMem_drbg (a : Nat) (bs : List Byte) : (s.writeMem a bs).drbg = s.drbg := rfl
@[simp] theorem State.writeMem_drbgSeeds (a : Nat) (bs : List Byte) : (s.writeMem a bs).drbgSeeds = s.drbgSeeds := rfl
@[simp] theorem State.writeMem_retired (a : Nat) (bs : List Byte) : (s.writeMem a bs).retired = s.retired := rfl
@[simp] theorem State.writeMem_routeMeasure (a : Nat) (bs : List Byte) : (s.writeMem a bs).routeMeasure = s.routeMeasure := rfl
@[simp] theorem State.writeMem_storeOpened (a : Nat) (bs : List Byte) : (s.writeMem a bs).storeOpened = s.storeOpened := rfl
@[simp] theorem State.writeMem_stageAddr (a : Nat) (bs : List Byte) : (s.writeMem a bs).stageAddr = s.stageAddr := rfl
@[simp] theorem State.writeMem_spdm (a : Nat) (bs : List Byte) : (s.writeMem a bs).spdm = s.spdm := rfl
@[simp] theorem State.writeMem_signing (a : Nat) (bs : List Byte) : (s.writeMem a bs).signing = s.signing := rfl
@[simp] theorem State.writeMem_eids (a : Nat) (bs : List Byte) : (s.writeMem a bs).eids = s.eids := rfl
@[simp] theorem State.writeMem_i3cAddr (a : Nat) (bs : List Byte) : (s.writeMem a bs).i3cAddr = s.i3cAddr := rfl
@[simp] theorem State.writeMem_queues (a : Nat) (bs : List Byte) : (s.writeMem a bs).queues = s.queues := rfl
@[simp] theorem State.writeMem_windows (a : Nat) (bs : List Byte) : (s.writeMem a bs).windows = s.windows := rfl
@[simp] theorem State.writeMem_msixTable (a : Nat) (bs : List Byte) : (s.writeMem a bs).msixTable = s.msixTable := rfl
@[simp] theorem State.writeMem_msixPending (a : Nat) (bs : List Byte) : (s.writeMem a bs).msixPending = s.msixPending := rfl
@[simp] theorem State.writeMem_msixBusy (a : Nat) (bs : List Byte) : (s.writeMem a bs).msixBusy = s.msixBusy := rfl
@[simp] theorem State.writeMem_msixOwed (a : Nat) (bs : List Byte) : (s.writeMem a bs).msixOwed = s.msixOwed := rfl
@[simp] theorem State.writeMem_eventCause (a : Nat) (bs : List Byte) : (s.writeMem a bs).eventCause = s.eventCause := rfl
@[simp] theorem State.writeMem_eventMask (a : Nat) (bs : List Byte) : (s.writeMem a bs).eventMask = s.eventMask := rfl
@[simp] theorem State.writeMem_windowMisses (a : Nat) (bs : List Byte) : (s.writeMem a bs).windowMisses = s.windowMisses := rfl
@[simp] theorem State.writeMem_windowRefusals (a : Nat) (bs : List Byte) : (s.writeMem a bs).windowRefusals = s.windowRefusals := rfl
@[simp] theorem State.writeMem_bar2Log2 (a : Nat) (bs : List Byte) : (s.writeMem a bs).bar2Log2 = s.bar2Log2 := rfl
@[simp] theorem State.writeMem_busMaster (a : Nat) (bs : List Byte) : (s.writeMem a bs).busMaster = s.busMaster := rfl
@[simp] theorem State.writeMem_d3hot (a : Nat) (bs : List Byte) : (s.writeMem a bs).d3hot = s.d3hot := rfl
@[simp] theorem State.writeMem_linkUp (a : Nat) (bs : List Byte) : (s.writeMem a bs).linkUp = s.linkUp := rfl
@[simp] theorem State.writeMem_val (a : Nat) (bs : List Byte) (k' : Key) : (s.writeMem a bs).val k' = s.val k' := rfl
@[simp] theorem State.writeMem_core (a : Nat) (bs : List Byte) (c' : Nat) : (s.writeMem a bs).core c' = s.core c' := rfl
@[simp] theorem State.writeMem_stepOf (a : Nat) (bs : List Byte) (j' : Nat) : (s.writeMem a bs).stepOf j' = s.stepOf j' := rfl
@[simp] theorem State.writeMem_clock (a : Nat) (bs : List Byte) (i : Nat) : (s.writeMem a bs).clock i = s.clock i := rfl
@[simp] theorem State.writeMem_link (a : Nat) (bs : List Byte) (q' : Nat) : (s.writeMem a bs).link q' = s.link q' := rfl
@[simp] theorem State.writeMem_hostQueue (a : Nat) (bs : List Byte) (q' : Nat) : (s.writeMem a bs).hostQueue q' = s.hostQueue q' := rfl

/-! ### clearMem -/

@[simp] theorem State.clearMem_pending (a n : Nat) : (s.clearMem a n).pending = s.pending := rfl
@[simp] theorem State.clearMem_tick (a n : Nat) : (s.clearMem a n).tick = s.tick := rfl
@[simp] theorem State.clearMem_sent (a n : Nat) : (s.clearMem a n).sent = s.sent := rfl
@[simp] theorem State.clearMem_cycles (a n : Nat) : (s.clearMem a n).cycles = s.cycles := rfl
@[simp] theorem State.clearMem_dict (a n : Nat) : (s.clearMem a n).dict = s.dict := rfl
@[simp] theorem State.clearMem_cores (a n : Nat) : (s.clearMem a n).cores = s.cores := rfl
@[simp] theorem State.clearMem_increments (a n : Nat) : (s.clearMem a n).increments = s.increments := rfl
@[simp] theorem State.clearMem_steps (a n : Nat) : (s.clearMem a n).steps = s.steps := rfl
@[simp] theorem State.clearMem_faultLog (a n : Nat) : (s.clearMem a n).faultLog = s.faultLog := rfl
@[simp] theorem State.clearMem_frecSeq (a n : Nat) : (s.clearMem a n).frecSeq = s.frecSeq := rfl
@[simp] theorem State.clearMem_notedNow (a n : Nat) : (s.clearMem a n).notedNow = s.notedNow := rfl
@[simp] theorem State.clearMem_regions (a n : Nat) : (s.clearMem a n).regions = s.regions := rfl
@[simp] theorem State.clearMem_hbm (a n : Nat) : (s.clearMem a n).hbm = s.hbm := rfl
@[simp] theorem State.clearMem_hbmWaiting (a n : Nat) : (s.clearMem a n).hbmWaiting = s.hbmWaiting := rfl
@[simp] theorem State.clearMem_nextToken (a n : Nat) : (s.clearMem a n).nextToken = s.nextToken := rfl
@[simp] theorem State.clearMem_walks (a n : Nat) : (s.clearMem a n).walks = s.walks := rfl
@[simp] theorem State.clearMem_codec (a n : Nat) : (s.clearMem a n).codec = s.codec := rfl
@[simp] theorem State.clearMem_laneHolds (a n : Nat) : (s.clearMem a n).laneHolds = s.laneHolds := rfl
@[simp] theorem State.clearMem_codecLast (a n : Nat) : (s.clearMem a n).codecLast = s.codecLast := rfl
@[simp] theorem State.clearMem_phases (a n : Nat) : (s.clearMem a n).phases = s.phases := rfl
@[simp] theorem State.clearMem_phaseMet (a n : Nat) : (s.clearMem a n).phaseMet = s.phaseMet := rfl
@[simp] theorem State.clearMem_schedules (a n : Nat) : (s.clearMem a n).schedules = s.schedules := rfl
@[simp] theorem State.clearMem_ids (a n : Nat) : (s.clearMem a n).ids = s.ids := rfl
@[simp] theorem State.clearMem_landings (a n : Nat) : (s.clearMem a n).landings = s.landings := rfl
@[simp] theorem State.clearMem_held (a n : Nat) : (s.clearMem a n).held = s.held := rfl
@[simp] theorem State.clearMem_heldWaiting (a n : Nat) : (s.clearMem a n).heldWaiting = s.heldWaiting := rfl
@[simp] theorem State.clearMem_seenUses (a n : Nat) : (s.clearMem a n).seenUses = s.seenUses := rfl
@[simp] theorem State.clearMem_toSwitch (a n : Nat) : (s.clearMem a n).toSwitch = s.toSwitch := rfl
@[simp] theorem State.clearMem_flowsTx (a n : Nat) : (s.clearMem a n).flowsTx = s.flowsTx := rfl
@[simp] theorem State.clearMem_links (a n : Nat) : (s.clearMem a n).links = s.links := rfl
@[simp] theorem State.clearMem_arrived (a n : Nat) : (s.clearMem a n).arrived = s.arrived := rfl
@[simp] theorem State.clearMem_handed (a n : Nat) : (s.clearMem a n).handed = s.handed := rfl
@[simp] theorem State.clearMem_flowsRx (a n : Nat) : (s.clearMem a n).flowsRx = s.flowsRx := rfl
@[simp] theorem State.clearMem_routes (a n : Nat) : (s.clearMem a n).routes = s.routes := rfl
@[simp] theorem State.clearMem_staged (a n : Nat) : (s.clearMem a n).staged = s.staged := rfl
@[simp] theorem State.clearMem_colls (a n : Nat) : (s.clearMem a n).colls = s.colls := rfl
@[simp] theorem State.clearMem_rings (a n : Nat) : (s.clearMem a n).rings = s.rings := rfl
@[simp] theorem State.clearMem_prepared (a n : Nat) : (s.clearMem a n).prepared = s.prepared := rfl
@[simp] theorem State.clearMem_contexts (a n : Nat) : (s.clearMem a n).contexts = s.contexts := rfl
@[simp] theorem State.clearMem_stagedSets (a n : Nat) : (s.clearMem a n).stagedSets = s.stagedSets := rfl
@[simp] theorem State.clearMem_subscriptions (a n : Nat) : (s.clearMem a n).subscriptions = s.subscriptions := rfl
@[simp] theorem State.clearMem_nonces (a n : Nat) : (s.clearMem a n).nonces = s.nonces := rfl
@[simp] theorem State.clearMem_inDoubt (a n : Nat) : (s.clearMem a n).inDoubt = s.inDoubt := rfl
@[simp] theorem State.clearMem_pinned (a n : Nat) : (s.clearMem a n).pinned = s.pinned := rfl
@[simp] theorem State.clearMem_linkSeed (a n : Nat) : (s.clearMem a n).linkSeed = s.linkSeed := rfl
@[simp] theorem State.clearMem_routeAddr (a n : Nat) : (s.clearMem a n).routeAddr = s.routeAddr := rfl
@[simp] theorem State.clearMem_maps (a n : Nat) : (s.clearMem a n).maps = s.maps := rfl
@[simp] theorem State.clearMem_mapsNext (a n : Nat) : (s.clearMem a n).mapsNext = s.mapsNext := rfl
@[simp] theorem State.clearMem_drainForced (a n : Nat) : (s.clearMem a n).drainForced = s.drainForced := rfl
@[simp] theorem State.clearMem_replays (a n : Nat) : (s.clearMem a n).replays = s.replays := rfl
@[simp] theorem State.clearMem_capNow (a n : Nat) : (s.clearMem a n).capNow = s.capNow := rfl
@[simp] theorem State.clearMem_learned (a n : Nat) : (s.clearMem a n).learned = s.learned := rfl
@[simp] theorem State.clearMem_modelRuns (a n : Nat) : (s.clearMem a n).modelRuns = s.modelRuns := rfl
@[simp] theorem State.clearMem_hot (a n : Nat) : (s.clearMem a n).hot = s.hot := rfl
@[simp] theorem State.clearMem_overheated (a n : Nat) : (s.clearMem a n).overheated = s.overheated := rfl
@[simp] theorem State.clearMem_opTarget (a n : Nat) : (s.clearMem a n).opTarget = s.opTarget := rfl
@[simp] theorem State.clearMem_stretched (a n : Nat) : (s.clearMem a n).stretched = s.stretched := rfl
@[simp] theorem State.clearMem_thermTrip (a n : Nat) : (s.clearMem a n).thermTrip = s.thermTrip := rfl
@[simp] theorem State.clearMem_doffStep (a n : Nat) : (s.clearMem a n).doffStep = s.doffStep := rfl
@[simp] theorem State.clearMem_doffNow (a n : Nat) : (s.clearMem a n).doffNow = s.doffNow := rfl
@[simp] theorem State.clearMem_patrolled (a n : Nat) : (s.clearMem a n).patrolled = s.patrolled := rfl
@[simp] theorem State.clearMem_inputHistory (a n : Nat) : (s.clearMem a n).inputHistory = s.inputHistory := rfl
@[simp] theorem State.clearMem_lastCounts (a n : Nat) : (s.clearMem a n).lastCounts = s.lastCounts := rfl
@[simp] theorem State.clearMem_calibrations (a n : Nat) : (s.clearMem a n).calibrations = s.calibrations := rfl
@[simp] theorem State.clearMem_enforced (a n : Nat) : (s.clearMem a n).enforced = s.enforced := rfl
@[simp] theorem State.clearMem_lifeShown (a n : Nat) : (s.clearMem a n).lifeShown = s.lifeShown := rfl
@[simp] theorem State.clearMem_inputOn (a n : Nat) : (s.clearMem a n).inputOn = s.inputOn := rfl
@[simp] theorem State.clearMem_mrstLow (a n : Nat) : (s.clearMem a n).mrstLow = s.mrstLow := rfl
@[simp] theorem State.clearMem_perstLow (a n : Nat) : (s.clearMem a n).perstLow = s.perstLow := rfl
@[simp] theorem State.clearMem_darkQuads (a n : Nat) : (s.clearMem a n).darkQuads = s.darkQuads := rfl
@[simp] theorem State.clearMem_flOwnLow (a n : Nat) : (s.clearMem a n).flOwnLow = s.flOwnLow := rfl
@[simp] theorem State.clearMem_straps (a n : Nat) : (s.clearMem a n).straps = s.straps := rfl
@[simp] theorem State.clearMem_flHold (a n : Nat) : (s.clearMem a n).flHold = s.flHold := rfl
@[simp] theorem State.clearMem_railFailures (a n : Nat) : (s.clearMem a n).railFailures = s.railFailures := rfl
@[simp] theorem State.clearMem_resetDue (a n : Nat) : (s.clearMem a n).resetDue = s.resetDue := rfl
@[simp] theorem State.clearMem_bankA (a n : Nat) : (s.clearMem a n).bankA = s.bankA := rfl
@[simp] theorem State.clearMem_bankB (a n : Nat) : (s.clearMem a n).bankB = s.bankB := rfl
@[simp] theorem State.clearMem_storeSalt (a n : Nat) : (s.clearMem a n).storeSalt = s.storeSalt := rfl
@[simp] theorem State.clearMem_drbg (a n : Nat) : (s.clearMem a n).drbg = s.drbg := rfl
@[simp] theorem State.clearMem_drbgSeeds (a n : Nat) : (s.clearMem a n).drbgSeeds = s.drbgSeeds := rfl
@[simp] theorem State.clearMem_retired (a n : Nat) : (s.clearMem a n).retired = s.retired := rfl
@[simp] theorem State.clearMem_routeMeasure (a n : Nat) : (s.clearMem a n).routeMeasure = s.routeMeasure := rfl
@[simp] theorem State.clearMem_storeOpened (a n : Nat) : (s.clearMem a n).storeOpened = s.storeOpened := rfl
@[simp] theorem State.clearMem_stageAddr (a n : Nat) : (s.clearMem a n).stageAddr = s.stageAddr := rfl
@[simp] theorem State.clearMem_spdm (a n : Nat) : (s.clearMem a n).spdm = s.spdm := rfl
@[simp] theorem State.clearMem_signing (a n : Nat) : (s.clearMem a n).signing = s.signing := rfl
@[simp] theorem State.clearMem_eids (a n : Nat) : (s.clearMem a n).eids = s.eids := rfl
@[simp] theorem State.clearMem_i3cAddr (a n : Nat) : (s.clearMem a n).i3cAddr = s.i3cAddr := rfl
@[simp] theorem State.clearMem_queues (a n : Nat) : (s.clearMem a n).queues = s.queues := rfl
@[simp] theorem State.clearMem_windows (a n : Nat) : (s.clearMem a n).windows = s.windows := rfl
@[simp] theorem State.clearMem_msixTable (a n : Nat) : (s.clearMem a n).msixTable = s.msixTable := rfl
@[simp] theorem State.clearMem_msixPending (a n : Nat) : (s.clearMem a n).msixPending = s.msixPending := rfl
@[simp] theorem State.clearMem_msixBusy (a n : Nat) : (s.clearMem a n).msixBusy = s.msixBusy := rfl
@[simp] theorem State.clearMem_msixOwed (a n : Nat) : (s.clearMem a n).msixOwed = s.msixOwed := rfl
@[simp] theorem State.clearMem_eventCause (a n : Nat) : (s.clearMem a n).eventCause = s.eventCause := rfl
@[simp] theorem State.clearMem_eventMask (a n : Nat) : (s.clearMem a n).eventMask = s.eventMask := rfl
@[simp] theorem State.clearMem_windowMisses (a n : Nat) : (s.clearMem a n).windowMisses = s.windowMisses := rfl
@[simp] theorem State.clearMem_windowRefusals (a n : Nat) : (s.clearMem a n).windowRefusals = s.windowRefusals := rfl
@[simp] theorem State.clearMem_bar2Log2 (a n : Nat) : (s.clearMem a n).bar2Log2 = s.bar2Log2 := rfl
@[simp] theorem State.clearMem_busMaster (a n : Nat) : (s.clearMem a n).busMaster = s.busMaster := rfl
@[simp] theorem State.clearMem_d3hot (a n : Nat) : (s.clearMem a n).d3hot = s.d3hot := rfl
@[simp] theorem State.clearMem_linkUp (a n : Nat) : (s.clearMem a n).linkUp = s.linkUp := rfl
@[simp] theorem State.clearMem_val (a n : Nat) (k' : Key) : (s.clearMem a n).val k' = s.val k' := rfl
@[simp] theorem State.clearMem_core (a n : Nat) (c' : Nat) : (s.clearMem a n).core c' = s.core c' := rfl
@[simp] theorem State.clearMem_stepOf (a n : Nat) (j' : Nat) : (s.clearMem a n).stepOf j' = s.stepOf j' := rfl
@[simp] theorem State.clearMem_clock (a n : Nat) (i : Nat) : (s.clearMem a n).clock i = s.clock i := rfl
@[simp] theorem State.clearMem_link (a n : Nat) (q' : Nat) : (s.clearMem a n).link q' = s.link q' := rfl
@[simp] theorem State.clearMem_hostQueue (a n : Nat) (q' : Nat) : (s.clearMem a n).hostQueue q' = s.hostQueue q' := rfl

/-! ### setLink -/

@[simp] theorem State.setLink_pending (p : Nat) (x : Link) : (s.setLink p x).pending = s.pending := rfl
@[simp] theorem State.setLink_tick (p : Nat) (x : Link) : (s.setLink p x).tick = s.tick := rfl
@[simp] theorem State.setLink_sent (p : Nat) (x : Link) : (s.setLink p x).sent = s.sent := rfl
@[simp] theorem State.setLink_cycles (p : Nat) (x : Link) : (s.setLink p x).cycles = s.cycles := rfl
@[simp] theorem State.setLink_dict (p : Nat) (x : Link) : (s.setLink p x).dict = s.dict := rfl
@[simp] theorem State.setLink_mem (p : Nat) (x : Link) : (s.setLink p x).mem = s.mem := rfl
@[simp] theorem State.setLink_poison (p : Nat) (x : Link) : (s.setLink p x).poison = s.poison := rfl
@[simp] theorem State.setLink_cores (p : Nat) (x : Link) : (s.setLink p x).cores = s.cores := rfl
@[simp] theorem State.setLink_increments (p : Nat) (x : Link) : (s.setLink p x).increments = s.increments := rfl
@[simp] theorem State.setLink_steps (p : Nat) (x : Link) : (s.setLink p x).steps = s.steps := rfl
@[simp] theorem State.setLink_faultLog (p : Nat) (x : Link) : (s.setLink p x).faultLog = s.faultLog := rfl
@[simp] theorem State.setLink_frecSeq (p : Nat) (x : Link) : (s.setLink p x).frecSeq = s.frecSeq := rfl
@[simp] theorem State.setLink_notedNow (p : Nat) (x : Link) : (s.setLink p x).notedNow = s.notedNow := rfl
@[simp] theorem State.setLink_regions (p : Nat) (x : Link) : (s.setLink p x).regions = s.regions := rfl
@[simp] theorem State.setLink_hbm (p : Nat) (x : Link) : (s.setLink p x).hbm = s.hbm := rfl
@[simp] theorem State.setLink_hbmWaiting (p : Nat) (x : Link) : (s.setLink p x).hbmWaiting = s.hbmWaiting := rfl
@[simp] theorem State.setLink_nextToken (p : Nat) (x : Link) : (s.setLink p x).nextToken = s.nextToken := rfl
@[simp] theorem State.setLink_walks (p : Nat) (x : Link) : (s.setLink p x).walks = s.walks := rfl
@[simp] theorem State.setLink_codec (p : Nat) (x : Link) : (s.setLink p x).codec = s.codec := rfl
@[simp] theorem State.setLink_laneHolds (p : Nat) (x : Link) : (s.setLink p x).laneHolds = s.laneHolds := rfl
@[simp] theorem State.setLink_codecLast (p : Nat) (x : Link) : (s.setLink p x).codecLast = s.codecLast := rfl
@[simp] theorem State.setLink_phases (p : Nat) (x : Link) : (s.setLink p x).phases = s.phases := rfl
@[simp] theorem State.setLink_phaseMet (p : Nat) (x : Link) : (s.setLink p x).phaseMet = s.phaseMet := rfl
@[simp] theorem State.setLink_schedules (p : Nat) (x : Link) : (s.setLink p x).schedules = s.schedules := rfl
@[simp] theorem State.setLink_ids (p : Nat) (x : Link) : (s.setLink p x).ids = s.ids := rfl
@[simp] theorem State.setLink_landings (p : Nat) (x : Link) : (s.setLink p x).landings = s.landings := rfl
@[simp] theorem State.setLink_held (p : Nat) (x : Link) : (s.setLink p x).held = s.held := rfl
@[simp] theorem State.setLink_heldWaiting (p : Nat) (x : Link) : (s.setLink p x).heldWaiting = s.heldWaiting := rfl
@[simp] theorem State.setLink_seenUses (p : Nat) (x : Link) : (s.setLink p x).seenUses = s.seenUses := rfl
@[simp] theorem State.setLink_toSwitch (p : Nat) (x : Link) : (s.setLink p x).toSwitch = s.toSwitch := rfl
@[simp] theorem State.setLink_flowsTx (p : Nat) (x : Link) : (s.setLink p x).flowsTx = s.flowsTx := rfl
@[simp] theorem State.setLink_arrived (p : Nat) (x : Link) : (s.setLink p x).arrived = s.arrived := rfl
@[simp] theorem State.setLink_handed (p : Nat) (x : Link) : (s.setLink p x).handed = s.handed := rfl
@[simp] theorem State.setLink_flowsRx (p : Nat) (x : Link) : (s.setLink p x).flowsRx = s.flowsRx := rfl
@[simp] theorem State.setLink_routes (p : Nat) (x : Link) : (s.setLink p x).routes = s.routes := rfl
@[simp] theorem State.setLink_staged (p : Nat) (x : Link) : (s.setLink p x).staged = s.staged := rfl
@[simp] theorem State.setLink_colls (p : Nat) (x : Link) : (s.setLink p x).colls = s.colls := rfl
@[simp] theorem State.setLink_rings (p : Nat) (x : Link) : (s.setLink p x).rings = s.rings := rfl
@[simp] theorem State.setLink_prepared (p : Nat) (x : Link) : (s.setLink p x).prepared = s.prepared := rfl
@[simp] theorem State.setLink_contexts (p : Nat) (x : Link) : (s.setLink p x).contexts = s.contexts := rfl
@[simp] theorem State.setLink_stagedSets (p : Nat) (x : Link) : (s.setLink p x).stagedSets = s.stagedSets := rfl
@[simp] theorem State.setLink_subscriptions (p : Nat) (x : Link) : (s.setLink p x).subscriptions = s.subscriptions := rfl
@[simp] theorem State.setLink_nonces (p : Nat) (x : Link) : (s.setLink p x).nonces = s.nonces := rfl
@[simp] theorem State.setLink_inDoubt (p : Nat) (x : Link) : (s.setLink p x).inDoubt = s.inDoubt := rfl
@[simp] theorem State.setLink_pinned (p : Nat) (x : Link) : (s.setLink p x).pinned = s.pinned := rfl
@[simp] theorem State.setLink_linkSeed (p : Nat) (x : Link) : (s.setLink p x).linkSeed = s.linkSeed := rfl
@[simp] theorem State.setLink_routeAddr (p : Nat) (x : Link) : (s.setLink p x).routeAddr = s.routeAddr := rfl
@[simp] theorem State.setLink_maps (p : Nat) (x : Link) : (s.setLink p x).maps = s.maps := rfl
@[simp] theorem State.setLink_mapsNext (p : Nat) (x : Link) : (s.setLink p x).mapsNext = s.mapsNext := rfl
@[simp] theorem State.setLink_drainForced (p : Nat) (x : Link) : (s.setLink p x).drainForced = s.drainForced := rfl
@[simp] theorem State.setLink_replays (p : Nat) (x : Link) : (s.setLink p x).replays = s.replays := rfl
@[simp] theorem State.setLink_capNow (p : Nat) (x : Link) : (s.setLink p x).capNow = s.capNow := rfl
@[simp] theorem State.setLink_learned (p : Nat) (x : Link) : (s.setLink p x).learned = s.learned := rfl
@[simp] theorem State.setLink_modelRuns (p : Nat) (x : Link) : (s.setLink p x).modelRuns = s.modelRuns := rfl
@[simp] theorem State.setLink_hot (p : Nat) (x : Link) : (s.setLink p x).hot = s.hot := rfl
@[simp] theorem State.setLink_overheated (p : Nat) (x : Link) : (s.setLink p x).overheated = s.overheated := rfl
@[simp] theorem State.setLink_opTarget (p : Nat) (x : Link) : (s.setLink p x).opTarget = s.opTarget := rfl
@[simp] theorem State.setLink_stretched (p : Nat) (x : Link) : (s.setLink p x).stretched = s.stretched := rfl
@[simp] theorem State.setLink_thermTrip (p : Nat) (x : Link) : (s.setLink p x).thermTrip = s.thermTrip := rfl
@[simp] theorem State.setLink_doffStep (p : Nat) (x : Link) : (s.setLink p x).doffStep = s.doffStep := rfl
@[simp] theorem State.setLink_doffNow (p : Nat) (x : Link) : (s.setLink p x).doffNow = s.doffNow := rfl
@[simp] theorem State.setLink_patrolled (p : Nat) (x : Link) : (s.setLink p x).patrolled = s.patrolled := rfl
@[simp] theorem State.setLink_inputHistory (p : Nat) (x : Link) : (s.setLink p x).inputHistory = s.inputHistory := rfl
@[simp] theorem State.setLink_lastCounts (p : Nat) (x : Link) : (s.setLink p x).lastCounts = s.lastCounts := rfl
@[simp] theorem State.setLink_calibrations (p : Nat) (x : Link) : (s.setLink p x).calibrations = s.calibrations := rfl
@[simp] theorem State.setLink_enforced (p : Nat) (x : Link) : (s.setLink p x).enforced = s.enforced := rfl
@[simp] theorem State.setLink_lifeShown (p : Nat) (x : Link) : (s.setLink p x).lifeShown = s.lifeShown := rfl
@[simp] theorem State.setLink_inputOn (p : Nat) (x : Link) : (s.setLink p x).inputOn = s.inputOn := rfl
@[simp] theorem State.setLink_mrstLow (p : Nat) (x : Link) : (s.setLink p x).mrstLow = s.mrstLow := rfl
@[simp] theorem State.setLink_perstLow (p : Nat) (x : Link) : (s.setLink p x).perstLow = s.perstLow := rfl
@[simp] theorem State.setLink_darkQuads (p : Nat) (x : Link) : (s.setLink p x).darkQuads = s.darkQuads := rfl
@[simp] theorem State.setLink_flOwnLow (p : Nat) (x : Link) : (s.setLink p x).flOwnLow = s.flOwnLow := rfl
@[simp] theorem State.setLink_straps (p : Nat) (x : Link) : (s.setLink p x).straps = s.straps := rfl
@[simp] theorem State.setLink_flHold (p : Nat) (x : Link) : (s.setLink p x).flHold = s.flHold := rfl
@[simp] theorem State.setLink_railFailures (p : Nat) (x : Link) : (s.setLink p x).railFailures = s.railFailures := rfl
@[simp] theorem State.setLink_resetDue (p : Nat) (x : Link) : (s.setLink p x).resetDue = s.resetDue := rfl
@[simp] theorem State.setLink_bankA (p : Nat) (x : Link) : (s.setLink p x).bankA = s.bankA := rfl
@[simp] theorem State.setLink_bankB (p : Nat) (x : Link) : (s.setLink p x).bankB = s.bankB := rfl
@[simp] theorem State.setLink_storeSalt (p : Nat) (x : Link) : (s.setLink p x).storeSalt = s.storeSalt := rfl
@[simp] theorem State.setLink_drbg (p : Nat) (x : Link) : (s.setLink p x).drbg = s.drbg := rfl
@[simp] theorem State.setLink_drbgSeeds (p : Nat) (x : Link) : (s.setLink p x).drbgSeeds = s.drbgSeeds := rfl
@[simp] theorem State.setLink_retired (p : Nat) (x : Link) : (s.setLink p x).retired = s.retired := rfl
@[simp] theorem State.setLink_routeMeasure (p : Nat) (x : Link) : (s.setLink p x).routeMeasure = s.routeMeasure := rfl
@[simp] theorem State.setLink_storeOpened (p : Nat) (x : Link) : (s.setLink p x).storeOpened = s.storeOpened := rfl
@[simp] theorem State.setLink_stageAddr (p : Nat) (x : Link) : (s.setLink p x).stageAddr = s.stageAddr := rfl
@[simp] theorem State.setLink_spdm (p : Nat) (x : Link) : (s.setLink p x).spdm = s.spdm := rfl
@[simp] theorem State.setLink_signing (p : Nat) (x : Link) : (s.setLink p x).signing = s.signing := rfl
@[simp] theorem State.setLink_eids (p : Nat) (x : Link) : (s.setLink p x).eids = s.eids := rfl
@[simp] theorem State.setLink_i3cAddr (p : Nat) (x : Link) : (s.setLink p x).i3cAddr = s.i3cAddr := rfl
@[simp] theorem State.setLink_queues (p : Nat) (x : Link) : (s.setLink p x).queues = s.queues := rfl
@[simp] theorem State.setLink_windows (p : Nat) (x : Link) : (s.setLink p x).windows = s.windows := rfl
@[simp] theorem State.setLink_msixTable (p : Nat) (x : Link) : (s.setLink p x).msixTable = s.msixTable := rfl
@[simp] theorem State.setLink_msixPending (p : Nat) (x : Link) : (s.setLink p x).msixPending = s.msixPending := rfl
@[simp] theorem State.setLink_msixBusy (p : Nat) (x : Link) : (s.setLink p x).msixBusy = s.msixBusy := rfl
@[simp] theorem State.setLink_msixOwed (p : Nat) (x : Link) : (s.setLink p x).msixOwed = s.msixOwed := rfl
@[simp] theorem State.setLink_eventCause (p : Nat) (x : Link) : (s.setLink p x).eventCause = s.eventCause := rfl
@[simp] theorem State.setLink_eventMask (p : Nat) (x : Link) : (s.setLink p x).eventMask = s.eventMask := rfl
@[simp] theorem State.setLink_windowMisses (p : Nat) (x : Link) : (s.setLink p x).windowMisses = s.windowMisses := rfl
@[simp] theorem State.setLink_windowRefusals (p : Nat) (x : Link) : (s.setLink p x).windowRefusals = s.windowRefusals := rfl
@[simp] theorem State.setLink_bar2Log2 (p : Nat) (x : Link) : (s.setLink p x).bar2Log2 = s.bar2Log2 := rfl
@[simp] theorem State.setLink_busMaster (p : Nat) (x : Link) : (s.setLink p x).busMaster = s.busMaster := rfl
@[simp] theorem State.setLink_d3hot (p : Nat) (x : Link) : (s.setLink p x).d3hot = s.d3hot := rfl
@[simp] theorem State.setLink_linkUp (p : Nat) (x : Link) : (s.setLink p x).linkUp = s.linkUp := rfl
@[simp] theorem State.setLink_val (p : Nat) (x : Link) (k' : Key) : (s.setLink p x).val k' = s.val k' := rfl
@[simp] theorem State.setLink_core (p : Nat) (x : Link) (c' : Nat) : (s.setLink p x).core c' = s.core c' := rfl
@[simp] theorem State.setLink_stepOf (p : Nat) (x : Link) (j' : Nat) : (s.setLink p x).stepOf j' = s.stepOf j' := rfl
@[simp] theorem State.setLink_clock (p : Nat) (x : Link) (i : Nat) : (s.setLink p x).clock i = s.clock i := rfl
@[simp] theorem State.setLink_readByte (p : Nat) (x : Link) (b : Nat) : (s.setLink p x).readByte b = s.readByte b := rfl
@[simp] theorem State.setLink_atomPoisoned (p : Nat) (x : Link) (b : Nat) : (s.setLink p x).atomPoisoned b = s.atomPoisoned b := rfl
@[simp] theorem State.setLink_hostQueue (p : Nat) (x : Link) (q' : Nat) : (s.setLink p x).hostQueue q' = s.hostQueue q' := rfl

/-! ### setSchedule -/

@[simp] theorem State.setSchedule_pending (x : Schedule) : (s.setSchedule x).pending = s.pending := rfl
@[simp] theorem State.setSchedule_tick (x : Schedule) : (s.setSchedule x).tick = s.tick := rfl
@[simp] theorem State.setSchedule_sent (x : Schedule) : (s.setSchedule x).sent = s.sent := rfl
@[simp] theorem State.setSchedule_cycles (x : Schedule) : (s.setSchedule x).cycles = s.cycles := rfl
@[simp] theorem State.setSchedule_dict (x : Schedule) : (s.setSchedule x).dict = s.dict := rfl
@[simp] theorem State.setSchedule_mem (x : Schedule) : (s.setSchedule x).mem = s.mem := rfl
@[simp] theorem State.setSchedule_poison (x : Schedule) : (s.setSchedule x).poison = s.poison := rfl
@[simp] theorem State.setSchedule_cores (x : Schedule) : (s.setSchedule x).cores = s.cores := rfl
@[simp] theorem State.setSchedule_increments (x : Schedule) : (s.setSchedule x).increments = s.increments := rfl
@[simp] theorem State.setSchedule_steps (x : Schedule) : (s.setSchedule x).steps = s.steps := rfl
@[simp] theorem State.setSchedule_faultLog (x : Schedule) : (s.setSchedule x).faultLog = s.faultLog := rfl
@[simp] theorem State.setSchedule_frecSeq (x : Schedule) : (s.setSchedule x).frecSeq = s.frecSeq := rfl
@[simp] theorem State.setSchedule_notedNow (x : Schedule) : (s.setSchedule x).notedNow = s.notedNow := rfl
@[simp] theorem State.setSchedule_regions (x : Schedule) : (s.setSchedule x).regions = s.regions := rfl
@[simp] theorem State.setSchedule_hbm (x : Schedule) : (s.setSchedule x).hbm = s.hbm := rfl
@[simp] theorem State.setSchedule_hbmWaiting (x : Schedule) : (s.setSchedule x).hbmWaiting = s.hbmWaiting := rfl
@[simp] theorem State.setSchedule_nextToken (x : Schedule) : (s.setSchedule x).nextToken = s.nextToken := rfl
@[simp] theorem State.setSchedule_walks (x : Schedule) : (s.setSchedule x).walks = s.walks := rfl
@[simp] theorem State.setSchedule_codec (x : Schedule) : (s.setSchedule x).codec = s.codec := rfl
@[simp] theorem State.setSchedule_laneHolds (x : Schedule) : (s.setSchedule x).laneHolds = s.laneHolds := rfl
@[simp] theorem State.setSchedule_codecLast (x : Schedule) : (s.setSchedule x).codecLast = s.codecLast := rfl
@[simp] theorem State.setSchedule_phases (x : Schedule) : (s.setSchedule x).phases = s.phases := rfl
@[simp] theorem State.setSchedule_phaseMet (x : Schedule) : (s.setSchedule x).phaseMet = s.phaseMet := rfl
@[simp] theorem State.setSchedule_ids (x : Schedule) : (s.setSchedule x).ids = s.ids := rfl
@[simp] theorem State.setSchedule_landings (x : Schedule) : (s.setSchedule x).landings = s.landings := rfl
@[simp] theorem State.setSchedule_held (x : Schedule) : (s.setSchedule x).held = s.held := rfl
@[simp] theorem State.setSchedule_heldWaiting (x : Schedule) : (s.setSchedule x).heldWaiting = s.heldWaiting := rfl
@[simp] theorem State.setSchedule_seenUses (x : Schedule) : (s.setSchedule x).seenUses = s.seenUses := rfl
@[simp] theorem State.setSchedule_toSwitch (x : Schedule) : (s.setSchedule x).toSwitch = s.toSwitch := rfl
@[simp] theorem State.setSchedule_flowsTx (x : Schedule) : (s.setSchedule x).flowsTx = s.flowsTx := rfl
@[simp] theorem State.setSchedule_links (x : Schedule) : (s.setSchedule x).links = s.links := rfl
@[simp] theorem State.setSchedule_arrived (x : Schedule) : (s.setSchedule x).arrived = s.arrived := rfl
@[simp] theorem State.setSchedule_handed (x : Schedule) : (s.setSchedule x).handed = s.handed := rfl
@[simp] theorem State.setSchedule_flowsRx (x : Schedule) : (s.setSchedule x).flowsRx = s.flowsRx := rfl
@[simp] theorem State.setSchedule_routes (x : Schedule) : (s.setSchedule x).routes = s.routes := rfl
@[simp] theorem State.setSchedule_staged (x : Schedule) : (s.setSchedule x).staged = s.staged := rfl
@[simp] theorem State.setSchedule_colls (x : Schedule) : (s.setSchedule x).colls = s.colls := rfl
@[simp] theorem State.setSchedule_rings (x : Schedule) : (s.setSchedule x).rings = s.rings := rfl
@[simp] theorem State.setSchedule_prepared (x : Schedule) : (s.setSchedule x).prepared = s.prepared := rfl
@[simp] theorem State.setSchedule_contexts (x : Schedule) : (s.setSchedule x).contexts = s.contexts := rfl
@[simp] theorem State.setSchedule_stagedSets (x : Schedule) : (s.setSchedule x).stagedSets = s.stagedSets := rfl
@[simp] theorem State.setSchedule_subscriptions (x : Schedule) : (s.setSchedule x).subscriptions = s.subscriptions := rfl
@[simp] theorem State.setSchedule_nonces (x : Schedule) : (s.setSchedule x).nonces = s.nonces := rfl
@[simp] theorem State.setSchedule_inDoubt (x : Schedule) : (s.setSchedule x).inDoubt = s.inDoubt := rfl
@[simp] theorem State.setSchedule_pinned (x : Schedule) : (s.setSchedule x).pinned = s.pinned := rfl
@[simp] theorem State.setSchedule_linkSeed (x : Schedule) : (s.setSchedule x).linkSeed = s.linkSeed := rfl
@[simp] theorem State.setSchedule_routeAddr (x : Schedule) : (s.setSchedule x).routeAddr = s.routeAddr := rfl
@[simp] theorem State.setSchedule_maps (x : Schedule) : (s.setSchedule x).maps = s.maps := rfl
@[simp] theorem State.setSchedule_mapsNext (x : Schedule) : (s.setSchedule x).mapsNext = s.mapsNext := rfl
@[simp] theorem State.setSchedule_drainForced (x : Schedule) : (s.setSchedule x).drainForced = s.drainForced := rfl
@[simp] theorem State.setSchedule_replays (x : Schedule) : (s.setSchedule x).replays = s.replays := rfl
@[simp] theorem State.setSchedule_capNow (x : Schedule) : (s.setSchedule x).capNow = s.capNow := rfl
@[simp] theorem State.setSchedule_learned (x : Schedule) : (s.setSchedule x).learned = s.learned := rfl
@[simp] theorem State.setSchedule_modelRuns (x : Schedule) : (s.setSchedule x).modelRuns = s.modelRuns := rfl
@[simp] theorem State.setSchedule_hot (x : Schedule) : (s.setSchedule x).hot = s.hot := rfl
@[simp] theorem State.setSchedule_overheated (x : Schedule) : (s.setSchedule x).overheated = s.overheated := rfl
@[simp] theorem State.setSchedule_opTarget (x : Schedule) : (s.setSchedule x).opTarget = s.opTarget := rfl
@[simp] theorem State.setSchedule_stretched (x : Schedule) : (s.setSchedule x).stretched = s.stretched := rfl
@[simp] theorem State.setSchedule_thermTrip (x : Schedule) : (s.setSchedule x).thermTrip = s.thermTrip := rfl
@[simp] theorem State.setSchedule_doffStep (x : Schedule) : (s.setSchedule x).doffStep = s.doffStep := rfl
@[simp] theorem State.setSchedule_doffNow (x : Schedule) : (s.setSchedule x).doffNow = s.doffNow := rfl
@[simp] theorem State.setSchedule_patrolled (x : Schedule) : (s.setSchedule x).patrolled = s.patrolled := rfl
@[simp] theorem State.setSchedule_inputHistory (x : Schedule) : (s.setSchedule x).inputHistory = s.inputHistory := rfl
@[simp] theorem State.setSchedule_lastCounts (x : Schedule) : (s.setSchedule x).lastCounts = s.lastCounts := rfl
@[simp] theorem State.setSchedule_calibrations (x : Schedule) : (s.setSchedule x).calibrations = s.calibrations := rfl
@[simp] theorem State.setSchedule_enforced (x : Schedule) : (s.setSchedule x).enforced = s.enforced := rfl
@[simp] theorem State.setSchedule_lifeShown (x : Schedule) : (s.setSchedule x).lifeShown = s.lifeShown := rfl
@[simp] theorem State.setSchedule_inputOn (x : Schedule) : (s.setSchedule x).inputOn = s.inputOn := rfl
@[simp] theorem State.setSchedule_mrstLow (x : Schedule) : (s.setSchedule x).mrstLow = s.mrstLow := rfl
@[simp] theorem State.setSchedule_perstLow (x : Schedule) : (s.setSchedule x).perstLow = s.perstLow := rfl
@[simp] theorem State.setSchedule_darkQuads (x : Schedule) : (s.setSchedule x).darkQuads = s.darkQuads := rfl
@[simp] theorem State.setSchedule_flOwnLow (x : Schedule) : (s.setSchedule x).flOwnLow = s.flOwnLow := rfl
@[simp] theorem State.setSchedule_straps (x : Schedule) : (s.setSchedule x).straps = s.straps := rfl
@[simp] theorem State.setSchedule_flHold (x : Schedule) : (s.setSchedule x).flHold = s.flHold := rfl
@[simp] theorem State.setSchedule_railFailures (x : Schedule) : (s.setSchedule x).railFailures = s.railFailures := rfl
@[simp] theorem State.setSchedule_resetDue (x : Schedule) : (s.setSchedule x).resetDue = s.resetDue := rfl
@[simp] theorem State.setSchedule_bankA (x : Schedule) : (s.setSchedule x).bankA = s.bankA := rfl
@[simp] theorem State.setSchedule_bankB (x : Schedule) : (s.setSchedule x).bankB = s.bankB := rfl
@[simp] theorem State.setSchedule_storeSalt (x : Schedule) : (s.setSchedule x).storeSalt = s.storeSalt := rfl
@[simp] theorem State.setSchedule_drbg (x : Schedule) : (s.setSchedule x).drbg = s.drbg := rfl
@[simp] theorem State.setSchedule_drbgSeeds (x : Schedule) : (s.setSchedule x).drbgSeeds = s.drbgSeeds := rfl
@[simp] theorem State.setSchedule_retired (x : Schedule) : (s.setSchedule x).retired = s.retired := rfl
@[simp] theorem State.setSchedule_routeMeasure (x : Schedule) : (s.setSchedule x).routeMeasure = s.routeMeasure := rfl
@[simp] theorem State.setSchedule_storeOpened (x : Schedule) : (s.setSchedule x).storeOpened = s.storeOpened := rfl
@[simp] theorem State.setSchedule_stageAddr (x : Schedule) : (s.setSchedule x).stageAddr = s.stageAddr := rfl
@[simp] theorem State.setSchedule_spdm (x : Schedule) : (s.setSchedule x).spdm = s.spdm := rfl
@[simp] theorem State.setSchedule_signing (x : Schedule) : (s.setSchedule x).signing = s.signing := rfl
@[simp] theorem State.setSchedule_eids (x : Schedule) : (s.setSchedule x).eids = s.eids := rfl
@[simp] theorem State.setSchedule_i3cAddr (x : Schedule) : (s.setSchedule x).i3cAddr = s.i3cAddr := rfl
@[simp] theorem State.setSchedule_queues (x : Schedule) : (s.setSchedule x).queues = s.queues := rfl
@[simp] theorem State.setSchedule_windows (x : Schedule) : (s.setSchedule x).windows = s.windows := rfl
@[simp] theorem State.setSchedule_msixTable (x : Schedule) : (s.setSchedule x).msixTable = s.msixTable := rfl
@[simp] theorem State.setSchedule_msixPending (x : Schedule) : (s.setSchedule x).msixPending = s.msixPending := rfl
@[simp] theorem State.setSchedule_msixBusy (x : Schedule) : (s.setSchedule x).msixBusy = s.msixBusy := rfl
@[simp] theorem State.setSchedule_msixOwed (x : Schedule) : (s.setSchedule x).msixOwed = s.msixOwed := rfl
@[simp] theorem State.setSchedule_eventCause (x : Schedule) : (s.setSchedule x).eventCause = s.eventCause := rfl
@[simp] theorem State.setSchedule_eventMask (x : Schedule) : (s.setSchedule x).eventMask = s.eventMask := rfl
@[simp] theorem State.setSchedule_windowMisses (x : Schedule) : (s.setSchedule x).windowMisses = s.windowMisses := rfl
@[simp] theorem State.setSchedule_windowRefusals (x : Schedule) : (s.setSchedule x).windowRefusals = s.windowRefusals := rfl
@[simp] theorem State.setSchedule_bar2Log2 (x : Schedule) : (s.setSchedule x).bar2Log2 = s.bar2Log2 := rfl
@[simp] theorem State.setSchedule_busMaster (x : Schedule) : (s.setSchedule x).busMaster = s.busMaster := rfl
@[simp] theorem State.setSchedule_d3hot (x : Schedule) : (s.setSchedule x).d3hot = s.d3hot := rfl
@[simp] theorem State.setSchedule_linkUp (x : Schedule) : (s.setSchedule x).linkUp = s.linkUp := rfl
@[simp] theorem State.setSchedule_val (x : Schedule) (k' : Key) : (s.setSchedule x).val k' = s.val k' := rfl
@[simp] theorem State.setSchedule_core (x : Schedule) (c' : Nat) : (s.setSchedule x).core c' = s.core c' := rfl
@[simp] theorem State.setSchedule_stepOf (x : Schedule) (j' : Nat) : (s.setSchedule x).stepOf j' = s.stepOf j' := rfl
@[simp] theorem State.setSchedule_clock (x : Schedule) (i : Nat) : (s.setSchedule x).clock i = s.clock i := rfl
@[simp] theorem State.setSchedule_readByte (x : Schedule) (b : Nat) : (s.setSchedule x).readByte b = s.readByte b := rfl
@[simp] theorem State.setSchedule_atomPoisoned (x : Schedule) (b : Nat) : (s.setSchedule x).atomPoisoned b = s.atomPoisoned b := rfl
@[simp] theorem State.setSchedule_link (x : Schedule) (q' : Nat) : (s.setSchedule x).link q' = s.link q' := rfl
@[simp] theorem State.setSchedule_hostQueue (x : Schedule) (q' : Nat) : (s.setSchedule x).hostQueue q' = s.hostQueue q' := rfl

/-! ### setHostQueue -/

@[simp] theorem State.setHostQueue_pending (q : Nat) (x : HostQueue) : (s.setHostQueue q x).pending = s.pending := rfl
@[simp] theorem State.setHostQueue_tick (q : Nat) (x : HostQueue) : (s.setHostQueue q x).tick = s.tick := rfl
@[simp] theorem State.setHostQueue_sent (q : Nat) (x : HostQueue) : (s.setHostQueue q x).sent = s.sent := rfl
@[simp] theorem State.setHostQueue_cycles (q : Nat) (x : HostQueue) : (s.setHostQueue q x).cycles = s.cycles := rfl
@[simp] theorem State.setHostQueue_dict (q : Nat) (x : HostQueue) : (s.setHostQueue q x).dict = s.dict := rfl
@[simp] theorem State.setHostQueue_mem (q : Nat) (x : HostQueue) : (s.setHostQueue q x).mem = s.mem := rfl
@[simp] theorem State.setHostQueue_poison (q : Nat) (x : HostQueue) : (s.setHostQueue q x).poison = s.poison := rfl
@[simp] theorem State.setHostQueue_cores (q : Nat) (x : HostQueue) : (s.setHostQueue q x).cores = s.cores := rfl
@[simp] theorem State.setHostQueue_increments (q : Nat) (x : HostQueue) : (s.setHostQueue q x).increments = s.increments := rfl
@[simp] theorem State.setHostQueue_steps (q : Nat) (x : HostQueue) : (s.setHostQueue q x).steps = s.steps := rfl
@[simp] theorem State.setHostQueue_faultLog (q : Nat) (x : HostQueue) : (s.setHostQueue q x).faultLog = s.faultLog := rfl
@[simp] theorem State.setHostQueue_frecSeq (q : Nat) (x : HostQueue) : (s.setHostQueue q x).frecSeq = s.frecSeq := rfl
@[simp] theorem State.setHostQueue_notedNow (q : Nat) (x : HostQueue) : (s.setHostQueue q x).notedNow = s.notedNow := rfl
@[simp] theorem State.setHostQueue_regions (q : Nat) (x : HostQueue) : (s.setHostQueue q x).regions = s.regions := rfl
@[simp] theorem State.setHostQueue_hbm (q : Nat) (x : HostQueue) : (s.setHostQueue q x).hbm = s.hbm := rfl
@[simp] theorem State.setHostQueue_hbmWaiting (q : Nat) (x : HostQueue) : (s.setHostQueue q x).hbmWaiting = s.hbmWaiting := rfl
@[simp] theorem State.setHostQueue_nextToken (q : Nat) (x : HostQueue) : (s.setHostQueue q x).nextToken = s.nextToken := rfl
@[simp] theorem State.setHostQueue_walks (q : Nat) (x : HostQueue) : (s.setHostQueue q x).walks = s.walks := rfl
@[simp] theorem State.setHostQueue_codec (q : Nat) (x : HostQueue) : (s.setHostQueue q x).codec = s.codec := rfl
@[simp] theorem State.setHostQueue_laneHolds (q : Nat) (x : HostQueue) : (s.setHostQueue q x).laneHolds = s.laneHolds := rfl
@[simp] theorem State.setHostQueue_codecLast (q : Nat) (x : HostQueue) : (s.setHostQueue q x).codecLast = s.codecLast := rfl
@[simp] theorem State.setHostQueue_phases (q : Nat) (x : HostQueue) : (s.setHostQueue q x).phases = s.phases := rfl
@[simp] theorem State.setHostQueue_phaseMet (q : Nat) (x : HostQueue) : (s.setHostQueue q x).phaseMet = s.phaseMet := rfl
@[simp] theorem State.setHostQueue_schedules (q : Nat) (x : HostQueue) : (s.setHostQueue q x).schedules = s.schedules := rfl
@[simp] theorem State.setHostQueue_ids (q : Nat) (x : HostQueue) : (s.setHostQueue q x).ids = s.ids := rfl
@[simp] theorem State.setHostQueue_landings (q : Nat) (x : HostQueue) : (s.setHostQueue q x).landings = s.landings := rfl
@[simp] theorem State.setHostQueue_held (q : Nat) (x : HostQueue) : (s.setHostQueue q x).held = s.held := rfl
@[simp] theorem State.setHostQueue_heldWaiting (q : Nat) (x : HostQueue) : (s.setHostQueue q x).heldWaiting = s.heldWaiting := rfl
@[simp] theorem State.setHostQueue_seenUses (q : Nat) (x : HostQueue) : (s.setHostQueue q x).seenUses = s.seenUses := rfl
@[simp] theorem State.setHostQueue_toSwitch (q : Nat) (x : HostQueue) : (s.setHostQueue q x).toSwitch = s.toSwitch := rfl
@[simp] theorem State.setHostQueue_flowsTx (q : Nat) (x : HostQueue) : (s.setHostQueue q x).flowsTx = s.flowsTx := rfl
@[simp] theorem State.setHostQueue_links (q : Nat) (x : HostQueue) : (s.setHostQueue q x).links = s.links := rfl
@[simp] theorem State.setHostQueue_arrived (q : Nat) (x : HostQueue) : (s.setHostQueue q x).arrived = s.arrived := rfl
@[simp] theorem State.setHostQueue_handed (q : Nat) (x : HostQueue) : (s.setHostQueue q x).handed = s.handed := rfl
@[simp] theorem State.setHostQueue_flowsRx (q : Nat) (x : HostQueue) : (s.setHostQueue q x).flowsRx = s.flowsRx := rfl
@[simp] theorem State.setHostQueue_routes (q : Nat) (x : HostQueue) : (s.setHostQueue q x).routes = s.routes := rfl
@[simp] theorem State.setHostQueue_staged (q : Nat) (x : HostQueue) : (s.setHostQueue q x).staged = s.staged := rfl
@[simp] theorem State.setHostQueue_colls (q : Nat) (x : HostQueue) : (s.setHostQueue q x).colls = s.colls := rfl
@[simp] theorem State.setHostQueue_rings (q : Nat) (x : HostQueue) : (s.setHostQueue q x).rings = s.rings := rfl
@[simp] theorem State.setHostQueue_prepared (q : Nat) (x : HostQueue) : (s.setHostQueue q x).prepared = s.prepared := rfl
@[simp] theorem State.setHostQueue_contexts (q : Nat) (x : HostQueue) : (s.setHostQueue q x).contexts = s.contexts := rfl
@[simp] theorem State.setHostQueue_stagedSets (q : Nat) (x : HostQueue) : (s.setHostQueue q x).stagedSets = s.stagedSets := rfl
@[simp] theorem State.setHostQueue_subscriptions (q : Nat) (x : HostQueue) : (s.setHostQueue q x).subscriptions = s.subscriptions := rfl
@[simp] theorem State.setHostQueue_nonces (q : Nat) (x : HostQueue) : (s.setHostQueue q x).nonces = s.nonces := rfl
@[simp] theorem State.setHostQueue_inDoubt (q : Nat) (x : HostQueue) : (s.setHostQueue q x).inDoubt = s.inDoubt := rfl
@[simp] theorem State.setHostQueue_pinned (q : Nat) (x : HostQueue) : (s.setHostQueue q x).pinned = s.pinned := rfl
@[simp] theorem State.setHostQueue_linkSeed (q : Nat) (x : HostQueue) : (s.setHostQueue q x).linkSeed = s.linkSeed := rfl
@[simp] theorem State.setHostQueue_routeAddr (q : Nat) (x : HostQueue) : (s.setHostQueue q x).routeAddr = s.routeAddr := rfl
@[simp] theorem State.setHostQueue_maps (q : Nat) (x : HostQueue) : (s.setHostQueue q x).maps = s.maps := rfl
@[simp] theorem State.setHostQueue_mapsNext (q : Nat) (x : HostQueue) : (s.setHostQueue q x).mapsNext = s.mapsNext := rfl
@[simp] theorem State.setHostQueue_drainForced (q : Nat) (x : HostQueue) : (s.setHostQueue q x).drainForced = s.drainForced := rfl
@[simp] theorem State.setHostQueue_replays (q : Nat) (x : HostQueue) : (s.setHostQueue q x).replays = s.replays := rfl
@[simp] theorem State.setHostQueue_capNow (q : Nat) (x : HostQueue) : (s.setHostQueue q x).capNow = s.capNow := rfl
@[simp] theorem State.setHostQueue_learned (q : Nat) (x : HostQueue) : (s.setHostQueue q x).learned = s.learned := rfl
@[simp] theorem State.setHostQueue_modelRuns (q : Nat) (x : HostQueue) : (s.setHostQueue q x).modelRuns = s.modelRuns := rfl
@[simp] theorem State.setHostQueue_hot (q : Nat) (x : HostQueue) : (s.setHostQueue q x).hot = s.hot := rfl
@[simp] theorem State.setHostQueue_overheated (q : Nat) (x : HostQueue) : (s.setHostQueue q x).overheated = s.overheated := rfl
@[simp] theorem State.setHostQueue_opTarget (q : Nat) (x : HostQueue) : (s.setHostQueue q x).opTarget = s.opTarget := rfl
@[simp] theorem State.setHostQueue_stretched (q : Nat) (x : HostQueue) : (s.setHostQueue q x).stretched = s.stretched := rfl
@[simp] theorem State.setHostQueue_thermTrip (q : Nat) (x : HostQueue) : (s.setHostQueue q x).thermTrip = s.thermTrip := rfl
@[simp] theorem State.setHostQueue_doffStep (q : Nat) (x : HostQueue) : (s.setHostQueue q x).doffStep = s.doffStep := rfl
@[simp] theorem State.setHostQueue_doffNow (q : Nat) (x : HostQueue) : (s.setHostQueue q x).doffNow = s.doffNow := rfl
@[simp] theorem State.setHostQueue_patrolled (q : Nat) (x : HostQueue) : (s.setHostQueue q x).patrolled = s.patrolled := rfl
@[simp] theorem State.setHostQueue_inputHistory (q : Nat) (x : HostQueue) : (s.setHostQueue q x).inputHistory = s.inputHistory := rfl
@[simp] theorem State.setHostQueue_lastCounts (q : Nat) (x : HostQueue) : (s.setHostQueue q x).lastCounts = s.lastCounts := rfl
@[simp] theorem State.setHostQueue_calibrations (q : Nat) (x : HostQueue) : (s.setHostQueue q x).calibrations = s.calibrations := rfl
@[simp] theorem State.setHostQueue_enforced (q : Nat) (x : HostQueue) : (s.setHostQueue q x).enforced = s.enforced := rfl
@[simp] theorem State.setHostQueue_lifeShown (q : Nat) (x : HostQueue) : (s.setHostQueue q x).lifeShown = s.lifeShown := rfl
@[simp] theorem State.setHostQueue_inputOn (q : Nat) (x : HostQueue) : (s.setHostQueue q x).inputOn = s.inputOn := rfl
@[simp] theorem State.setHostQueue_mrstLow (q : Nat) (x : HostQueue) : (s.setHostQueue q x).mrstLow = s.mrstLow := rfl
@[simp] theorem State.setHostQueue_perstLow (q : Nat) (x : HostQueue) : (s.setHostQueue q x).perstLow = s.perstLow := rfl
@[simp] theorem State.setHostQueue_darkQuads (q : Nat) (x : HostQueue) : (s.setHostQueue q x).darkQuads = s.darkQuads := rfl
@[simp] theorem State.setHostQueue_flOwnLow (q : Nat) (x : HostQueue) : (s.setHostQueue q x).flOwnLow = s.flOwnLow := rfl
@[simp] theorem State.setHostQueue_straps (q : Nat) (x : HostQueue) : (s.setHostQueue q x).straps = s.straps := rfl
@[simp] theorem State.setHostQueue_flHold (q : Nat) (x : HostQueue) : (s.setHostQueue q x).flHold = s.flHold := rfl
@[simp] theorem State.setHostQueue_railFailures (q : Nat) (x : HostQueue) : (s.setHostQueue q x).railFailures = s.railFailures := rfl
@[simp] theorem State.setHostQueue_resetDue (q : Nat) (x : HostQueue) : (s.setHostQueue q x).resetDue = s.resetDue := rfl
@[simp] theorem State.setHostQueue_bankA (q : Nat) (x : HostQueue) : (s.setHostQueue q x).bankA = s.bankA := rfl
@[simp] theorem State.setHostQueue_bankB (q : Nat) (x : HostQueue) : (s.setHostQueue q x).bankB = s.bankB := rfl
@[simp] theorem State.setHostQueue_storeSalt (q : Nat) (x : HostQueue) : (s.setHostQueue q x).storeSalt = s.storeSalt := rfl
@[simp] theorem State.setHostQueue_drbg (q : Nat) (x : HostQueue) : (s.setHostQueue q x).drbg = s.drbg := rfl
@[simp] theorem State.setHostQueue_drbgSeeds (q : Nat) (x : HostQueue) : (s.setHostQueue q x).drbgSeeds = s.drbgSeeds := rfl
@[simp] theorem State.setHostQueue_retired (q : Nat) (x : HostQueue) : (s.setHostQueue q x).retired = s.retired := rfl
@[simp] theorem State.setHostQueue_routeMeasure (q : Nat) (x : HostQueue) : (s.setHostQueue q x).routeMeasure = s.routeMeasure := rfl
@[simp] theorem State.setHostQueue_storeOpened (q : Nat) (x : HostQueue) : (s.setHostQueue q x).storeOpened = s.storeOpened := rfl
@[simp] theorem State.setHostQueue_stageAddr (q : Nat) (x : HostQueue) : (s.setHostQueue q x).stageAddr = s.stageAddr := rfl
@[simp] theorem State.setHostQueue_spdm (q : Nat) (x : HostQueue) : (s.setHostQueue q x).spdm = s.spdm := rfl
@[simp] theorem State.setHostQueue_signing (q : Nat) (x : HostQueue) : (s.setHostQueue q x).signing = s.signing := rfl
@[simp] theorem State.setHostQueue_eids (q : Nat) (x : HostQueue) : (s.setHostQueue q x).eids = s.eids := rfl
@[simp] theorem State.setHostQueue_i3cAddr (q : Nat) (x : HostQueue) : (s.setHostQueue q x).i3cAddr = s.i3cAddr := rfl
@[simp] theorem State.setHostQueue_windows (q : Nat) (x : HostQueue) : (s.setHostQueue q x).windows = s.windows := rfl
@[simp] theorem State.setHostQueue_msixTable (q : Nat) (x : HostQueue) : (s.setHostQueue q x).msixTable = s.msixTable := rfl
@[simp] theorem State.setHostQueue_msixPending (q : Nat) (x : HostQueue) : (s.setHostQueue q x).msixPending = s.msixPending := rfl
@[simp] theorem State.setHostQueue_msixBusy (q : Nat) (x : HostQueue) : (s.setHostQueue q x).msixBusy = s.msixBusy := rfl
@[simp] theorem State.setHostQueue_msixOwed (q : Nat) (x : HostQueue) : (s.setHostQueue q x).msixOwed = s.msixOwed := rfl
@[simp] theorem State.setHostQueue_eventCause (q : Nat) (x : HostQueue) : (s.setHostQueue q x).eventCause = s.eventCause := rfl
@[simp] theorem State.setHostQueue_eventMask (q : Nat) (x : HostQueue) : (s.setHostQueue q x).eventMask = s.eventMask := rfl
@[simp] theorem State.setHostQueue_windowMisses (q : Nat) (x : HostQueue) : (s.setHostQueue q x).windowMisses = s.windowMisses := rfl
@[simp] theorem State.setHostQueue_windowRefusals (q : Nat) (x : HostQueue) : (s.setHostQueue q x).windowRefusals = s.windowRefusals := rfl
@[simp] theorem State.setHostQueue_bar2Log2 (q : Nat) (x : HostQueue) : (s.setHostQueue q x).bar2Log2 = s.bar2Log2 := rfl
@[simp] theorem State.setHostQueue_busMaster (q : Nat) (x : HostQueue) : (s.setHostQueue q x).busMaster = s.busMaster := rfl
@[simp] theorem State.setHostQueue_d3hot (q : Nat) (x : HostQueue) : (s.setHostQueue q x).d3hot = s.d3hot := rfl
@[simp] theorem State.setHostQueue_linkUp (q : Nat) (x : HostQueue) : (s.setHostQueue q x).linkUp = s.linkUp := rfl
@[simp] theorem State.setHostQueue_val (q : Nat) (x : HostQueue) (k' : Key) : (s.setHostQueue q x).val k' = s.val k' := rfl
@[simp] theorem State.setHostQueue_core (q : Nat) (x : HostQueue) (c' : Nat) : (s.setHostQueue q x).core c' = s.core c' := rfl
@[simp] theorem State.setHostQueue_stepOf (q : Nat) (x : HostQueue) (j' : Nat) : (s.setHostQueue q x).stepOf j' = s.stepOf j' := rfl
@[simp] theorem State.setHostQueue_clock (q : Nat) (x : HostQueue) (i : Nat) : (s.setHostQueue q x).clock i = s.clock i := rfl
@[simp] theorem State.setHostQueue_readByte (q : Nat) (x : HostQueue) (b : Nat) : (s.setHostQueue q x).readByte b = s.readByte b := rfl
@[simp] theorem State.setHostQueue_atomPoisoned (q : Nat) (x : HostQueue) (b : Nat) : (s.setHostQueue q x).atomPoisoned b = s.atomPoisoned b := rfl
@[simp] theorem State.setHostQueue_link (q : Nat) (x : HostQueue) (q' : Nat) : (s.setHostQueue q x).link q' = s.link q' := rfl

/-! ### setConn -/

@[simp] theorem State.setConn_pending (who : Requester) (x : SpdmConn) : (s.setConn who x).pending = s.pending := rfl
@[simp] theorem State.setConn_tick (who : Requester) (x : SpdmConn) : (s.setConn who x).tick = s.tick := rfl
@[simp] theorem State.setConn_sent (who : Requester) (x : SpdmConn) : (s.setConn who x).sent = s.sent := rfl
@[simp] theorem State.setConn_cycles (who : Requester) (x : SpdmConn) : (s.setConn who x).cycles = s.cycles := rfl
@[simp] theorem State.setConn_dict (who : Requester) (x : SpdmConn) : (s.setConn who x).dict = s.dict := rfl
@[simp] theorem State.setConn_mem (who : Requester) (x : SpdmConn) : (s.setConn who x).mem = s.mem := rfl
@[simp] theorem State.setConn_poison (who : Requester) (x : SpdmConn) : (s.setConn who x).poison = s.poison := rfl
@[simp] theorem State.setConn_cores (who : Requester) (x : SpdmConn) : (s.setConn who x).cores = s.cores := rfl
@[simp] theorem State.setConn_increments (who : Requester) (x : SpdmConn) : (s.setConn who x).increments = s.increments := rfl
@[simp] theorem State.setConn_steps (who : Requester) (x : SpdmConn) : (s.setConn who x).steps = s.steps := rfl
@[simp] theorem State.setConn_faultLog (who : Requester) (x : SpdmConn) : (s.setConn who x).faultLog = s.faultLog := rfl
@[simp] theorem State.setConn_frecSeq (who : Requester) (x : SpdmConn) : (s.setConn who x).frecSeq = s.frecSeq := rfl
@[simp] theorem State.setConn_notedNow (who : Requester) (x : SpdmConn) : (s.setConn who x).notedNow = s.notedNow := rfl
@[simp] theorem State.setConn_regions (who : Requester) (x : SpdmConn) : (s.setConn who x).regions = s.regions := rfl
@[simp] theorem State.setConn_hbm (who : Requester) (x : SpdmConn) : (s.setConn who x).hbm = s.hbm := rfl
@[simp] theorem State.setConn_hbmWaiting (who : Requester) (x : SpdmConn) : (s.setConn who x).hbmWaiting = s.hbmWaiting := rfl
@[simp] theorem State.setConn_nextToken (who : Requester) (x : SpdmConn) : (s.setConn who x).nextToken = s.nextToken := rfl
@[simp] theorem State.setConn_walks (who : Requester) (x : SpdmConn) : (s.setConn who x).walks = s.walks := rfl
@[simp] theorem State.setConn_codec (who : Requester) (x : SpdmConn) : (s.setConn who x).codec = s.codec := rfl
@[simp] theorem State.setConn_laneHolds (who : Requester) (x : SpdmConn) : (s.setConn who x).laneHolds = s.laneHolds := rfl
@[simp] theorem State.setConn_codecLast (who : Requester) (x : SpdmConn) : (s.setConn who x).codecLast = s.codecLast := rfl
@[simp] theorem State.setConn_phases (who : Requester) (x : SpdmConn) : (s.setConn who x).phases = s.phases := rfl
@[simp] theorem State.setConn_phaseMet (who : Requester) (x : SpdmConn) : (s.setConn who x).phaseMet = s.phaseMet := rfl
@[simp] theorem State.setConn_schedules (who : Requester) (x : SpdmConn) : (s.setConn who x).schedules = s.schedules := rfl
@[simp] theorem State.setConn_ids (who : Requester) (x : SpdmConn) : (s.setConn who x).ids = s.ids := rfl
@[simp] theorem State.setConn_landings (who : Requester) (x : SpdmConn) : (s.setConn who x).landings = s.landings := rfl
@[simp] theorem State.setConn_held (who : Requester) (x : SpdmConn) : (s.setConn who x).held = s.held := rfl
@[simp] theorem State.setConn_heldWaiting (who : Requester) (x : SpdmConn) : (s.setConn who x).heldWaiting = s.heldWaiting := rfl
@[simp] theorem State.setConn_seenUses (who : Requester) (x : SpdmConn) : (s.setConn who x).seenUses = s.seenUses := rfl
@[simp] theorem State.setConn_toSwitch (who : Requester) (x : SpdmConn) : (s.setConn who x).toSwitch = s.toSwitch := rfl
@[simp] theorem State.setConn_flowsTx (who : Requester) (x : SpdmConn) : (s.setConn who x).flowsTx = s.flowsTx := rfl
@[simp] theorem State.setConn_links (who : Requester) (x : SpdmConn) : (s.setConn who x).links = s.links := rfl
@[simp] theorem State.setConn_arrived (who : Requester) (x : SpdmConn) : (s.setConn who x).arrived = s.arrived := rfl
@[simp] theorem State.setConn_handed (who : Requester) (x : SpdmConn) : (s.setConn who x).handed = s.handed := rfl
@[simp] theorem State.setConn_flowsRx (who : Requester) (x : SpdmConn) : (s.setConn who x).flowsRx = s.flowsRx := rfl
@[simp] theorem State.setConn_routes (who : Requester) (x : SpdmConn) : (s.setConn who x).routes = s.routes := rfl
@[simp] theorem State.setConn_staged (who : Requester) (x : SpdmConn) : (s.setConn who x).staged = s.staged := rfl
@[simp] theorem State.setConn_colls (who : Requester) (x : SpdmConn) : (s.setConn who x).colls = s.colls := rfl
@[simp] theorem State.setConn_rings (who : Requester) (x : SpdmConn) : (s.setConn who x).rings = s.rings := rfl
@[simp] theorem State.setConn_prepared (who : Requester) (x : SpdmConn) : (s.setConn who x).prepared = s.prepared := rfl
@[simp] theorem State.setConn_contexts (who : Requester) (x : SpdmConn) : (s.setConn who x).contexts = s.contexts := rfl
@[simp] theorem State.setConn_stagedSets (who : Requester) (x : SpdmConn) : (s.setConn who x).stagedSets = s.stagedSets := rfl
@[simp] theorem State.setConn_subscriptions (who : Requester) (x : SpdmConn) : (s.setConn who x).subscriptions = s.subscriptions := rfl
@[simp] theorem State.setConn_nonces (who : Requester) (x : SpdmConn) : (s.setConn who x).nonces = s.nonces := rfl
@[simp] theorem State.setConn_inDoubt (who : Requester) (x : SpdmConn) : (s.setConn who x).inDoubt = s.inDoubt := rfl
@[simp] theorem State.setConn_pinned (who : Requester) (x : SpdmConn) : (s.setConn who x).pinned = s.pinned := rfl
@[simp] theorem State.setConn_linkSeed (who : Requester) (x : SpdmConn) : (s.setConn who x).linkSeed = s.linkSeed := rfl
@[simp] theorem State.setConn_routeAddr (who : Requester) (x : SpdmConn) : (s.setConn who x).routeAddr = s.routeAddr := rfl
@[simp] theorem State.setConn_maps (who : Requester) (x : SpdmConn) : (s.setConn who x).maps = s.maps := rfl
@[simp] theorem State.setConn_mapsNext (who : Requester) (x : SpdmConn) : (s.setConn who x).mapsNext = s.mapsNext := rfl
@[simp] theorem State.setConn_drainForced (who : Requester) (x : SpdmConn) : (s.setConn who x).drainForced = s.drainForced := rfl
@[simp] theorem State.setConn_replays (who : Requester) (x : SpdmConn) : (s.setConn who x).replays = s.replays := rfl
@[simp] theorem State.setConn_capNow (who : Requester) (x : SpdmConn) : (s.setConn who x).capNow = s.capNow := rfl
@[simp] theorem State.setConn_learned (who : Requester) (x : SpdmConn) : (s.setConn who x).learned = s.learned := rfl
@[simp] theorem State.setConn_modelRuns (who : Requester) (x : SpdmConn) : (s.setConn who x).modelRuns = s.modelRuns := rfl
@[simp] theorem State.setConn_hot (who : Requester) (x : SpdmConn) : (s.setConn who x).hot = s.hot := rfl
@[simp] theorem State.setConn_overheated (who : Requester) (x : SpdmConn) : (s.setConn who x).overheated = s.overheated := rfl
@[simp] theorem State.setConn_opTarget (who : Requester) (x : SpdmConn) : (s.setConn who x).opTarget = s.opTarget := rfl
@[simp] theorem State.setConn_stretched (who : Requester) (x : SpdmConn) : (s.setConn who x).stretched = s.stretched := rfl
@[simp] theorem State.setConn_thermTrip (who : Requester) (x : SpdmConn) : (s.setConn who x).thermTrip = s.thermTrip := rfl
@[simp] theorem State.setConn_doffStep (who : Requester) (x : SpdmConn) : (s.setConn who x).doffStep = s.doffStep := rfl
@[simp] theorem State.setConn_doffNow (who : Requester) (x : SpdmConn) : (s.setConn who x).doffNow = s.doffNow := rfl
@[simp] theorem State.setConn_patrolled (who : Requester) (x : SpdmConn) : (s.setConn who x).patrolled = s.patrolled := rfl
@[simp] theorem State.setConn_inputHistory (who : Requester) (x : SpdmConn) : (s.setConn who x).inputHistory = s.inputHistory := rfl
@[simp] theorem State.setConn_lastCounts (who : Requester) (x : SpdmConn) : (s.setConn who x).lastCounts = s.lastCounts := rfl
@[simp] theorem State.setConn_calibrations (who : Requester) (x : SpdmConn) : (s.setConn who x).calibrations = s.calibrations := rfl
@[simp] theorem State.setConn_enforced (who : Requester) (x : SpdmConn) : (s.setConn who x).enforced = s.enforced := rfl
@[simp] theorem State.setConn_lifeShown (who : Requester) (x : SpdmConn) : (s.setConn who x).lifeShown = s.lifeShown := rfl
@[simp] theorem State.setConn_inputOn (who : Requester) (x : SpdmConn) : (s.setConn who x).inputOn = s.inputOn := rfl
@[simp] theorem State.setConn_mrstLow (who : Requester) (x : SpdmConn) : (s.setConn who x).mrstLow = s.mrstLow := rfl
@[simp] theorem State.setConn_perstLow (who : Requester) (x : SpdmConn) : (s.setConn who x).perstLow = s.perstLow := rfl
@[simp] theorem State.setConn_darkQuads (who : Requester) (x : SpdmConn) : (s.setConn who x).darkQuads = s.darkQuads := rfl
@[simp] theorem State.setConn_flOwnLow (who : Requester) (x : SpdmConn) : (s.setConn who x).flOwnLow = s.flOwnLow := rfl
@[simp] theorem State.setConn_straps (who : Requester) (x : SpdmConn) : (s.setConn who x).straps = s.straps := rfl
@[simp] theorem State.setConn_flHold (who : Requester) (x : SpdmConn) : (s.setConn who x).flHold = s.flHold := rfl
@[simp] theorem State.setConn_railFailures (who : Requester) (x : SpdmConn) : (s.setConn who x).railFailures = s.railFailures := rfl
@[simp] theorem State.setConn_resetDue (who : Requester) (x : SpdmConn) : (s.setConn who x).resetDue = s.resetDue := rfl
@[simp] theorem State.setConn_bankA (who : Requester) (x : SpdmConn) : (s.setConn who x).bankA = s.bankA := rfl
@[simp] theorem State.setConn_bankB (who : Requester) (x : SpdmConn) : (s.setConn who x).bankB = s.bankB := rfl
@[simp] theorem State.setConn_storeSalt (who : Requester) (x : SpdmConn) : (s.setConn who x).storeSalt = s.storeSalt := rfl
@[simp] theorem State.setConn_drbg (who : Requester) (x : SpdmConn) : (s.setConn who x).drbg = s.drbg := rfl
@[simp] theorem State.setConn_drbgSeeds (who : Requester) (x : SpdmConn) : (s.setConn who x).drbgSeeds = s.drbgSeeds := rfl
@[simp] theorem State.setConn_retired (who : Requester) (x : SpdmConn) : (s.setConn who x).retired = s.retired := rfl
@[simp] theorem State.setConn_routeMeasure (who : Requester) (x : SpdmConn) : (s.setConn who x).routeMeasure = s.routeMeasure := rfl
@[simp] theorem State.setConn_storeOpened (who : Requester) (x : SpdmConn) : (s.setConn who x).storeOpened = s.storeOpened := rfl
@[simp] theorem State.setConn_stageAddr (who : Requester) (x : SpdmConn) : (s.setConn who x).stageAddr = s.stageAddr := rfl
@[simp] theorem State.setConn_signing (who : Requester) (x : SpdmConn) : (s.setConn who x).signing = s.signing := rfl
@[simp] theorem State.setConn_eids (who : Requester) (x : SpdmConn) : (s.setConn who x).eids = s.eids := rfl
@[simp] theorem State.setConn_i3cAddr (who : Requester) (x : SpdmConn) : (s.setConn who x).i3cAddr = s.i3cAddr := rfl
@[simp] theorem State.setConn_queues (who : Requester) (x : SpdmConn) : (s.setConn who x).queues = s.queues := rfl
@[simp] theorem State.setConn_windows (who : Requester) (x : SpdmConn) : (s.setConn who x).windows = s.windows := rfl
@[simp] theorem State.setConn_msixTable (who : Requester) (x : SpdmConn) : (s.setConn who x).msixTable = s.msixTable := rfl
@[simp] theorem State.setConn_msixPending (who : Requester) (x : SpdmConn) : (s.setConn who x).msixPending = s.msixPending := rfl
@[simp] theorem State.setConn_msixBusy (who : Requester) (x : SpdmConn) : (s.setConn who x).msixBusy = s.msixBusy := rfl
@[simp] theorem State.setConn_msixOwed (who : Requester) (x : SpdmConn) : (s.setConn who x).msixOwed = s.msixOwed := rfl
@[simp] theorem State.setConn_eventCause (who : Requester) (x : SpdmConn) : (s.setConn who x).eventCause = s.eventCause := rfl
@[simp] theorem State.setConn_eventMask (who : Requester) (x : SpdmConn) : (s.setConn who x).eventMask = s.eventMask := rfl
@[simp] theorem State.setConn_windowMisses (who : Requester) (x : SpdmConn) : (s.setConn who x).windowMisses = s.windowMisses := rfl
@[simp] theorem State.setConn_windowRefusals (who : Requester) (x : SpdmConn) : (s.setConn who x).windowRefusals = s.windowRefusals := rfl
@[simp] theorem State.setConn_bar2Log2 (who : Requester) (x : SpdmConn) : (s.setConn who x).bar2Log2 = s.bar2Log2 := rfl
@[simp] theorem State.setConn_busMaster (who : Requester) (x : SpdmConn) : (s.setConn who x).busMaster = s.busMaster := rfl
@[simp] theorem State.setConn_d3hot (who : Requester) (x : SpdmConn) : (s.setConn who x).d3hot = s.d3hot := rfl
@[simp] theorem State.setConn_linkUp (who : Requester) (x : SpdmConn) : (s.setConn who x).linkUp = s.linkUp := rfl
@[simp] theorem State.setConn_val (who : Requester) (x : SpdmConn) (k' : Key) : (s.setConn who x).val k' = s.val k' := rfl
@[simp] theorem State.setConn_core (who : Requester) (x : SpdmConn) (c' : Nat) : (s.setConn who x).core c' = s.core c' := rfl
@[simp] theorem State.setConn_stepOf (who : Requester) (x : SpdmConn) (j' : Nat) : (s.setConn who x).stepOf j' = s.stepOf j' := rfl
@[simp] theorem State.setConn_clock (who : Requester) (x : SpdmConn) (i : Nat) : (s.setConn who x).clock i = s.clock i := rfl
@[simp] theorem State.setConn_readByte (who : Requester) (x : SpdmConn) (b : Nat) : (s.setConn who x).readByte b = s.readByte b := rfl
@[simp] theorem State.setConn_atomPoisoned (who : Requester) (x : SpdmConn) (b : Nat) : (s.setConn who x).atomPoisoned b = s.atomPoisoned b := rfl
@[simp] theorem State.setConn_link (who : Requester) (x : SpdmConn) (q' : Nat) : (s.setConn who x).link q' = s.link q' := rfl
@[simp] theorem State.setConn_hostQueue (who : Requester) (x : SpdmConn) (q' : Nat) : (s.setConn who x).hostQueue q' = s.hostQueue q' := rfl

/-! ### Readings of what an update writes -/

@[simp] theorem State.emit_sent (x : Sent) : (s.emit x).sent = s.sent ++ [x] := rfl

@[simp] theorem State.val_setVal_same (k : Key) (v : Nat) : (s.setVal k v).val k = v := by
  simp [State.val, State.setVal]

theorem State.val_setVal_other {k k' : Key} (v : Nat) (h : keyCode k' ≠ keyCode k) : (s.setVal k v).val k' = s.val k' := by
  simp [State.val, State.setVal, mapGet_set_other _ _ _ _ h]

@[simp] theorem State.setVal_setVal (k : Key) (v w : Nat) : (s.setVal k v).setVal k w = s.setVal k w := by
  simp [State.setVal, mapSet_set]

@[simp] theorem State.core_setCore_same (c : Nat) (x : Core) : (s.setCore c x).core c = x := by
  simp [State.core, State.setCore]

theorem State.core_setCore_other {c c' : Nat} (x : Core) (h : c' ≠ c) : (s.setCore c x).core c' = s.core c' := by
  simp [State.core, State.setCore, mapGet_set_other _ _ _ _ h]

@[simp] theorem State.setCore_setCore (c : Nat) (x y : Core) : (s.setCore c x).setCore c y = s.setCore c y := by
  simp [State.setCore, mapSet_set]

@[simp] theorem State.stepOf_setStep_same (j : Nat) (x : StepInfo) : (s.setStep j x).stepOf j = x := by
  simp [State.stepOf, State.setStep]

theorem State.stepOf_setStep_other {j j' : Nat} (x : StepInfo) (h : j' ≠ j) : (s.setStep j x).stepOf j' = s.stepOf j' := by
  simp [State.stepOf, State.setStep, mapGet_set_other _ _ _ _ h]

@[simp] theorem State.link_setLink_same (p : Nat) (x : Link) : (s.setLink p x).link p = x := by
  simp [State.link, State.setLink]

theorem State.link_setLink_other {p p' : Nat} (x : Link) (h : p' ≠ p) : (s.setLink p x).link p' = s.link p' := by
  simp [State.link, State.setLink, mapGet_set_other _ _ _ _ h]

@[simp] theorem State.setLink_setLink (p : Nat) (x y : Link) : (s.setLink p x).setLink p y = s.setLink p y := by
  simp [State.setLink, mapSet_set]

@[simp] theorem State.hostQueue_set_same (q : Nat) (x : HostQueue) : (s.setHostQueue q x).hostQueue q = x := by
  simp [State.hostQueue, State.setHostQueue]

theorem State.hostQueue_set_other {q q' : Nat} (x : HostQueue) (h : q' ≠ q) :
    (s.setHostQueue q x).hostQueue q' = s.hostQueue q' := by
  simp [State.hostQueue, State.setHostQueue, mapGet_set_other _ _ _ _ h]

theorem State.setDomain_eq (d v : Nat) : s.setDomain d v = s.setVal ⟨0x2200, d + 1, 0⟩ v := rfl

/-- Cells of one entry have different places for different rows; entries never share one (subindices below 256, rows
below 65,536). -/
theorem keyCode_inj {k k' : Key} (h1 : k.sub < 256) (h2 : k'.sub < 256) (h3 : k.row < 65536) (h4 : k'.row < 65536)
    (h : keyCode k = keyCode k') : k = k' := by
  cases k; cases k'; simp only [keyCode, Key.mk.injEq] at *; omega

/-! ### Cores -/

@[simp] theorem Core.queue_setQueue_same (k : Core) (st : Nat) (q : List StationInsn) : (k.setQueue st q).queue st = q := by
  simp [Core.queue, Core.setQueue]

theorem Core.queue_setQueue_other (k : Core) {st st' : Nat} (q : List StationInsn) (h : st' ≠ st) :
    (k.setQueue st q).queue st' = k.queue st' := by
  simp [Core.queue, Core.setQueue, mapGet_set_other _ _ _ _ h]

@[simp] theorem Core.flight_setFlight_same (k : Core) (st : Nat) (f : List InFlight) : (k.setFlight st f).flight st = f := by
  simp [Core.flight, Core.setFlight]

theorem Core.flight_setFlight_other (k : Core) {st st' : Nat} (f : List InFlight) (h : st' ≠ st) :
    (k.setFlight st f).flight st' = k.flight st' := by
  simp [Core.flight, Core.setFlight, mapGet_set_other _ _ _ _ h]

@[simp] theorem Core.tte_setTte_same (k : Core) (h : Nat) (t : TileEntry) : (k.setTte h t).tte h = t := by
  simp [Core.tte, Core.setTte]

theorem Core.tte_setTte_other (k : Core) {h h' : Nat} (t : TileEntry) (hh : h' % 4096 ≠ h % 4096) :
    (k.setTte h t).tte h' = k.tte h' := by
  simp [Core.tte, Core.setTte, mapGet_set_other _ _ _ _ hh]

@[simp] theorem Core.sem_setSem_same (k : Core) (n : Nat) (v : Word) : (k.setSem n v).sem n = v := by
  simp [Core.sem, Core.setSem]

theorem Core.sem_setSem_other (k : Core) {n n' : Nat} (v : Word) (h : n' % 256 ≠ n % 256) :
    (k.setSem n v).sem n' = k.sem n' := by
  simp [Core.sem, Core.setSem, mapGet_set_other _ _ _ _ h]

@[simp] theorem Core.reg_zero (k : Core) : k.reg 0 = 0 := rfl

@[simp] theorem Core.setReg_zero (k : Core) (v : DWord) : k.setReg 0 v = k := rfl

theorem Core.reg_setReg_same (k : Core) {r : Nat} (v : DWord) (h : r ≠ 0) : (k.setReg r v).reg r = v := by
  simp [Core.reg, Core.setReg, h]

theorem Core.reg_setReg_other (k : Core) {r r' : Nat} (v : DWord) (h : r' ≠ r) : (k.setReg r v).reg r' = k.reg r' := by
  unfold Core.reg Core.setReg
  split
  · rfl
  · split
    · rfl
    · simp [mapGet_set_other _ _ _ _ h]

end

end Sys2Proof.Machine
end

