-- ==== Sys2Proof/Laws/Memory.lean ====
section
/-! SUPPORT. Module memory: what a read finds after each operation, and that every operation keeps the canonical form. -/
namespace Sys2Proof.Machine

/-! ### The canonical form -/

theorem State.memOk_iff (s : State) : s.memOk = true ↔ mapWf 0 s.mem = true ∧ mapWf false s.poison = true := by
  simp [State.memOk, Memory.wf]

/-- A state with the same bytes and poison has the same form. -/
theorem State.memOk_congr {s t : State} (hm : t.mem = s.mem) (hp : t.poison = s.poison) : t.memOk = s.memOk := by
  simp [State.memOk, hm, hp]

theorem State.writeMem_memOk (s : State) (a : Nat) (bs : List Byte) (h : s.memOk = true) :
    (s.writeMem a bs).memOk = true := by
  rw [State.memOk_iff] at h ⊢
  exact ⟨bytesSet_wf _ _ _ h.1, mapWf_filter _ _ _ h.2⟩

theorem State.clearMem_memOk (s : State) (a n : Nat) (h : s.memOk = true) : (s.clearMem a n).memOk = true := by
  rw [State.memOk_iff] at h ⊢
  exact ⟨mapWf_span _ _ _ _ h.1, mapWf_filter _ _ _ h.2⟩

theorem State.poisonAtom_memOk (s : State) (n : Nat) (h : s.memOk = true) : (s.poisonAtom n).memOk = true := by
  rw [State.memOk_iff] at h ⊢
  exact ⟨h.1, mapWf_set false s.poison n true h.2⟩

theorem State.reset_memOk : State.reset.memOk = true := rfl

/-! ### Places of atoms (R192) -/

theorem xor_thrice (i x y : Nat) : (i ^^^ x ^^^ y) ^^^ x ^^^ y = i := by
  rw [Nat.xor_assoc i x y, Nat.xor_assoc _ x y, Nat.xor_assoc, Nat.xor_self, Nat.xor_zero]

/-- The hash of R192 undone: `n` low bits of a unit number whose upper part is `g`. -/
theorem hash_undone (n g i : Nat) (hi : i < 2 ^ n) :
    let l := i ^^^ (g % 2 ^ n) ^^^ (g / 2 ^ n % 2 ^ n)
    let u := g * 2 ^ n + l
    l < 2 ^ n ∧ u / 2 ^ n = g ∧ (u ^^^ (u >>> n) ^^^ (u >>> (2 * n))) % 2 ^ n = i := by
  intro l u
  have hl : l < 2 ^ n := Nat.xor_lt_two_pow (Nat.xor_lt_two_pow hi (Nat.mod_lt _ (Nat.two_pow_pos n))) (Nat.mod_lt _ (Nat.two_pow_pos n))
  have hu : u / 2 ^ n = g := by
    show (g * 2 ^ n + l) / 2 ^ n = g
    rw [Nat.mul_comm, Nat.mul_add_div (Nat.two_pow_pos n), Nat.div_eq_of_lt hl, Nat.add_zero]
  have hm : u % 2 ^ n = l := by
    show (g * 2 ^ n + l) % 2 ^ n = l
    rw [Nat.mul_comm, Nat.mul_add_mod, Nat.mod_eq_of_lt hl]
  refine ⟨hl, hu, ?_⟩
  rw [Nat.xor_mod_two_pow, Nat.xor_mod_two_pow, hm, Nat.shiftRight_eq_div_pow, Nat.shiftRight_eq_div_pow, hu, Nat.two_mul, Nat.pow_add,
    ← Nat.div_div_eq_div_mul, hu]
  exact xor_thrice i _ _

theorem index_split (x q e : Nat) (hx : x < 8) (hq : q < 16) :
    (x + 8 * q + 128 * e) % 8 = x ∧ (x + 8 * q + 128 * e) / 8 % 16 = q ∧ (x + 8 * q + 128 * e) / 128 = e := by
  have h : (x + 8 * q + 128 * e) / 8 = q + 16 * e := by omega
  refine ⟨by omega, by omega, by omega⟩
theorem unit_split (u r : Nat) (hr : r < 512) : (u * 512 + r) / 512 = u ∧ (u * 512 + r) % 512 = r := by omega

/-- The place of a byte of the interleaved space, by its unit and its offset there. -/
theorem hbmPlace_interleaved (c u r : Nat) (hr : r < 512) (hu : u < 369098752) :
    let i := (u ^^^ (u >>> 8) ^^^ (u >>> (2 * 8))) % 2 ^ 8
    let f := u / 2 ^ 8 * 512 + r
    hbmPlace (c * crownSpan + u * 512 + r) =
      { stack := 8 * c + i % 8, pseudo := 2 * (i / 8 % 16) + i / 128, bank := f / 1024 % 16, row := f / 16384 } := by
  have ho : (c * 206158430208 + u * 512 + r) % 206158430208 = u * 512 + r := by omega
  have hc : (c * 206158430208 + u * 512 + r) / 206158430208 = c := by omega
  obtain ⟨hd, hm⟩ := unit_split u r hr
  simp only [hbmPlace, hbmCrown, crownSpan, ho, hc, hd, hm]
  rw [if_pos (by omega)]
  simp only [Nat.shiftRight_eq_div_pow, Nat.reduceMul, Nat.reducePow]

/-- The place of a byte of a stack-local span, by its unit and its offset there. -/
theorem hbmPlace_local (c j u r : Nat) (hr : r < 512) (hj : j < 8) (hu : u < 4194304) :
    let i := (u ^^^ (u >>> 5) ^^^ (u >>> (2 * 5))) % 2 ^ 5
    let f := 704 * 2 ^ 20 + u / 2 ^ 5 * 512 + r
    hbmPlace (c * crownSpan + (0x2C00000000 + j * 0x80000000) + u * 512 + r) =
      { stack := 8 * c + j, pseudo := 2 * (i % 16) + i / 16, bank := f / 1024 % 16, row := f / 16384 } := by
  have ho : (c * 206158430208 + (0x2C00000000 + j * 0x80000000) + u * 512 + r) % 206158430208 =
      0x2C00000000 + j * 0x80000000 + u * 512 + r := by omega
  have hc : (c * 206158430208 + (0x2C00000000 + j * 0x80000000) + u * 512 + r) / 206158430208 = c := by omega
  have hx : (0x2C00000000 + j * 0x80000000 + u * 512 + r - 0x2C00000000) % 0x80000000 = u * 512 + r := by omega
  have hy : (0x2C00000000 + j * 0x80000000 + u * 512 + r - 0x2C00000000) / 0x80000000 = j := by omega
  obtain ⟨hd, hm⟩ := unit_split u r hr
  simp only [hbmPlace, hbmCrown, crownSpan, ho, hc, hx, hy, hd, hm]
  rw [if_neg (by omega)]
  simp only [Nat.shiftRight_eq_div_pow, Nat.reduceMul, Nat.reducePow]

/-- Every place of a stack has an atom, which lies there (R192). -/
theorem hbmPlace_hbmAddress (k : Fin 32) (p : Fin 32) (row : Fin 49152) (cell : Fin 256) :
    let a := hbmAddress k.val p.val row.val cell.val
    hbmPlace a = ⟨k.val, p.val, cell.val / 16, row.val⟩ ∧ inHbm a = true ∧ a % 64 = 0 := by
  obtain ⟨k, hk⟩ := k; obtain ⟨p, hp⟩ := p; obtain ⟨row, hr⟩ := row; obtain ⟨cell, hc⟩ := cell
  obtain ⟨f, hf⟩ : ∃ f, f = row * 16384 + cell * 64 := ⟨_, rfl⟩
  simp only [hbmAddress, ← hf]
  rcases Nat.lt_or_ge f (704 * 2 ^ 20) with h | h
  · have hi : k % 8 + 8 * (p / 2) + 128 * (p % 2) < 2 ^ 8 := by omega
    obtain ⟨i, ei⟩ : ∃ i, i = k % 8 + 8 * (p / 2) + 128 * (p % 2) := ⟨_, rfl⟩
    rw [← ei] at hi
    obtain ⟨hl, hu, hh⟩ := hash_undone 8 (f / 512) i hi
    rw [if_pos h, ← ei]
    obtain ⟨l, el⟩ : ∃ l, l = i ^^^ (f / 512 % 2 ^ 8) ^^^ (f / 512 / 2 ^ 8 % 2 ^ 8) := ⟨_, rfl⟩
    rw [← el] at hl hu hh
    have hq := hbmPlace_interleaved (k / 8) (f / 512 * 2 ^ 8 + l) (f % 512) (by omega) (by clear hh hu; omega)
    simp only [hh, hu] at hq
    rw [show (256 : Nat) = 2 ^ 8 from rfl, ← el]
    refine ⟨hq.trans ?_, ?_⟩
    · clear hh hu hq
      obtain ⟨i1, i2, i3⟩ := index_split (k % 8) (p / 2) (p % 2) (by omega) (by omega)
      rw [← ei] at i1 i2 i3
      rw [i1, i2, i3]
      clear i1 i2 i3 ei el
      simp only [HbmPlace.mk.injEq]; omega
    · clear hh hu hq ei el
      simp only [inHbm, hbmEnd, crownSpan]
      exact ⟨decide_eq_true (by omega), by omega⟩
  · have hi : p / 2 + 16 * (p % 2) < 2 ^ 5 := by omega
    obtain ⟨i, ei⟩ : ∃ i, i = p / 2 + 16 * (p % 2) := ⟨_, rfl⟩
    rw [← ei] at hi
    rw [if_neg (Nat.not_lt.mpr h), ← ei]
    obtain ⟨g, eg⟩ : ∃ g, g = (f - 704 * 2 ^ 20) / 512 := ⟨_, rfl⟩
    obtain ⟨hl, hu, hh⟩ := hash_undone 5 g i hi
    obtain ⟨l, el⟩ : ∃ l, l = i ^^^ (g % 2 ^ 5) ^^^ (g / 2 ^ 5 % 2 ^ 5) := ⟨_, rfl⟩
    rw [← el] at hl hu hh
    have hq := hbmPlace_local (k / 8) (k % 8) (g * 2 ^ 5 + l) (f % 512) (by omega) (by omega) (by clear hh hu; omega)
    simp only [hh, hu] at hq
    rw [← eg, show (32 : Nat) = 2 ^ 5 from rfl, ← el]
    refine ⟨hq.trans ?_, ?_⟩
    · clear hh hu hq el
      rw [show i % 16 = p / 2 by omega, show i / 16 = p % 2 by omega]
      simp only [HbmPlace.mk.injEq]; omega
    · clear hh hu hq ei el
      simp only [inHbm, hbmEnd, crownSpan]
      exact ⟨decide_eq_true (by omega), by omega⟩

/-! ### Reading -/

theorem bytesGet_length (m : List (Nat × Byte)) (a n : Nat) : (bytesGet m a n).length = n := by
  induction n generalizing a with
  | zero => rfl
  | succ n ih => simp [bytesGet, ih]

theorem bytesGet_getElem? (m : List (Nat × Byte)) (a n i : Nat) (h : i < n) :
    (bytesGet m a n)[i]? = some (mapGet 0 m (a + i)) := by
  induction n generalizing a i with
  | zero => omega
  | succ n ih =>
    cases i with
    | zero => simp [bytesGet]
    | succ i => simpa [bytesGet, Nat.add_assoc, Nat.add_comm 1 i] using ih (a + 1) i (by omega)

theorem bytesGet_bytesSet (m : List (Nat × Byte)) (a : Nat) (bs : List Byte) : bytesGet (bytesSet m a bs) a bs.length = bs := by
  apply List.ext_getElem?
  intro i
  by_cases h : i < bs.length
  · rw [bytesGet_getElem? _ _ _ _ h, mapGet_bytesSet_inside _ _ _ _ h, List.getElem?_eq_getElem h]
  · rw [List.getElem?_eq_none (by rw [bytesGet_length]; omega), List.getElem?_eq_none (by omega)]

/-- Memory reads back what was written. -/
@[simp] theorem State.readMem_writeMem (s : State) (a : Nat) (bs : List Byte) :
    (s.writeMem a bs).readMem a bs.length = bs := bytesGet_bytesSet _ _ _

/-- A write leaves every byte outside it as it was. -/
theorem State.readByte_writeMem_outside (s : State) (a : Nat) (bs : List Byte) (b : Nat) (h : b < a ∨ a + bs.length ≤ b) :
    (s.writeMem a bs).readByte b = s.readByte b := mapGet_bytesSet_outside _ _ _ _ h

theorem State.writeMem_outside (s : State) (a : Nat) (bs : List Byte) : SameOutside s (s.writeMem a bs) a bs.length :=
  fun b h => s.readByte_writeMem_outside a bs b h

theorem State.readByte_writeMem_inside (s : State) (a : Nat) (bs : List Byte) (i : Nat) (h : i < bs.length) :
    (s.writeMem a bs).readByte (a + i) = bs[i] := mapGet_bytesSet_inside _ _ _ _ h

/-- A cleared span reads zero, every other byte as before. -/
theorem State.readByte_clearMem (s : State) (a n b : Nat) :
    (s.clearMem a n).readByte b = if a ≤ b ∧ b < a + n then 0 else s.readByte b := mapGet_span _ _ _ _ _

theorem mapGet_filter_key {α : Type} (d : α) (p : Nat → Bool) (m : List (Nat × α)) (k : Nat) :
    mapGet d (m.filter fun e => p e.1) k = if p k then mapGet d m k else d := by
  induction m with
  | nil => simp
  | cons e m ih =>
    by_cases hp : p e.1 = true
    · rw [List.filter_cons_of_pos (by simpa using hp)]
      by_cases hk : e.1 = k
      · subst hk; simp [mapGet, hp]
      · simp [mapGet, hk, ih]
    · rw [List.filter_cons_of_neg (by simpa using hp), ih]
      by_cases hk : e.1 = k
      · subst hk; simp [hp]
      · simp [mapGet, hk]

/-- An atom that a write covers whole loses its poison; another keeps what it had (R219). -/
theorem State.atomPoisoned_writeMem (s : State) (a : Nat) (bs : List Byte) (n : Nat) :
    (s.writeMem a bs).atomPoisoned n =
      if a ≤ 64 * n ∧ 64 * n + 64 ≤ a + bs.length then false else s.atomPoisoned n := by
  have := mapGet_filter_key false (fun k => !(decide (a ≤ 64 * k) && decide (64 * k + 64 ≤ a + bs.length))) s.poison n
  unfold State.atomPoisoned State.writeMem
  rw [this]
  by_cases h1 : a ≤ 64 * n <;> by_cases h2 : 64 * n + 64 ≤ a + bs.length <;> simp [h1, h2]

theorem State.atomPoisoned_poisonAtom (s : State) (n m : Nat) :
    (s.poisonAtom n).atomPoisoned m = if m = n then true else s.atomPoisoned m := mapGet_set false s.poison n m true

theorem State.readMem_length (s : State) (a n : Nat) : (s.readMem a n).length = n := bytesGet_length _ _ _

/-- A state with the same bytes and poison reads alike everywhere. -/
theorem SameMemory.of_eq {s t : State} (hm : t.mem = s.mem) (hp : t.poison = s.poison) : SameMemory s t := by
  constructor <;> intro a
  · simp [State.readByte, hm]
  · simp [State.atomPoisoned, hp]

end Sys2Proof.Machine
end

