-- ==== Sys2Proof/Laws/Keeps.lean ====
section
/-! SUPPORT. What every shared operation keeps: memory and poison in their one form, the fault log within its 1,024 records,
the waiting commands and the THERMTRIP_N pin. -/
namespace Sys2Proof.Machine

/-- What no operation but the queue, the trip comparators and the resets takes from a state. -/
structure Keeps (r s : State) : Prop where
  memOk : r.memOk = true → s.memOk = true
  log : r.faultLog.length ≤ 1024 → s.faultLog.length ≤ 1024
  pending : s.pending = r.pending
  thermTrip : s.thermTrip = r.thermTrip

theorem Keeps.refl (s : State) : Keeps s s := ⟨id, id, rfl, rfl⟩
theorem Keeps.trans {r s t : State} (h : Keeps r s) (k : Keeps s t) : Keeps r t :=
  ⟨k.memOk ∘ h.memOk, k.log ∘ h.log, k.pending.trans h.pending, k.thermTrip.trans h.thermTrip⟩

/-- A state that differs in other fields only. -/
theorem Keeps.upd {r u t : State} (h : Keeps r u) (hm : t.mem = u.mem) (hp : t.poison = u.poison) (hf : t.faultLog = u.faultLog)
    (hq : t.pending = u.pending) (ht : t.thermTrip = u.thermTrip) : Keeps r t :=
  ⟨fun x => (State.memOk_congr hm hp).trans (h.memOk x), fun x => hf ▸ h.log x, hq.trans h.pending, ht.trans h.thermTrip⟩

set_option autoImplicit true in
theorem Keeps.mk_of {r u : State} (h : Keeps r u) :
    Keeps r { u with
      tick := x0, sent := x1, cycles := x2, dict := x3, cores := x4, increments := x5, steps := x6, frecSeq := x7,
      notedNow := x8, regions := x9, hbm := x10, hbmWaiting := x11, nextToken := x12, walks := x13, patrolled :=
      x14, codec := x15, laneHolds := x16, codecLast := x17, phases := x18, phaseMet := x19, schedules := x20, ids
      := x21, landings := x22, held := x23, heldWaiting := x24, seenUses := x25, toSwitch := x26, flowsTx := x27,
      links := x28, arrived := x29, handed := x30, flowsRx := x31, routes := x32, staged := x33, colls := x34, rings
      := x35, prepared := x36, contexts := x37, stagedSets := x38, subscriptions := x39, nonces := x40, inDoubt :=
      x41, pinned := x42, linkSeed := x43, routeAddr := x44, maps := x45, mapsNext := x46, drainForced := x47,
      replays := x48, capNow := x49, learned := x50, inputHistory := x51, lastCounts := x52, calibrations := x53,
      enforced := x54, modelRuns := x55, hot := x56, overheated := x57, opTarget := x58, stretched := x59, doffStep
      := x60, doffNow := x61, lifeShown := x62, inputOn := x63, mrstLow := x64, perstLow := x65, darkQuads := x66,
      flOwnLow := x67, straps := x68, flHold := x69, railFailures := x70, resetDue := x71, bankA := x72, bankB :=
      x73, storeSalt := x74, drbg := x75, drbgSeeds := x76, retired := x77, routeMeasure := x78, storeOpened := x79,
      stageAddr := x80, spdm := x81, signing := x82, eids := x83, i3cAddr := x84, queues := x85, windows := x86,
      msixTable := x87, msixPending := x88, msixBusy := x89, msixOwed := x90, eventCause := x91, eventMask := x92,
      windowMisses := x93, windowRefusals := x94, bar2Log2 := x95, busMaster := x96, d3hot := x97, linkUp := x98 } :=
  h.upd rfl rfl rfl rfl rfl

theorem keeps_ite {r a b : State} {c : Prop} [Decidable c] (ha : Keeps r a) (hb : Keeps r b) : Keeps r (if c then a else b) := by
  split <;> assumption

theorem keeps_fst {α : Type} {r a : State} {b : α} (h : Keeps r a) : Keeps r (a, b).1 := h
theorem keeps_snd {α : Type} {r a : State} {b : α} (h : Keeps r a) : Keeps r (b, a).2 := h

theorem keeps_foldl {α : Type} {r s : State} (f : State → α → State) (l : List α) (h : Keeps r s)
    (hf : ∀ s a, Keeps r s → Keeps r (f s a)) : Keeps r (l.foldl f s) := by
  induction l generalizing s with
  | nil => exact h
  | cons a l ih => exact ih (hf s a h)

theorem State.poisonAtom_keeps {r s : State} (h : Keeps r s) (n : Nat) : Keeps r (s.poisonAtom n) :=
  h.trans ⟨s.poisonAtom_memOk n, id, rfl, rfl⟩
theorem State.writeMem_keeps {r s : State} (h : Keeps r s) (a : Nat) (bs : List Byte) : Keeps r (s.writeMem a bs) :=
  h.trans ⟨s.writeMem_memOk a bs, id, rfl, rfl⟩
theorem State.clearMem_keeps {r s : State} (h : Keeps r s) (a n : Nat) : Keeps r (s.clearMem a n) :=
  h.trans ⟨s.clearMem_memOk a n, id, rfl, rfl⟩
/-- Nothing stands in memory or the fault log of a module that has been reset. -/
theorem State.afterReset_keeps {r s : State} (h : Keeps r s) (l : Nat) : Keeps r (s.afterReset l) :=
  ⟨fun _ => rfl, fun _ => by simp [State.afterReset], h.pending, h.thermTrip⟩

/-- What a SET command's own part keeps, whether it is done or refused. -/
def SetKeeps (r : State) : SetResult → Prop
  | .ok s => Keeps r s
  | .refuse _ _ => True
  | .refuseIn s _ _ => Keeps r s
/-- What issuing keeps. -/
def IssueKeeps (r : State) : Issue → Prop
  | .go _ s => Keeps r s
  | _ => True
theorem setKeeps_ite {r : State} {a b : SetResult} {c : Prop} [Decidable c] (ha : SetKeeps r a) (hb : SetKeeps r b) :
    SetKeeps r (if c then a else b) := by
  split <;> assumption
theorem issueKeeps_ite {r : State} {a b : Issue} {c : Prop} [Decidable c] (ha : IssueKeeps r a) (hb : IssueKeeps r b) :
    IssueKeeps r (if c then a else b) := by
  split <;> assumption
theorem setKeeps_ok {r s : State} (h : Keeps r s) : SetKeeps r (.ok s) := h
theorem setKeeps_refuse {r : State} (a b : Nat) : SetKeeps r (.refuse a b) := trivial
theorem setKeeps_refuseIn {r s : State} (h : Keeps r s) (a b : Nat) : SetKeeps r (.refuseIn s a b) := h
theorem issueKeeps_go {r s : State} (f : InFlight) (h : Keeps r s) : IssueKeeps r (.go f s) := h
theorem issueKeeps_stall {r : State} : IssueKeeps r .stall := trivial
theorem issueKeeps_refuse {r : State} (a b c : Nat) : IssueKeeps r (.refuse a b c) := trivial

/-- What a command that completes keeps. -/
def OutKeeps (r : State) : Host.Outcome State Fault Refusal → Prop
  | .next s => Keeps r s
  | _ => True
theorem outKeeps_next {r s : State} (h : Keeps r s) : OutKeeps r (.next s) := h
theorem outKeeps_ite {r : State} {a b : Host.Outcome State Fault Refusal} {c : Prop} [Decidable c] (ha : OutKeeps r a)
    (hb : OutKeeps r b) : OutKeeps r (if c then a else b) := by
  split <;> assumption
theorem OutKeeps.of_next {r t : State} {o : Host.Outcome State Fault Refusal} (h : OutKeeps r o) (e : o = .next t) : Keeps r t := by
  rw [e] at h; exact h

theorem State.setVal_keeps {r0 s : State} (hk : Keeps r0 s) (k : Key) (v : Nat) : Keeps r0 (State.setVal s k v) :=
  hk.upd rfl rfl rfl rfl rfl
theorem State.bumpRaw_keeps {r0 s : State} (hk : Keeps r0 s) (k : Key) (n : Nat) : Keeps r0 (State.bumpRaw s k n).1 :=
  hk.upd rfl rfl rfl rfl rfl
theorem State.free_keeps {r0 s : State} (hk : Keeps r0 s) (w : Nat) : Keeps r0 (State.free s w).2 :=
  hk.upd rfl rfl rfl rfl rfl
theorem State.emit_keeps {r0 s : State} (hk : Keeps r0 s) (x : Sent) : Keeps r0 (State.emit s x) :=
  hk.upd rfl rfl rfl rfl rfl
theorem State.setDomain_keeps {r0 s : State} (hk : Keeps r0 s) (d : Nat) (v : Nat) : Keeps r0 (State.setDomain s d v) :=
  hk.upd rfl rfl rfl rfl rfl
theorem State.zeroClocks_keeps {r0 s : State} (hk : Keeps r0 s) (is : List Nat) : Keeps r0 (State.zeroClocks s is) := by
  unfold State.zeroClocks; with_reducible repeat'
    first
      | exact hk | assumption | apply keeps_ite
      | (apply Keeps.mk_of
         first
           | exact hk | assumption | apply keeps_ite)
theorem State.idle_keeps {r0 s : State} (hk : Keeps r0 s) : Keeps r0 (State.idle s) :=
  hk.upd rfl rfl rfl rfl rfl
theorem State.setCore_keeps {r0 s : State} (hk : Keeps r0 s) (c : Nat) (x : Core) : Keeps r0 (State.setCore s c x) :=
  hk.upd rfl rfl rfl rfl rfl
theorem State.setStep_keeps {r0 s : State} (hk : Keeps r0 s) (j : Nat) (x : StepInfo) : Keeps r0 (State.setStep s j x) :=
  hk.upd rfl rfl rfl rfl rfl
theorem State.sendVector_keeps {r0 s : State} (hk : Keeps r0 s) (v : Nat) : Keeps r0 (State.sendVector s v) := by
  unfold State.sendVector; (try extract_lets); with_reducible repeat'
    first
      | exact hk | assumption | apply keeps_ite | apply State.emit_keeps | (apply Keeps.mk_of; exact hk)
theorem State.event_keeps {r0 s : State} (hk : Keeps r0 s) (bit : Nat) : Keeps r0 (State.event s bit) := by
  unfold State.event; (try extract_lets); with_reducible repeat'
    first
      | exact hk | assumption | apply keeps_ite | apply State.sendVector_keeps | (apply Keeps.mk_of; exact hk)
theorem State.setLifecycle_keeps {r0 s : State} (hk : Keeps r0 s) (v : Nat) : Keeps r0 (State.setLifecycle s v) := by
  unfold State.setLifecycle; with_reducible repeat'
    first
      | exact hk | assumption | apply keeps_ite | apply State.event_keeps | apply State.setVal_keeps
theorem bumpSat_keeps {r0 : State} {p : State × List Key} (hk : Keeps r0 p.1) (k : Key) (n : Nat) : Keeps r0 (bumpSat p k n).1 :=
  State.bumpRaw_keeps hk _ _
theorem appendFault_keeps {r0 s : State} (hk : Keeps r0 s) (r : BitVec 512) : Keeps r0 (appendFault s r).1 := by
  unfold appendFault; extract_lets p _ q
  have hp : Keeps r0 p.1 := bumpSat_keeps (hk.upd rfl rfl rfl rfl rfl) _ _
  have hq : Keeps r0 q.1 := bumpSat_keeps hp _ _
  split
  · rename_i hl
    refine ⟨hp.memOk, fun _ => ?_, hp.pending, hp.thermTrip⟩
    show (p.1.faultLog ++ [r]).length ≤ 1024
    simp only [List.length_append, List.length_singleton]; omega
  · refine ⟨hq.memOk, fun hr => ?_, hq.pending, hq.thermTrip⟩
    have := hq.log hr
    show (q.1.faultLog.drop 1 ++ [r]).length ≤ 1024
    simp only [List.length_append, List.length_singleton, List.length_drop]; omega
theorem appendNote_keeps {r0 s : State} (hk : Keeps r0 s) (code : Nat) (a : FaultAt) : Keeps r0 (appendNote s code a).1 := by
  unfold appendNote; extract_lets p q
  have hp : Keeps r0 p.1 := bumpSat_keeps hk _ _
  split
  · exact bumpSat_keeps hp _ _
  · exact Keeps.upd (State.event_keeps (appendFault_keeps hp _) 1) rfl rfl rfl rfl rfl
theorem noteSaturated_keeps {r0 s : State} (hk : Keeps r0 s) (n : Nat) (ks : List Key) : Keeps r0 (noteSaturated n ks s) := by
  induction n generalizing ks s with
  | zero => exact hk
  | succ n ih =>
    cases ks with
    | nil => exact hk
    | cons k ks => exact ih (appendNote_keeps hk _ _) _
theorem State.logRecord_keeps {r0 s : State} (hk : Keeps r0 s) (r : BitVec 512) : Keeps r0 (State.logRecord s r) := by
  unfold State.logRecord; (try extract_lets); with_reducible repeat'
    first
      | exact hk | assumption | apply keeps_ite | apply appendFault_keeps | apply noteSaturated_keeps | extract_lets
theorem State.note_keeps {r0 s : State} (hk : Keeps r0 s) (code : Nat) (a : FaultAt) : Keeps r0 (State.note s code a) := by
  unfold State.note; (try extract_lets); with_reducible repeat'
    first
      | exact hk | assumption | apply keeps_ite | apply appendNote_keeps | apply noteSaturated_keeps | extract_lets
theorem State.bump_keeps {r0 s : State} (hk : Keeps r0 s) (k : Key) (n : Nat) : Keeps r0 (State.bump s k n) := by
  unfold State.bump; with_reducible repeat'
    first
      | exact hk | assumption | apply keeps_ite | apply State.bumpRaw_keeps | apply State.note_keeps
theorem State.countCycles_keeps {r0 s : State} (hk : Keeps r0 s) (k : Key) (b : Bool) : Keeps r0 (State.countCycles s k b) :=
  keeps_ite (show Keeps r0 ((s.free 32).2.bump k (s.free 32).1) from
    State.bump_keeps (Keeps.upd (t := (s.free 32).2) hk rfl rfl rfl rfl rfl) _ _) hk
theorem State.withdrawal_keeps {r0 s : State} (hk : Keeps r0 s) (code : Nat) (a : FaultAt) : Keeps r0 (State.withdrawal s code a) := by
  unfold State.withdrawal; with_reducible repeat'
    first
      | exact hk | assumption | apply keeps_ite | apply State.event_keeps | apply State.logRecord_keeps
      | apply State.setVal_keeps | apply State.bump_keeps | apply State.setStep_keeps | split
theorem State.raise_keeps {r0 s : State} (hk : Keeps r0 s) (code : Nat) (a : FaultAt) : Keeps r0 (State.raise s code a) := by
  unfold State.raise; with_reducible repeat'
    first
      | exact hk | assumption | apply keeps_ite | apply State.note_keeps | apply State.withdrawal_keeps
theorem State.coreFault_keeps {r0 s : State} (hk : Keeps r0 s) (code : Nat) (c : Nat) (st : Nat) (handle : Nat) (detail : Nat) :
    Keeps r0 (State.coreFault s code c st handle detail) := by
  unfold State.coreFault; with_reducible repeat' first | exact hk | assumption | apply keeps_ite | apply State.raise_keeps
theorem State.poisonFault_keeps {r0 s : State} (hk : Keeps r0 s) (c : Nat) (st : Nat) (handle : Nat) : Keeps r0
    (State.poisonFault s c st handle) := by
  unfold State.poisonFault; with_reducible repeat'
    first
      | exact hk | assumption | apply keeps_ite | apply State.coreFault_keeps | split
theorem State.semAdd_keeps {r0 s : State} (hk : Keeps r0 s) (c : Nat) (sem : Nat) (amount : Nat) : Keeps r0 (State.semAdd s c
    sem amount) := by
  unfold State.semAdd; with_reducible repeat'
    first
      | exact hk | assumption | apply keeps_ite | apply State.coreFault_keeps | apply State.setCore_keeps
theorem State.sendIncrement_keeps {r0 s : State} (hk : Keeps r0 s) (src : SigSource) (dst : Nat) (sem : Nat) (amount : Nat) :
    Keeps r0 (State.sendIncrement s src dst sem amount) :=
  hk.upd rfl rfl rfl rfl rfl
theorem State.seatRequests_keeps {r0 s : State} (hk : Keeps r0 s) (held : List HbmReq) (waiting : List HbmReq) : Keeps r0 (State.seatRequests
    s held waiting) := by
  unfold State.seatRequests; (try extract_lets); with_reducible repeat'
    first
      | exact hk | assumption | apply keeps_ite | apply State.bump_keeps | refine keeps_foldl _ _ ?_ fun _ _ _ => ?_
      | extract_lets
      | (apply Keeps.mk_of
         first
           | exact hk | assumption | apply keeps_ite | apply State.bump_keeps | refine keeps_foldl _ _ ?_ fun _ _ _ => ?_)
theorem spanRequests_keeps {r0 s : State} (hk : Keeps r0 s) (who : HbmRequester) (crown token a : Nat) (data : Option (List Byte))
    (ps : List (Nat × Nat)) : Keeps r0 (spanRequests who crown token a data ps s).2 := by
  induction ps generalizing s with
  | nil => exact hk
  | cons p ps ih =>
    refine ih ?_
    split
    · exact hk
    · exact State.free_keeps hk 3
theorem State.request_keeps {r0 s : State} (hk : Keeps r0 s) (who : HbmRequester) (crown : Nat) (token : Nat) (a : Nat) (n :
    Nat) (data : Option (List Byte)) : Keeps r0 (State.request s who crown token a n data) := by
  unfold State.request; (try extract_lets); with_reducible repeat'
    first
      | exact hk | assumption | apply keeps_ite | apply State.seatRequests_keeps | apply spanRequests_keeps | extract_lets
theorem State.newToken_keeps {r0 s : State} (hk : Keeps r0 s) : Keeps r0 (State.newToken s).2 :=
  hk.upd rfl rfl rfl rfl rfl
theorem State.requestAlone_keeps {r0 s : State} (hk : Keeps r0 s) (who : HbmRequester) (crown : Nat) (a : Nat) (n : Nat) (data :
    Option (List Byte)) : Keeps r0 (State.requestAlone s who crown a n data) := by
  unfold State.requestAlone; with_reducible repeat'
    first
      | exact hk | assumption | apply keeps_ite | apply State.request_keeps | apply State.newToken_keeps
theorem State.firmwareReads_keeps {r0 s : State} (hk : Keeps r0 s) (a : Nat) (n : Nat) : Keeps r0 (State.firmwareReads s a n) :=
    by
  unfold State.firmwareReads; with_reducible repeat'
    first
      | exact hk | assumption | apply keeps_ite | apply State.requestAlone_keeps
theorem State.seen_keeps {r0 s : State} (hk : Keeps r0 s) (who : HbmRequester) : Keeps r0 (State.seen s who) := by
  unfold State.seen; with_reducible repeat'
    first
      | exact hk | assumption | apply keeps_ite | apply State.writeMem_keeps | refine keeps_foldl _ _ ?_ fun _ _ _ => ?_
theorem grantLanes_keeps {r0 x3 : State} (hk : Keeps r0 x3) (x1 : Nat) (x2 : Bool) : Keeps r0 (grantLanes x1 x2 x3) := by
  induction x1 generalizing x3 with
  | zero => exact hk
  | succ n ih =>
    unfold grantLanes; extract_lets; with_reducible repeat' first | exact hk | apply ih | split | extract_lets | apply Keeps.mk_of
theorem State.addBlocks_keeps {r0 s : State} (hk : Keeps r0 s) (enc : Bool) (client : Nat) (token : Nat) (landing : Option (Nat
    × Nat × Nat × Nat)) (n : Nat) : Keeps r0 (State.addBlocks s enc client token landing n) := by
  unfold State.addBlocks; (try extract_lets); with_reducible repeat'
    first
      | exact hk | assumption | apply keeps_ite | apply grantLanes_keeps | (apply Keeps.mk_of; exact hk)
theorem State.blockDone_keeps {r0 s : State} (hk : Keeps r0 s) (enc : Bool) (lane : Nat) : Keeps r0 (State.blockDone s enc lane) := by
  unfold State.blockDone; (try extract_lets); with_reducible repeat'
    first
      | exact hk | assumption | apply keeps_ite | apply grantLanes_keeps | (apply Keeps.mk_of; exact hk)
theorem countEncoded_keeps {r0 s : State} (hk : Keeps r0 s) (t : Tile) (streamBytes : Nat) : Keeps r0 (countEncoded s t
    streamBytes) := by
  unfold countEncoded; with_reducible repeat' first | exact hk | assumption | apply keeps_ite | apply State.bump_keeps
theorem State.signalDone_keeps {r0 s : State} (hk : Keeps r0 s) (c : Nat) (w : QWord) : Keeps r0 (State.signalDone s c w) := by
  unfold State.signalDone; with_reducible repeat'
    first
      | exact hk | assumption | apply keeps_ite | apply State.sendIncrement_keeps
theorem refuseHead_keeps {r0 s : State} (hk : Keeps r0 s) (c : Nat) (st : Nat) (i : StationInsn) : Keeps r0 (refuseHead s c st i) := by
  unfold refuseHead; with_reducible repeat'
    first
      | exact hk | assumption | apply keeps_ite | apply State.signalDone_keeps | apply State.setCore_keeps
theorem putInFlight_keeps {r0 s : State} (hk : Keeps r0 s) (c : Nat) (st : Nat) (i : StationInsn) (hs : List (Nat × Bool))
    (scales : List Nat) (f : InFlight) : Keeps r0 (putInFlight s c st i hs scales f) :=
  hk.upd rfl rfl rfl rfl rfl
theorem issueStation_keeps {r0 s : State} (hk : Keeps r0 s) (c : Nat) (st : Nat) (op : Nat) (body : State → StationInsn → Nat →
    Issue) (hbody : ∀ s i n, Keeps r0 s → IssueKeeps r0 (body s i n)) : Keeps r0 (issueStation s c st op body) := by
  have hb : ∀ i n f s', body s i n = .go f s' → Keeps r0 s' := by
    intro i n f s' e; have := hbody s i n hk; rw [e] at this; exact this
  unfold issueStation; extract_lets
  with_reducible repeat'
    first
      | exact hk | exact hb _ _ _ _ ‹_› | apply keeps_ite | apply refuseHead_keeps | apply State.coreFault_keeps
      | apply putInFlight_keeps | split | extract_lets | (apply Keeps.mk_of; exact hb _ _ _ _ ‹_›)
theorem withdrawnIssue_keeps {r0 s : State} (hk : Keeps r0 s) (c : Nat) (st : Nat) (i : StationInsn) (token : Nat) (code : Nat)
    (handle : Nat) (detail : Nat) : IssueKeeps r0 (withdrawnIssue s c st i token code handle detail) := by
  unfold withdrawnIssue; with_reducible repeat'
    first
      | exact hk | assumption | apply issueKeeps_ite | exact issueKeeps_stall | exact issueKeeps_refuse _ _ _
      | apply issueKeeps_go | apply keeps_ite | apply State.coreFault_keeps | apply State.setCore_keeps
theorem poisonedIssue_keeps {r0 s : State} (hk : Keeps r0 s) (c : Nat) (st : Nat) (i : StationInsn) (token : Nat) (handle : Nat)
    : IssueKeeps r0 (poisonedIssue s c st i token handle) := by
  unfold poisonedIssue; with_reducible repeat'
    first
      | exact hk | assumption | apply issueKeeps_ite | exact issueKeeps_stall | exact issueKeeps_refuse _ _ _
      | apply issueKeeps_go | apply keeps_ite | apply State.poisonFault_keeps | apply State.setCore_keeps
theorem issueNop_keeps {r0 s : State} (hk : Keeps r0 s) (c : Nat) (st : Nat) : Keeps r0 (issueNop s c st) := by
  unfold issueNop; (try extract_lets); with_reducible repeat'
    first
      | exact hk | assumption | apply keeps_ite | apply refuseHead_keeps | apply State.coreFault_keeps
      | apply putInFlight_keeps | split | (apply Keeps.mk_of; exact hk)
theorem passWait_keeps {r0 s : State} (hk : Keeps r0 s) (c : Nat) (st : Nat) (sub : Bool) : Keeps r0 (passWait s c st sub) := by
  unfold passWait; (try extract_lets); with_reducible repeat'
    first
      | exact hk | assumption | apply keeps_ite | apply refuseHead_keeps | apply State.coreFault_keeps
      | apply State.setCore_keeps | split
theorem endStream_keeps {r0 s : State} (hk : Keeps r0 s) (c : Nat) : Keeps r0 (endStream s c) :=
  hk.upd rfl rfl rfl rfl rfl
theorem ctlMalformed_keeps {r0 s : State} (hk : Keeps r0 s) (c : Nat) : Keeps r0 (ctlMalformed s c) := by
  unfold ctlMalformed; with_reducible repeat'
    first
      | exact hk | assumption | apply keeps_ite | apply endStream_keeps | apply State.coreFault_keeps
theorem jumpTo_keeps {r0 s : State} (hk : Keeps r0 s) (c : Nat) (target : Nat) : Keeps r0 (jumpTo s c target) := by
  unfold jumpTo; with_reducible repeat'
    first
      | exact hk | assumption | apply keeps_ite | apply ctlMalformed_keeps | apply State.setCore_keeps
theorem advance_keeps {r0 s : State} (hk : Keeps r0 s) (c : Nat) : Keeps r0 (advance s c) := by
  unfold advance; with_reducible repeat' first | exact hk | assumption | apply keeps_ite | apply jumpTo_keeps
theorem ctlStep_keeps {r0 s : State} (hk : Keeps r0 s) (c : Nat) (op : Nat) (body : State → QWord → State) (hbody : ∀ s w, Keeps
    r0 s → Keeps r0 (body s w)) : Keeps r0 (ctlStep s c op body) := by
  unfold ctlStep; with_reducible repeat'
    first
      | exact hk | assumption | apply keeps_ite | apply hbody | apply ctlMalformed_keeps | apply endStream_keeps | split
theorem writeReg_keeps {r0 s : State} (hk : Keeps r0 s) (c : Nat) (rd : Nat) (v : DWord) : Keeps r0 (writeReg s c rd v) := by
  unfold writeReg; with_reducible repeat'
    first
      | exact hk | assumption | apply keeps_ite | apply advance_keeps | apply State.setCore_keeps
theorem ctlAlu_keeps {r0 s : State} (hk : Keeps r0 s) (c : Nat) (f : DWord → DWord → DWord) (w : QWord) : Keeps r0 (ctlAlu c f s
    w) := by
  unfold ctlAlu; with_reducible repeat' first | exact hk | assumption | apply keeps_ite | apply writeReg_keeps
theorem ctlBranch_keeps {r0 s : State} (hk : Keeps r0 s) (c : Nat) (p : DWord → DWord → Bool) (w : QWord) : Keeps r0 (ctlBranch
    c p s w) := by
  unfold ctlBranch; with_reducible repeat'
    first
      | exact hk | assumption | apply keeps_ite | apply jumpTo_keeps | apply advance_keeps
theorem hintPhase_keeps {r0 s : State} (hk : Keeps r0 s) (c : Nat) (w : QWord) : Keeps r0 (hintPhase c s w) := by
  unfold hintPhase; (try extract_lets); with_reducible repeat'
    first
      | exact hk | assumption | apply keeps_ite | apply advance_keeps | (apply Keeps.mk_of; exact hk)
theorem ctlLoop_keeps {r0 s : State} (hk : Keeps r0 s) (c : Nat) (w : QWord) : Keeps r0 (ctlLoop c s w) := by
  unfold ctlLoop; with_reducible repeat'
    first
      | exact hk | assumption | apply keeps_ite | apply State.setCore_keeps | apply advance_keeps | apply jumpTo_keeps
theorem ctlSumpop_keeps {r0 s : State} (hk : Keeps r0 s) (c : Nat) (w : QWord) : Keeps r0 (ctlSumpop c s w) := by
  unfold ctlSumpop; (try extract_lets); with_reducible repeat'
    first
      | exact hk | assumption | apply keeps_ite | apply advance_keeps | apply State.setCore_keeps | split
theorem timingMark_keeps {r0 s : State} (hk : Keeps r0 s) (c : Nat) : Keeps r0 (timingMark s c) := by
  unfold timingMark; with_reducible repeat'
    first
      | exact hk | assumption | apply keeps_ite | apply State.coreFault_keeps | apply State.bump_keeps
      | apply State.setStep_keeps | split
theorem ctlSumcount_keeps {r0 s : State} (hk : Keeps r0 s) (c : Nat) (w : QWord) : Keeps r0 (ctlSumcount c s w) := by
  unfold ctlSumcount; with_reducible repeat'
    first
      | exact hk | assumption | apply keeps_ite | apply writeReg_keeps | apply timingMark_keeps
theorem ctlCtld_keeps {r0 s : State} (hk : Keeps r0 s) (c : Nat) (w : QWord) : Keeps r0 (ctlCtld c s w) := by
  unfold ctlCtld; with_reducible repeat'
    first
      | exact hk | assumption | apply keeps_ite | apply ctlMalformed_keeps | apply writeReg_keeps
theorem ctlPush_keeps {r0 s : State} (hk : Keeps r0 s) (c : Nat) (w : QWord) : Keeps r0 (ctlPush c s w) := by
  unfold ctlPush; with_reducible repeat'
    first
      | exact hk | assumption | apply keeps_ite | apply ctlMalformed_keeps | apply jumpTo_keeps | apply State.setCore_keeps
      | split
theorem ctlBind_keeps {r0 s : State} (hk : Keeps r0 s) (c : Nat) (w : QWord) : Keeps r0 (ctlBind c s w) := by
  unfold ctlBind; with_reducible repeat'
    first
      | exact hk | assumption | apply keeps_ite | apply advance_keeps | apply State.coreFault_keeps
      | apply State.setCore_keeps
theorem ctlUnbind_keeps {r0 s : State} (hk : Keeps r0 s) (c : Nat) (w : QWord) : Keeps r0 (ctlUnbind c s w) := by
  unfold ctlUnbind; with_reducible repeat'
    first
      | exact hk | assumption | apply keeps_ite | apply advance_keeps | apply State.setCore_keeps
theorem State.coreRead_keeps {r0 s : State} (hk : Keeps r0 s) (c : Nat) (token : Nat) (a : Nat) (n : Nat) : Keeps r0
    (State.coreRead s c token a n) := by
  unfold State.coreRead; with_reducible repeat'
    first
      | exact hk | assumption | apply keeps_ite | apply State.request_keeps
theorem State.coreWrite_keeps {r0 s : State} (hk : Keeps r0 s) (c : Nat) (token : Nat) (a : Nat) (bs : List Byte) : Keeps r0
    (State.coreWrite s c token a bs) := by
  unfold State.coreWrite; with_reducible repeat'
    first
      | exact hk | assumption | apply keeps_ite | apply State.request_keeps
theorem State.readSlots_keeps {r0 s : State} (hk : Keeps r0 s) (a : Nat) (n : Nat) : Keeps r0 (State.readSlots s a n) := by
  unfold State.readSlots; (try extract_lets); with_reducible repeat'
    first
      | exact hk | assumption | apply keeps_ite | apply State.bump_keeps | refine keeps_foldl _ _ ?_ fun _ _ _ => ?_ | split
      | (apply Keeps.mk_of; exact hk)
theorem State.loadRequest_keeps {r0 s : State} (hk : Keeps r0 s) (c : Nat) (token : Nat) (a : Nat) (n : Nat) : Keeps r0
    (State.loadRequest s c token a n) := by
  unfold State.loadRequest; with_reducible repeat'
    first
      | exact hk | assumption | apply keeps_ite | apply State.coreRead_keeps | apply State.readSlots_keeps
theorem loadPlain_keeps {r0 s : State} (hk : Keeps r0 s) (c : Nat) (i : StationInsn) (token : Nat) (t : Tile) (crcOk : Bool) :
    IssueKeeps r0 (loadPlain s c i token t crcOk) := by
  unfold loadPlain; with_reducible repeat'
    first
      | exact hk | assumption | apply issueKeeps_ite | exact issueKeeps_stall | exact issueKeeps_refuse _ _ _
      | apply issueKeeps_go | apply keeps_ite | apply withdrawnIssue_keeps
theorem loadExact_keeps {r0 s : State} (hk : Keeps r0 s) (c : Nat) (i : StationInsn) (token : Nat) (img : Tile) : IssueKeeps r0
    (loadExact s c i token img) := by
  unfold loadExact; with_reducible repeat'
    first
      | exact hk | assumption | apply issueKeeps_ite | exact issueKeeps_stall | exact issueKeeps_refuse _ _ _
      | apply issueKeeps_go | apply keeps_ite | apply withdrawnIssue_keeps | apply State.bump_keeps
      | apply State.addBlocks_keeps | apply State.poisonFault_keeps | apply loadPlain_keeps | split
theorem loadAcrossError_keeps {r0 s : State} (hk : Keeps r0 s) (c : Nat) (i : StationInsn) (token : Nat) : IssueKeeps r0
    (loadAcrossError s c i token) := by
  unfold loadAcrossError; with_reducible repeat'
    first
      | exact hk | assumption | apply issueKeeps_ite | exact issueKeeps_stall | exact issueKeeps_refuse _ _ _
      | apply issueKeeps_go | apply keeps_ite
theorem loadPoisoned_keeps {r0 s : State} (hk : Keeps r0 s) (c : Nat) (i : StationInsn) (token : Nat) (img : Tile) (whole :
    Bool) : IssueKeeps r0 (loadPoisoned s c i token img whole) := by
  unfold loadPoisoned; (try extract_lets); with_reducible repeat'
    first
      | exact hk | assumption | apply issueKeeps_ite | exact issueKeeps_stall | exact issueKeeps_refuse _ _ _
      | apply issueKeeps_go | apply keeps_ite | apply State.poisonFault_keeps | split | extract_lets
theorem loadImage_keeps {r0 s : State} (hk : Keeps r0 s) (c : Nat) (i : StationInsn) (token : Nat) : IssueKeeps r0 (loadImage c
    s i token) := by
  unfold loadImage; extract_lets js a h0 m hd n img open' spoilt; clear_value js a h0 m hd n img open' spoilt
  with_reducible repeat'
    first
      | exact hk | assumption | apply issueKeeps_ite | apply withdrawnIssue_keeps | apply State.loadRequest_keeps
      | apply loadAcrossError_keeps | apply loadPoisoned_keeps | apply loadExact_keeps | apply loadPlain_keeps | extract_lets
theorem freeByteList_keeps {r0 x2 : State} (hk : Keeps r0 x2) (x1 : Nat) : Keeps r0 (freeByteList x1 x2).2 := by
  induction x1 generalizing x2 with
  | zero => exact hk
  | succ n ih => exact ih (State.free_keeps hk 8)
theorem State.rawRead_keeps {r0 s : State} (hk : Keeps r0 s) (c : Nat) (token : Nat) (a : Nat) (pitch : Nat) (rows : Nat) (bytes
    : Nat) : Keeps r0 (State.rawRead s c token a pitch rows bytes) := by
  unfold State.rawRead; with_reducible repeat'
    first
      | exact hk | assumption | apply keeps_ite | apply State.loadRequest_keeps | refine keeps_foldl _ _ ?_ fun _ _ _ => ?_
      | split
theorem State.rawWrite_keeps {r0 s : State} (hk : Keeps r0 s) (c : Nat) (token : Nat) (a : Nat) (pitch : Nat) (bytes : Nat)
    (rows : List (List Byte)) : Keeps r0 (State.rawWrite s c token a pitch bytes rows) := by
  unfold State.rawWrite; with_reducible repeat'
    first
      | exact hk | assumption | apply keeps_ite | apply State.coreWrite_keeps | refine keeps_foldl _ _ ?_ fun _ _ _ => ?_
      | split
theorem loadRaw_keeps {r0 s : State} (hk : Keeps r0 s) (c : Nat) (i : StationInsn) (token : Nat) : IssueKeeps r0 (loadRaw c s i
    token) := by
  unfold loadRaw; (try extract_lets); with_reducible repeat'
    first
      | exact hk | assumption | apply issueKeeps_ite | exact issueKeeps_stall | exact issueKeeps_refuse _ _ _
      | apply issueKeeps_go | apply keeps_ite | apply State.seen_keeps | apply withdrawnIssue_keeps
      | apply loadAcrossError_keeps | apply freeByteList_keeps | apply State.rawRead_keeps | split | extract_lets
theorem storeGoes_keeps {r0 s : State} (hk : Keeps r0 s) (c : Nat) (i : StationInsn) (token : Nat) (exact : Bool) (t : Tile) :
    IssueKeeps r0 (storeGoes s c i token exact t) := by
  unfold storeGoes; (try extract_lets); with_reducible repeat'
    first
      | exact hk | assumption | apply issueKeeps_ite | exact issueKeeps_stall | exact issueKeeps_refuse _ _ _
      | apply issueKeeps_go | apply keeps_ite | apply State.addBlocks_keeps | apply countEncoded_keeps
      | apply State.coreWrite_keeps | split | extract_lets
theorem storePoisoned_keeps {r0 s : State} (hk : Keeps r0 s) (c : Nat) (i : StationInsn) (token : Nat) (exact : Bool) (t : Tile)
    (h : Nat) : IssueKeeps r0 (storePoisoned s c i token exact t h) := by
  unfold storePoisoned; (try extract_lets); with_reducible repeat'
    first
      | exact hk | assumption | apply issueKeeps_ite | exact issueKeeps_stall | exact issueKeeps_refuse _ _ _
      | apply issueKeeps_go | apply keeps_ite | apply State.poisonFault_keeps | apply storeGoes_keeps | split | extract_lets
      | (apply Keeps.mk_of
         first
           | exact hk | assumption | apply issueKeeps_ite | exact issueKeeps_stall | exact issueKeeps_refuse _ _ _
           | apply issueKeeps_go | apply keeps_ite | apply State.poisonFault_keeps | apply storeGoes_keeps | split)
theorem storeImage_keeps {r0 s : State} (hk : Keeps r0 s) (c : Nat) (i : StationInsn) (token : Nat) : IssueKeeps r0 (storeImage
    c s i token) := by
  unfold storeImage; extract_lets h1 tr exact k t; clear_value h1 tr exact k t
  split
  · exact storePoisoned_keeps hk _ _ _ _ _ _
  · with_reducible repeat'
      first
        | exact hk | apply issueKeeps_ite | apply withdrawnIssue_keeps | apply storeGoes_keeps
theorem storeRaw_keeps {r0 s : State} (hk : Keeps r0 s) (c : Nat) (i : StationInsn) (token : Nat) : IssueKeeps r0 (storeRaw c s
    i token) := by
  unfold storeRaw; extract_lets h1 a tr pitch k t; clear_value h1 a tr pitch k t
  split
  · exact issueKeeps_go _ (State.poisonFault_keeps hk _ _ _)
  · with_reducible repeat'
      first
        | exact hk | apply issueKeeps_ite | apply withdrawnIssue_keeps | apply issueKeeps_go | apply State.rawWrite_keeps
theorem State.setId_keeps {r0 s : State} (hk : Keeps r0 s) (j : Nat) (id : Nat) (x : IdState) : Keeps r0 (State.setId s j id x) :=
  hk.upd rfl rfl rfl rfl rfl
theorem State.retire_keeps {r0 s : State} (hk : Keeps r0 s) (j : Nat) (id : Nat) (noExpiry : Bool) : Keeps r0 (State.retire s j
    id noExpiry) :=
  hk.upd rfl rfl rfl rfl rfl
theorem State.inject_keeps {r0 s : State} (hk : Keeps r0 s) (p : Pkt) : Keeps r0 (State.inject s p) :=
  hk.upd rfl rfl rfl rfl rfl
theorem State.sendWithdraw_keeps {r0 s : State} (hk : Keeps r0 s) (t : Transfer) (gen : Nat) : Keeps r0 (State.sendWithdraw s t
    gen) :=
  hk.upd rfl rfl rfl rfl rfl
theorem State.markRound_keeps {r0 s : State} (hk : Keeps r0 s) (j : Nat) (id : Nat) : Keeps r0 (State.markRound s j id) := by
  unfold State.markRound; (try extract_lets); with_reducible repeat'
    first
      | exact hk | assumption | apply keeps_ite | apply State.setStep_keeps | split | extract_lets
      | (apply Keeps.mk_of
         first
           | exact hk | assumption | apply keeps_ite | apply State.setStep_keeps | split)
theorem sendWithdrawn_keeps {r0 s : State} (hk : Keeps r0 s) (c : Nat) (w : QWord) : Keeps r0 (sendWithdrawn s c w) := by
  unfold sendWithdrawn; with_reducible repeat'
    first
      | exact hk | assumption | apply keeps_ite | apply State.sendWithdraw_keeps | apply State.retire_keeps | split
theorem sendGoes_keeps {r0 s : State} (hk : Keeps r0 s) (j : Nat) (i : StationInsn) (token : Nat) (x : Transfer) (exact : Bool)
    (t : Tile) : IssueKeeps r0 (sendGoes s j i token x exact t) := by
  unfold sendGoes; (try extract_lets); with_reducible repeat'
    first
      | exact hk | assumption | apply issueKeeps_ite | exact issueKeeps_stall | exact issueKeeps_refuse _ _ _
      | apply issueKeeps_go | apply keeps_ite | apply State.addBlocks_keeps | apply countEncoded_keeps
      | apply State.setId_keeps | split | extract_lets
      | (apply Keeps.mk_of
         first
           | exact hk | assumption | apply issueKeeps_ite | exact issueKeeps_stall | exact issueKeeps_refuse _ _ _
           | apply issueKeeps_go | apply keeps_ite | apply State.addBlocks_keeps | apply countEncoded_keeps
           | apply State.setId_keeps | split)
theorem sendIssue_keeps {r0 s : State} (hk : Keeps r0 s) (c : Nat) (i : StationInsn) (token : Nat) : IssueKeeps r0 (sendIssue c
    s i token) := by
  unfold sendIssue; extract_lets w h1 k t poison named _ nothing
  have hn : ∀ h, IssueKeeps r0 (nothing h) := fun h => issueKeeps_go _ (State.poisonFault_keeps hk _ _ _)
  clear_value w h1 k t poison named nothing
  repeat'
    first
      | exact hk | exact hn _ | exact issueKeeps_stall | apply withdrawnIssue_keeps | apply sendGoes_keeps
      | apply State.poisonFault_keeps | split
theorem sendCompletes_keeps {r0 s : State} (hk : Keeps r0 s) (c : Nat) (f : InFlight) : Keeps r0 (sendCompletes s c f) := by
  unfold sendCompletes; (try extract_lets); with_reducible repeat'
    first
      | exact hk | assumption | apply keeps_ite | apply State.markRound_keeps | apply State.setId_keeps
      | apply State.inject_keeps | refine keeps_foldl _ _ ?_ fun _ _ _ => ?_ | split | extract_lets
theorem State.setLanding_keeps {r0 s : State} (hk : Keeps r0 s) (x : Landing) : Keeps r0 (State.setLanding s x) := by
  unfold State.setLanding; (try extract_lets); with_reducible repeat'
    first
      | exact hk | assumption | apply keeps_ite | (apply Keeps.mk_of; exact hk)
theorem dropBlocks_keeps {r0 s : State} (hk : Keeps r0 s) (l : Landing) : Keeps r0 (dropBlocks s l) :=
  hk.upd rfl rfl rfl rfl rfl
theorem State.endUseAlone_keeps {r0 s : State} (hk : Keeps r0 s) (l : Landing) (t : Transfer) (code : Nat) : Keeps r0
    (State.endUseAlone s l t code) := by
  unfold State.endUseAlone; with_reducible repeat'
    first
      | exact hk | assumption | apply keeps_ite | apply State.raise_keeps | apply State.bump_keeps | apply dropBlocks_keeps
      | apply State.setLanding_keeps
theorem State.endUse_keeps {r0 s : State} (hk : Keeps r0 s) (l : Landing) (t : Transfer) (code : Nat) : Keeps r0 (State.endUse s
    l t code) := by
  unfold State.endUse; (try extract_lets); with_reducible repeat'
    first
      | exact hk | assumption | apply keeps_ite | apply State.writeMem_keeps | apply State.endUseAlone_keeps | split
      | extract_lets
theorem recvCopy_keeps {r0 s : State} (hk : Keeps r0 s) (c : Nat) (j : Nat) (i : StationInsn) (token : Nat) (a : Nat) (vc : Nat)
    : IssueKeeps r0 (recvCopy s c j i token a vc) := by
  unfold recvCopy; extract_lets h0 m hd n s1 t
  have h1 : Keeps r0 s1 := State.coreRead_keeps hk _ _ _ _
  clear_value h0 m hd n s1 t
  with_reducible repeat'
    first
      | exact hk | exact h1 | apply issueKeeps_ite | apply issueKeeps_go | apply withdrawnIssue_keeps
      | apply State.poisonFault_keeps | apply State.coreFault_keeps
theorem recvPoisoned_keeps {r0 s : State} (hk : Keeps r0 s) (c : Nat) (i : StationInsn) (token : Nat) (a : Nat) : IssueKeeps r0
    (recvPoisoned s c i token a) := by
  unfold recvPoisoned; (try extract_lets); with_reducible repeat'
    first
      | exact hk | assumption | apply issueKeeps_ite | exact issueKeeps_stall | exact issueKeeps_refuse _ _ _
      | apply issueKeeps_go | apply keeps_ite | apply State.poisonFault_keeps | apply State.seen_keeps
      | apply State.coreRead_keeps | split | extract_lets
theorem recvIssue_keeps {r0 s : State} (hk : Keeps r0 s) (c : Nat) (i : StationInsn) (token : Nat) : IssueKeeps r0 (recvIssue c
    s i token) := by
  unfold recvIssue; (try extract_lets); with_reducible repeat'
    first
      | exact hk | assumption | apply issueKeeps_ite | exact issueKeeps_stall | exact issueKeeps_refuse _ _ _
      | apply issueKeeps_go | apply keeps_ite | apply State.bump_keeps | apply State.coreFault_keeps
      | apply State.markRound_keeps | apply State.setLanding_keeps | apply recvCopy_keeps | apply recvPoisoned_keeps | split
      | extract_lets
      | (apply Keeps.mk_of
         first
           | exact hk | assumption | apply issueKeeps_ite | exact issueKeeps_stall | exact issueKeeps_refuse _ _ _
           | apply issueKeeps_go | apply keeps_ite | apply State.bump_keeps | apply State.coreFault_keeps
           | apply State.markRound_keeps | apply State.setLanding_keeps | apply recvCopy_keeps | apply recvPoisoned_keeps
           | split)
theorem countStarved_keeps {r0 s : State} (hk : Keeps r0 s) (c : Nat) : Keeps r0 (countStarved s c) := by
  unfold countStarved; with_reducible repeat'
    first
      | exact hk | assumption | apply keeps_ite | apply State.free_keeps | apply State.bump_keeps
      | apply State.setStep_keeps | apply State.coreFault_keeps | split
theorem State.setLink_keeps {r0 s : State} (hk : Keeps r0 s) (p : Nat) (x : Link) : Keeps r0 (State.setLink s p x) :=
  hk.upd rfl rfl rfl rfl rfl
theorem State.setPortState_keeps {r0 s : State} (hk : Keeps r0 s) (p : Nat) (v : Nat) : Keeps r0 (State.setPortState s p v) :=
  hk.upd rfl rfl rfl rfl rfl
theorem State.sendBolt_keeps {r0 s : State} (hk : Keeps r0 s) (p : Nat) (kind : Nat) (first : Nat) (body : List Byte) : Keeps r0
    (State.sendBolt s p kind first body) := by
  unfold State.sendBolt; (try extract_lets); with_reducible repeat'
    first
      | exact hk | assumption | apply keeps_ite | apply State.emit_keeps | apply State.bump_keeps
      | apply State.requestAlone_keeps | apply State.setLink_keeps | split | extract_lets
      | (apply Keeps.mk_of
         first
           | exact hk | assumption | apply keeps_ite | apply State.emit_keeps | apply State.bump_keeps
           | apply State.requestAlone_keeps | apply State.setLink_keeps | split)
theorem pumpPort_keeps {r0 x2 : State} (hk : Keeps r0 x2) (p : Nat) (x1 : Nat) : Keeps r0 (pumpPort p x1 x2) := by
  induction x1 generalizing x2 with
  | zero => exact hk
  | succ n ih =>
    unfold pumpPort; (try extract_lets); with_reducible repeat'
      first
        | exact hk | apply keeps_ite | apply ih | apply State.sendBolt_keeps | apply State.setLink_keeps | split
        | extract_lets
theorem State.pump_keeps {r0 s : State} (hk : Keeps r0 s) (p : Nat) : Keeps r0 (State.pump s p) := by
  unfold State.pump; with_reducible repeat' first | exact hk | assumption | apply keeps_ite | apply pumpPort_keeps
theorem State.pumpAfter_keeps {r0 s : State} (hk : Keeps r0 s) (p : Nat) : Keeps r0 (State.pumpAfter s p) := by
  unfold State.pumpAfter; (try extract_lets); with_reducible repeat'
    first
      | exact hk | assumption | apply keeps_ite | apply State.emit_keeps | apply State.pump_keeps | split | extract_lets
theorem State.sendBlocks_keeps {r0 s : State} (hk : Keeps r0 s) (p : Nat) (bs : List Nat) : Keeps r0 (State.sendBlocks s p bs) := by
  unfold State.sendBlocks; with_reducible repeat'
    first
      | exact hk | assumption | apply keeps_ite | apply State.pump_keeps | apply State.setLink_keeps
theorem State.freeUnits_keeps {r0 s : State} (hk : Keeps r0 s) (p : Nat) (vc : Nat) (n : Nat) : Keeps r0 (State.freeUnits s p vc
    n) := by
  unfold State.freeUnits; with_reducible repeat'
    first
      | exact hk | assumption | apply keeps_ite | apply State.setLink_keeps | apply State.sendBlocks_keeps
theorem State.freeOrigin_keeps {r0 s : State} (hk : Keeps r0 s) (o : Option (Nat × Nat)) (n : Nat) : Keeps r0 (State.freeOrigin
    s o n) := by
  unfold State.freeOrigin; with_reducible repeat'
    first
      | exact hk | assumption | apply keeps_ite | apply State.freeUnits_keeps | split
theorem State.takeHanded_keeps {r0 s : State} (hk : Keeps r0 s) (p : Nat) (pkt : Pkt) : Keeps r0 (State.takeHanded s p pkt).2 := by
  unfold State.takeHanded; (try extract_lets); with_reducible repeat'
    first
      | exact hk | assumption | apply keeps_ite | split | (apply Keeps.mk_of; exact hk)
theorem State.consume_keeps {r0 s : State} (hk : Keeps r0 s) (a : Arrived) : Keeps r0 (State.consume s a) := by
  unfold State.consume; with_reducible repeat'
    first
      | exact hk | assumption | apply keeps_ite | apply State.freeUnits_keeps | split
theorem matPass_keeps {r0 s : State} (hk : Keeps r0 s) (c : Nat) (i : StationInsn) (token : Nat) (a : Tile) (st : Tile) :
    IssueKeeps r0 (matPass c s i token a st) := by
  unfold matPass; with_reducible repeat'
    first
      | exact hk | assumption | apply issueKeeps_ite | exact issueKeeps_stall | exact issueKeeps_refuse _ _ _
      | apply issueKeeps_go | apply keeps_ite | apply State.setCore_keeps | apply State.bump_keeps
theorem brokenLoad_keeps {r0 s : State} (hk : Keeps r0 s) (c : Nat) (i : StationInsn) (token : Nat) : IssueKeeps r0 (brokenLoad c
    s i token) := by
  have hw := withdrawnIssue_keeps hk c 1 i token 0x2003 (iH2 i.w0) (iH2 i.w0)
  unfold brokenLoad; split
  · rename_i e; rw [e] at hw; exact hw
  · exact hw
theorem matIssue_keeps {r0 s : State} (hk : Keeps r0 s) (c : Nat) (i : StationInsn) (token : Nat) : IssueKeeps r0 (matIssue c s
    i token) := by
  unfold matIssue; extract_lets w op k b bk mode keep h1 h2 ha hb so bad ko t a st sl
  have hso : Keeps r0 so := State.setCore_keeps hk _ _
  have ht : Keeps r0 t := State.setCore_keeps hso _ _
  have hsl : Keeps r0 sl := State.setCore_keeps hso _ _
  clear_value w op k b bk mode keep h1 h2 ha hb so bad ko t a st sl
  with_reducible repeat'
    first
      | exact hso | exact ht | exact hsl | apply issueKeeps_ite | exact issueKeeps_stall | apply issueKeeps_go
      | apply poisonedIssue_keeps | apply withdrawnIssue_keeps | apply State.bump_keeps | apply matPass_keeps
      | apply brokenLoad_keeps | split
theorem plainIssue_keeps {r0 s : State} (hk : Keeps r0 s) (i : StationInsn) (token : Nat) (send : Option (Bool × List Byte)) :
    IssueKeeps r0 (plainIssue i token send s) :=
  hk.upd rfl rfl rfl rfl rfl
theorem sigAddIssue_keeps {r0 s : State} (hk : Keeps r0 s) (c : Nat) (i : StationInsn) (token : Nat) : IssueKeeps r0
    (sigAddIssue c s i token) := by
  unfold sigAddIssue; with_reducible repeat'
    first
      | exact hk | assumption | apply issueKeeps_ite | exact issueKeeps_stall | exact issueKeeps_refuse _ _ _
      | apply issueKeeps_go | apply keeps_ite | apply withdrawnIssue_keeps | apply plainIssue_keeps
      | apply State.sendIncrement_keeps | split
theorem sigRemoteIssue_keeps {r0 s : State} (hk : Keeps r0 s) (c : Nat) (i : StationInsn) (token : Nat) : IssueKeeps r0
    (sigRemoteIssue c s i token) := by
  unfold sigRemoteIssue; with_reducible repeat'
    first
      | exact hk | assumption | apply issueKeeps_ite | exact issueKeeps_stall | exact issueKeeps_refuse _ _ _
      | apply issueKeeps_go | apply keeps_ite | apply withdrawnIssue_keeps | apply plainIssue_keeps | split
theorem sigTriggerIssue_keeps {r0 s : State} (hk : Keeps r0 s) (c : Nat) (i : StationInsn) (token : Nat) : IssueKeeps r0
    (sigTriggerIssue c s i token) := by
  unfold sigTriggerIssue; (try extract_lets); with_reducible repeat'
    first
      | exact hk | assumption | apply issueKeeps_ite | exact issueKeeps_stall | exact issueKeeps_refuse _ _ _
      | apply issueKeeps_go | apply keeps_ite | apply plainIssue_keeps | split | extract_lets
theorem sigAcountIssue_keeps {r0 s : State} (hk : Keeps r0 s) (c : Nat) (i : StationInsn) (token : Nat) : IssueKeeps r0
    (sigAcountIssue c s i token) := by
  unfold sigAcountIssue; with_reducible repeat'
    first
      | exact hk | assumption | apply issueKeeps_ite | exact issueKeeps_stall | exact issueKeeps_refuse _ _ _
      | apply issueKeeps_go | apply keeps_ite | apply plainIssue_keeps | apply State.bump_keeps
      | apply State.coreFault_keeps
theorem sigWatchIssue_keeps {r0 s : State} (hk : Keeps r0 s) (c : Nat) (i : StationInsn) (token : Nat) : IssueKeeps r0
    (sigWatchIssue c s i token) :=
  hk.upd rfl rfl rfl rfl rfl
theorem State.appendRow_keeps {r0 s : State} (hk : Keeps r0 s) (index : Nat) (sub : Nat) (size : Nat) (v : Nat) : Keeps r0
    (State.appendRow s index sub size v).1 := by
  unfold State.appendRow; (try extract_lets); with_reducible repeat'
    first
      | exact hk | assumption | apply keeps_ite | apply State.setVal_keeps | refine keeps_foldl _ _ ?_ fun _ _ _ => ?_
      | split | extract_lets
theorem compareWatch_keeps {r0 s : State} (hk : Keeps r0 s) (c : Nat) (r : BitVec 256) : Keeps r0 (compareWatch s c r) := by
  unfold compareWatch; (try extract_lets); with_reducible repeat'
    first
      | exact hk | assumption | apply keeps_ite | apply State.bump_keeps | apply State.note_keeps
      | apply State.appendRow_keeps | split
theorem sigCompletes_keeps {r0 s : State} (hk : Keeps r0 s) (c : Nat) (f : InFlight) : Keeps r0 (sigCompletes s c f) := by
  unfold sigCompletes; with_reducible repeat'
    first
      | exact hk | assumption | apply keeps_ite | apply State.inject_keeps | apply State.setCore_keeps | split
theorem completeFlight_keeps {r0 s : State} (hk : Keeps r0 s) (c : Nat) (st : Nat) (f : InFlight) : Keeps r0 (completeFlight s c
    st f) := by
  unfold completeFlight; (try extract_lets); with_reducible repeat'
    first
      | exact hk | assumption | apply keeps_ite | apply State.writeMem_keeps | apply State.setCore_keeps
      | apply sendWithdrawn_keeps | apply sendCompletes_keeps | apply sigCompletes_keeps | apply State.signalDone_keeps
      | refine keeps_foldl _ _ ?_ fun _ _ _ => ?_ | split | extract_lets
theorem foundInSpad_keeps {r0 s : State} (hk : Keeps r0 s) (c st : Nat) (e : Nat × EccResult) : Keeps r0 (foundInSpad c st s e) := by
  unfold foundInSpad; split
  · exact hk
  · exact State.note_keeps hk _ _
  · extract_lets k
    exact keeps_ite hk (State.note_keeps (State.setCore_keeps hk _ _) _ _)
theorem scratchFindings_keeps {r0 s : State} (hk : Keeps r0 s) (c st : Nat) (f : InFlight) (errs : List (Nat × EccResult)) :
    Keeps r0 (scratchFindings s c st f errs).1 :=
  keeps_foldl _ _ hk fun _ _ h => foundInSpad_keeps h _ _ _
theorem State.supersede_keeps {r0 s : State} (hk : Keeps r0 s) (l : Landing) (gen : Nat) : Keeps r0 (State.supersede s l gen) :=
    by
  unfold State.supersede; (try extract_lets); with_reducible repeat'
    first
      | exact hk | assumption | apply keeps_ite | apply State.setLanding_keeps | apply dropBlocks_keeps | extract_lets
      | (apply Keeps.mk_of
         first
           | exact hk | assumption | apply keeps_ite | apply State.setLanding_keeps | apply dropBlocks_keeps)
theorem applyHeld_keeps {r0 s : State} (hk : Keeps r0 s) (h : Held) (undelivered : Bool) : Keeps r0 (applyHeld s h undelivered) := by
  unfold applyHeld; with_reducible repeat'
    first
      | exact hk | assumption | apply keeps_ite | apply State.sendIncrement_keeps | apply State.bump_keeps
theorem State.hold_keeps {r0 s : State} (hk : Keeps r0 s) (a : Arrived) (h : Held) : Keeps r0 (State.hold s a h) := by
  unfold State.hold; (try extract_lets); with_reducible repeat'
    first
      | exact hk | assumption | apply keeps_ite | apply State.consume_keeps | extract_lets
      | (apply Keeps.mk_of
         first
           | exact hk | assumption | apply keeps_ite | apply State.consume_keeps)
theorem admitHeld_keeps {r0 s : State} (hk : Keeps r0 s) (j : Nat) : Keeps r0 (admitHeld s j) := by
  unfold admitHeld; (try extract_lets); with_reducible repeat'
    first
      | exact hk | assumption | apply keeps_ite | apply State.freeUnits_keeps | split | (apply Keeps.mk_of; exact hk)
theorem acceptCovered_keeps {r0 s : State} (hk : Keeps r0 s) (src : Nat) (m : Sync) : Keeps r0 (acceptCovered s src m) := by
  unfold acceptCovered; with_reducible repeat'
    first
      | exact hk | assumption | apply keeps_ite | apply State.setLanding_keeps | apply State.supersede_keeps
      | refine keeps_foldl _ _ ?_ fun _ _ _ => ?_ | split
theorem takeSignal_keeps {r0 s : State} (hk : Keeps r0 s) (a : Arrived) (m : Sync) : Keeps r0 (takeSignal s a m) := by
  unfold takeSignal; with_reducible repeat'
    first
      | exact hk | assumption | apply keeps_ite | apply State.note_keeps | apply State.consume_keeps
      | apply State.bump_keeps | apply State.withdrawal_keeps | apply applyHeld_keeps | apply acceptCovered_keeps
      | apply State.hold_keeps | split
theorem hangReport_keeps {r0 s : State} (hk : Keeps r0 s) (c : Nat) : Keeps r0 (hangReport s c).2 := by
  unfold hangReport; extract_lets
  have : ∀ (l : List Nat) (a : BitVec 512 × State), Keeps r0 a.2 → Keeps r0 (l.foldl (reportHead c) a).2 := by
    intro l
    induction l with
    | nil => exact fun _ h => h
    | cons x l ih =>
      intro a h
      refine ih _ ?_
      unfold reportHead; split
      · exact h
      · exact State.free_keeps h 40
      · exact h
  exact this _ _ hk
theorem dropByEpoch_keeps {r0 s : State} (hk : Keeps r0 s) (t : Transfer) (pkt : Pkt) (v : EpochVerdict) : Keeps r0 (dropByEpoch
    s t pkt v) := by
  unfold dropByEpoch; with_reducible repeat'
    first
      | exact hk | assumption | apply keeps_ite | apply State.note_keeps | apply State.bump_keeps | split
theorem acceptUse_keeps {r0 s : State} (hk : Keeps r0 s) {src j id gen : Nat} {l : Landing} {t : State}
    (e : acceptUse s src j id gen = some (l, t)) : Keeps r0 t := by
  unfold acceptUse at e; extract_lets at e
  split at e
  · injection e with e; injection e with _ e; subst e; exact State.setLanding_keeps hk _
  · split at e
    · injection e with e; injection e with _ e; subst e; exact hk
    · split at e
      · injection e with e; injection e with _ e; subst e; exact State.supersede_keeps hk _ _
      · simp at e
theorem State.freeLanes_keeps {r0 s : State} (hk : Keeps r0 s) : Keeps r0 (State.freeLanes s) := by
  unfold State.freeLanes; with_reducible repeat'
    first
      | exact hk | assumption | apply keeps_ite | apply State.freeUnits_keeps | refine keeps_foldl _ _ ?_ fun _ _ _ => ?_
      | (apply Keeps.mk_of
         first
           | exact hk | assumption | apply keeps_ite | apply State.freeUnits_keeps | refine keeps_foldl _ _ ?_ fun _ _ _ => ?_)
theorem takeExact_keeps {r0 s : State} (hk : Keeps r0 s) (a : Arrived) (l : Landing) (x : TilePart) : Keeps r0 (takeExact s a l
    x) := by
  unfold takeExact; (try extract_lets); with_reducible repeat'
    first
      | exact hk | assumption | apply keeps_ite | apply State.addBlocks_keeps | apply State.setLanding_keeps | extract_lets
      | (apply Keeps.mk_of
         first
           | exact hk | assumption | apply keeps_ite | apply State.addBlocks_keeps | apply State.setLanding_keeps)
theorem takeData_keeps {r0 s : State} (hk : Keeps r0 s) (p : Nat) (t : Transfer) (l : Landing) (a : Arrived) (rest : Option Nat)
    : Keeps r0 (takeData s p t l a rest) := by
  unfold takeData; (try extract_lets); with_reducible repeat'
    first
      | exact hk | assumption | apply keeps_ite | apply State.setLanding_keeps | apply State.consume_keeps
      | apply takeExact_keeps | split | extract_lets
      | (apply Keeps.mk_of
         first
           | exact hk | assumption | apply keeps_ite | apply State.setLanding_keeps | apply State.consume_keeps
           | apply takeExact_keeps | split)
theorem dataArrives_keeps {r0 s : State} (hk : Keeps r0 s) (p : Nat) (a : Arrived) : Keeps r0 (dataArrives s p a) := by
  unfold dataArrives; extract_lets
  with_reducible repeat'
    first
      | exact hk | exact acceptUse_keeps hk ‹_› | apply keeps_ite | apply State.endUse_keeps | apply State.note_keeps
      | apply State.consume_keeps | apply dropByEpoch_keeps | apply State.bump_keeps | apply takeData_keeps | split | extract_lets
theorem completeUse_keeps {r0 s : State} (hk : Keeps r0 s) (t : Transfer) (l : Landing) : Keeps r0 (completeUse s t l) := by
  unfold completeUse; with_reducible repeat'
    first
      | exact hk | assumption | apply keeps_ite | apply State.inject_keeps | apply State.setLanding_keeps
theorem placeTile_keeps {r0 s : State} (hk : Keeps r0 s) (t : Transfer) (l : Landing) (tile : Nat) (port : Nat) (x : Tile) :
    Keeps r0 (placeTile s t l tile port x) := by
  unfold placeTile; (try extract_lets); with_reducible repeat'
    first
      | exact hk | assumption | apply keeps_ite | apply State.bump_keeps | apply State.writeMem_keeps
      | apply State.requestAlone_keeps | apply completeUse_keeps | split | extract_lets
      | (apply Keeps.mk_of
         first
           | exact hk | assumption | apply keeps_ite | apply State.bump_keeps | apply State.writeMem_keeps
           | apply State.requestAlone_keeps | apply completeUse_keeps | split)
theorem State.closeMirror_keeps {r0 s : State} (hk : Keeps r0 s) (ts : List Transfer) : Keeps r0 (State.closeMirror s ts) := by
  unfold State.closeMirror; with_reducible repeat'
    first
      | exact hk | assumption | apply keeps_ite | apply State.setLanding_keeps | refine keeps_foldl _ _ ?_ fun _ _ _ => ?_
      | split
      | (apply Keeps.mk_of
         first
           | exact hk | assumption | apply keeps_ite | apply State.setLanding_keeps
           | refine keeps_foldl _ _ ?_ fun _ _ _ => ?_ | split)
theorem installCommit_keeps {r0 s : State} (hk : Keeps r0 s) (c : Transfer) (ts : List Transfer) : Keeps r0 (installCommit s c
    ts) := by
  unfold installCommit; with_reducible repeat'
    first
      | exact hk | assumption | apply keeps_ite | apply State.endUse_keeps | apply placeTile_keeps
      | apply State.closeMirror_keeps | split
      | (apply Keeps.mk_of
         first
           | exact hk | assumption | apply keeps_ite | apply State.endUse_keeps | apply placeTile_keeps
           | apply State.closeMirror_keeps | split)
theorem landTile_keeps {r0 s : State} (hk : Keeps r0 s) (t : Transfer) (l : Landing) (tile : Nat) (port : Nat) (x : Tile) :
    Keeps r0 (landTile s t l tile port x) := by
  unfold landTile; with_reducible repeat'
    first
      | exact hk | assumption | apply keeps_ite | apply placeTile_keeps | apply State.writeMem_keeps
      | apply State.setLanding_keeps | apply installCommit_keeps | split
theorem verifyTile_keeps {r0 s : State} (hk : Keeps r0 s) (t : Transfer) (l : Landing) (x : TilePart) : Keeps r0 (verifyTile s t
    l x) := by
  unfold verifyTile; with_reducible repeat'
    first
      | exact hk | assumption | apply keeps_ite | apply State.withdrawal_keeps | apply State.setLanding_keeps
      | apply State.endUse_keeps | apply State.note_keeps | apply State.bump_keeps | apply landTile_keeps | split
theorem State.markLane_keeps {r0 s : State} (hk : Keeps r0 s) (encoder : Bool) (lane : Nat) : Keeps r0 (State.markLane s encoder
    lane) := by
  unfold State.markLane; with_reducible repeat'
    first
      | exact hk | assumption | apply keeps_ite | apply State.setLanding_keeps | split
      | (apply Keeps.mk_of
         first
           | exact hk | assumption | apply keeps_ite | apply State.setLanding_keeps | split)
theorem withdrawArrives_keeps {r0 s : State} (hk : Keeps r0 s) (pkt : Pkt) : Keeps r0 (withdrawArrives s pkt) := by
  unfold withdrawArrives; extract_lets
  with_reducible repeat'
    first
      | exact hk | exact acceptUse_keeps hk ‹_› | apply keeps_ite | apply State.endUse_keeps | apply State.bump_keeps | split
theorem State.faultAtSource_keeps {r0 s : State} (hk : Keeps r0 s) (j : Nat) (t : Transfer) (code : Nat) (withdraw : Bool) :
    Keeps r0 (State.faultAtSource s j t code withdraw) := by
  unfold State.faultAtSource; with_reducible repeat'
    first
      | exact hk | assumption | apply keeps_ite | apply State.bump_keeps | apply State.raise_keeps
      | apply State.retire_keeps | apply State.sendWithdraw_keeps
theorem State.dropPacket_keeps {r0 s : State} (hk : Keeps r0 s) (counter : Nat) (origin : Option (Nat × Nat)) (pkt : Pkt) :
    Keeps r0 (State.dropPacket s counter origin pkt) := by
  unfold State.dropPacket; with_reducible repeat'
    first
      | exact hk | assumption | apply keeps_ite | apply State.freeOrigin_keeps | apply State.bump_keeps
theorem State.countFlow_keeps {r0 s : State} (hk : Keeps r0 s) (p : Pkt) : Keeps r0 (State.countFlow s p) := by
  unfold State.countFlow; (try extract_lets); with_reducible repeat'
    first
      | exact hk | assumption | apply keeps_ite | apply State.bump_keeps | split | (apply Keeps.mk_of; exact hk)
theorem State.enqueue_keeps {r0 s : State} (hk : Keeps r0 s) (port : Nat) (p : Pkt) (origin : Option (Nat × Nat)) (since : Nat)
    : Keeps r0 (State.enqueue s port p origin since) := by
  unfold State.enqueue; with_reducible repeat'
    first
      | exact hk | assumption | apply keeps_ite | apply State.dropPacket_keeps | apply State.setLink_keeps
theorem State.noteUse_keeps {r0 s : State} (hk : Keeps r0 s) (p : Pkt) : Keeps r0 (State.noteUse s p) := by
  unfold State.noteUse; (try extract_lets); with_reducible repeat'
    first
      | exact hk | assumption | apply keeps_ite | split | (apply Keeps.mk_of; exact hk)
theorem forwardPacket_keeps {r0 s : State} (hk : Keeps r0 s) (a : Arrived) (origin : Option (Nat × Nat)) (p : Pkt) : Keeps r0
    (forwardPacket s a origin p) := by
  unfold forwardPacket; with_reducible repeat'
    first
      | exact hk | assumption | apply keeps_ite | apply State.dropPacket_keeps | apply State.enqueue_keeps
theorem switchPacket_keeps {r0 s : State} (hk : Keeps r0 s) (a : Arrived) : Keeps r0 (switchPacket s a) := by
  unfold switchPacket; (try extract_lets); with_reducible repeat'
    first
      | exact hk | assumption | apply keeps_ite | apply State.dropPacket_keeps | apply State.countFlow_keeps
      | apply State.noteUse_keeps | apply State.note_keeps | apply State.bump_keeps | apply State.freeOrigin_keeps
      | apply State.enqueue_keeps | apply forwardPacket_keeps | split | extract_lets
      | (apply Keeps.mk_of
         first
           | exact hk | assumption | apply keeps_ite | apply State.dropPacket_keeps | apply State.countFlow_keeps
           | apply State.noteUse_keeps | apply State.note_keeps | apply State.bump_keeps | apply State.freeOrigin_keeps
           | apply State.enqueue_keeps | apply forwardPacket_keeps | split)
theorem State.raiseExpiry_keeps {r0 s : State} (hk : Keeps r0 s) (p : Pkt) (rest : Nat) : Keeps r0 (State.raiseExpiry s p rest) := by
  unfold State.raiseExpiry; with_reducible repeat' first | exact hk | assumption | apply keeps_ite | apply State.setId_keeps
theorem sendPacket_keeps {r0 s : State} (hk : Keeps r0 s) (p : Nat) (q : Queued) (rest : Nat) : Keeps r0 (sendPacket s p q rest) := by
  unfold sendPacket; with_reducible repeat'
    first
      | exact hk | assumption | apply keeps_ite | apply State.freeOrigin_keeps | apply State.raiseExpiry_keeps
      | apply State.setLink_keeps | apply State.pump_keeps
theorem State.answer_keeps {r0 s : State} (hk : Keeps r0 s) (rq : Rq) (op : Nat) (index : Nat) (sub : Nat) (status : Nat)
    (detail : Nat) (more : Bool) (data : List Byte) : Keeps r0 (State.answer s rq op index sub status detail more data) :=
  hk.upd rfl rfl rfl rfl rfl
theorem State.dictSet_keeps {r0 s : State} (hk : Keeps r0 s) (rq : Rq) (index : Nat) (sub : Nat) (body : State → SetResult)
    (hbody : ∀ s, Keeps r0 s → SetKeeps r0 (body s)) : Keeps r0 (State.dictSet s rq index sub body) := by
  unfold State.dictSet
  split
  · exact hk
  · split
    · exact State.answer_keeps hk _ _ _ _ _ _ _ _
    · have hb := hbody s hk
      split <;> rename_i e <;> rw [e] at hb
      · exact State.answer_keeps hb _ _ _ _ _ _ _ _
      · exact State.answer_keeps hk _ _ _ _ _ _ _ _
      · exact State.answer_keeps hb _ _ _ _ _ _ _ _
theorem boolCommand_keeps {r0 s : State} (hk : Keeps r0 s) (v : Nat) (body : State → SetResult) (hbody : ∀ s, Keeps r0 s →
    SetKeeps r0 (body s)) : SetKeeps r0 (boolCommand v body s) := by
  unfold boolCommand; with_reducible repeat'
    first
      | exact hk | assumption | apply setKeeps_ite | exact setKeeps_refuse _ _ | apply setKeeps_ok | apply setKeeps_refuseIn
      | apply keeps_ite | apply hbody
theorem checkOrder_keeps {r0 : State} (checks : List (Nat × Bool)) (ok : SetResult) (hok : SetKeeps r0 ok) : SetKeeps r0
    (checkOrder checks ok) := by
  unfold checkOrder; with_reducible repeat'
    first
      | exact hk | assumption | apply setKeeps_ite | exact setKeeps_refuse _ _ | apply setKeeps_ok | apply setKeeps_refuseIn
      | apply keeps_ite | apply hok | split
theorem regionCreateBody_keeps {r0 s : State} (hk : Keeps r0 s) (desc : List Byte) : SetKeeps r0 (regionCreateBody desc s) := by
  unfold regionCreateBody; (try extract_lets); with_reducible repeat'
    first
      | exact hk | assumption | apply setKeeps_ite | exact setKeeps_refuse _ _ | apply setKeeps_ok | apply setKeeps_refuseIn
      | apply keeps_ite | apply checkOrder_keeps | (apply Keeps.mk_of; exact hk)
theorem State.scrubRegion_keeps {r0 s : State} (hk : Keeps r0 s) (n : Nat) : Keeps r0 (State.scrubRegion s n) :=
  hk.upd rfl rfl rfl rfl rfl
theorem regionDestroyBody_keeps {r0 s : State} (hk : Keeps r0 s) (n : Nat) : SetKeeps r0 (regionDestroyBody n s) := by
  unfold regionDestroyBody; with_reducible repeat'
    first
      | exact hk | assumption | apply setKeeps_ite | exact setKeeps_refuse _ _ | apply setKeeps_ok | apply setKeeps_refuseIn
      | apply keeps_ite | apply State.scrubRegion_keeps | split
theorem State.createReplay_keeps {r0 s t : State} (hk : Keeps r0 s) (p : Nat) (ht : s.createReplay p = some t) : Keeps r0 t := by
  unfold State.createReplay at ht
  extract_lets crown j at ht
  obtain ⟨b, -, ht⟩ := Option.bind_eq_some_iff.1 ht
  extract_lets r at ht
  simp only [Option.ite_none_left_eq_some, Option.some.injEq] at ht
  exact ht.2 ▸ Keeps.upd (u := s) hk rfl rfl rfl rfl rfl
theorem State.removeReplay_keeps {r0 s : State} (hk : Keeps r0 s) (p : Nat) : Keeps r0 (State.removeReplay s p) :=
  hk.upd rfl rfl rfl rfl rfl
theorem coreMaskBody_keeps {r0 s : State} (hk : Keeps r0 s) (j : Nat) (m : Nat) : SetKeeps r0 (coreMaskBody j m s) := by
  unfold coreMaskBody; with_reducible repeat'
    first
      | exact hk | assumption | apply setKeeps_ite | exact setKeeps_refuse _ _ | apply setKeeps_ok | apply setKeeps_refuseIn
      | apply keeps_ite | apply State.setVal_keeps
theorem State.seedDrbg_keeps {r0 s : State} (hk : Keeps r0 s) : Keeps r0 (State.seedDrbg s) := by
  unfold State.seedDrbg; with_reducible repeat'
    first
      | exact hk | assumption | apply keeps_ite | split
      | (apply Keeps.mk_of
         first
           | exact hk | assumption | apply keeps_ite | split)
theorem State.random_keeps {r0 s : State} (hk : Keeps r0 s) (n : Nat) : Keeps r0 (s.random n).2 := by
  induction n generalizing s with
  | zero => exact hk
  | succ n ih => exact ih (Keeps.upd (State.seedDrbg_keeps hk) rfl rfl rfl rfl rfl)
theorem State.sendRecovery_keeps {r0 s : State} (hk : Keeps r0 s) (p : Nat) (b : Nat) : Keeps r0 (State.sendRecovery s p b) :=
    by
  unfold State.sendRecovery; with_reducible repeat'
    first
      | exact hk | assumption | apply keeps_ite | apply State.sendBlocks_keeps | split
theorem State.sendKey_keeps {r0 s : State} (hk : Keeps r0 s) (p : Nat) (msg : Nat) (phase : Nat) (bytes : List Byte) : Keeps r0
    (State.sendKey s p msg phase bytes) := by
  unfold State.sendKey; with_reducible repeat' first | exact hk | assumption | apply keeps_ite | apply State.sendBlocks_keeps
theorem State.setKeys_keeps {r0 s : State} (hk : Keeps r0 s) (p : Nat) (k : Keys) : Keeps r0 (State.setKeys s p k) :=
  hk.upd rfl rfl rfl rfl rfl
theorem State.startRekey_keeps {r0 s : State} (hk : Keeps r0 s) (p : Nat) : Keeps r0 (State.startRekey s p) := by
  unfold State.startRekey; with_reducible repeat'
    first
      | exact hk | assumption | apply keeps_ite | apply State.random_keeps | apply State.sendKey_keeps
      | apply State.setKeys_keeps
theorem State.finishRekey_keeps {r0 s : State} (hk : Keeps r0 s) (p : Nat) : Keeps r0 (State.finishRekey s p) := by
  unfold State.finishRekey; with_reducible repeat' first | exact hk | assumption | apply keeps_ite | apply State.setKeys_keeps
theorem State.clearSession_keeps {r0 s : State} (hk : Keeps r0 s) (p : Nat) (step : Nat) (failures : Nat) : Keeps r0
    (State.clearSession s p step failures) :=
  hk.upd rfl rfl rfl rfl rfl
theorem State.train_keeps {r0 s : State} (hk : Keeps r0 s) (p : Nat) (step : Nat) (failures : Nat) : Keeps r0 (State.train s p
    step failures) :=
  hk.upd rfl rfl rfl rfl rfl
theorem State.failStep_keeps {r0 s : State} (hk : Keeps r0 s) (p : Nat) : Keeps r0 (State.failStep s p) := by
  unfold State.failStep; with_reducible repeat' first | exact hk | assumption | apply keeps_ite | apply State.setLink_keeps
theorem State.keyFail_keeps {r0 s : State} (hk : Keeps r0 s) (p : Nat) : Keeps r0 (State.keyFail s p) := by
  unfold State.keyFail; with_reducible repeat'
    first
      | exact hk | assumption | apply keeps_ite | apply State.note_keeps | apply State.failStep_keeps
      | apply State.setKeys_keeps
theorem State.rekeyFail_keeps {r0 s : State} (hk : Keeps r0 s) (p : Nat) : Keeps r0 (State.rekeyFail s p) :=
  hk.upd rfl rfl rfl rfl rfl
theorem State.exchangeFail_keeps {r0 s : State} (hk : Keeps r0 s) (p : Nat) : Keeps r0 (State.exchangeFail s p) := by
  unfold State.exchangeFail; with_reducible repeat'
    first
      | exact hk | assumption | apply keeps_ite | apply State.keyFail_keeps | apply State.rekeyFail_keeps | split
theorem State.takeKeyBlock_keeps {r0 s : State} (hk : Keeps r0 s) (p : Nat) (block : Nat) : Keeps r0 (State.takeKeyBlock s p
    block) := by
  unfold State.takeKeyBlock; (try extract_lets); with_reducible repeat'
    first
      | exact hk | assumption | apply keeps_ite | apply State.setKeys_keeps | apply State.exchangeFail_keeps | split
      | extract_lets
      | (apply Keeps.mk_of
         first
           | exact hk | assumption | apply keeps_ite | apply State.setKeys_keeps | apply State.exchangeFail_keeps | split)
theorem State.takeKeys_keeps {r0 s : State} (hk : Keeps r0 s) (p : Nat) : Keeps r0 (State.takeKeys s p) := by
  unfold State.takeKeys; (try extract_lets); with_reducible repeat'
    first
      | exact hk | assumption | apply keeps_ite | apply State.setKeys_keeps | apply State.takeKeyBlock_keeps
      | refine keeps_foldl _ _ ?_ fun _ _ _ => ?_ | extract_lets
      | (apply Keeps.mk_of
         first
           | exact hk | assumption | apply keeps_ite | apply State.setKeys_keeps | apply State.takeKeyBlock_keeps
           | refine keeps_foldl _ _ ?_ fun _ _ _ => ?_)
theorem State.dropMessage_keeps {r0 s : State} (hk : Keeps r0 s) (p : Nat) (kind : Nat) : Keeps r0 (State.dropMessage s p kind)
    := by
  unfold State.dropMessage; (try extract_lets); with_reducible repeat'
    first
      | exact hk | assumption | apply keeps_ite | apply State.setKeys_keeps | split | extract_lets
      | (apply Keeps.mk_of
         first
           | exact hk | assumption | apply keeps_ite | apply State.setKeys_keeps | split)
theorem State.startKeying_keeps {r0 s : State} (hk : Keeps r0 s) (p : Nat) : Keeps r0 (State.startKeying s p) := by
  unfold State.startKeying; with_reducible repeat'
    first
      | exact hk | assumption | apply keeps_ite | apply State.setPortState_keeps | apply State.setLink_keeps
      | apply State.keyFail_keeps | apply State.random_keeps | apply State.sendKey_keeps | apply State.setKeys_keeps
theorem State.startSession_keeps {r0 s : State} (hk : Keeps r0 s) (p : Nat) : Keeps r0 (State.startSession s p) := by
  unfold State.startSession; with_reducible repeat'
    first
      | exact hk | assumption | apply keeps_ite | apply State.startRekey_keeps | apply State.setLink_keeps
theorem State.withdrawByEscape_keeps {r0 s : State} (hk : Keeps r0 s) (t : Transfer) (gen : Nat) : Keeps r0
    (State.withdrawByEscape s t gen) := by
  unfold State.withdrawByEscape; (try extract_lets); with_reducible repeat'
    first
      | exact hk | assumption | apply keeps_ite | apply State.inject_keeps | split | extract_lets
      | (apply Keeps.mk_of
         first
           | exact hk | assumption | apply keeps_ite | apply State.inject_keeps | split)
theorem State.loseUses_keeps {r0 s : State} (hk : Keeps r0 s) (p : Nat) : Keeps r0 (State.loseUses s p) := by
  unfold State.loseUses; (try extract_lets); with_reducible repeat'
    first
      | exact hk | assumption | apply keeps_ite | apply State.faultAtSource_keeps | apply State.withdrawByEscape_keeps
      | refine keeps_foldl _ _ ?_ fun _ _ _ => ?_ | split | extract_lets
theorem State.dropQueue_keeps {r0 s : State} (hk : Keeps r0 s) (p : Nat) : Keeps r0 (State.dropQueue s p) := by
  unfold State.dropQueue; (try extract_lets); with_reducible repeat'
    first
      | exact hk | assumption | apply keeps_ite | apply State.dropPacket_keeps | apply State.setLink_keeps
      | refine keeps_foldl _ _ ?_ fun _ _ _ => ?_ | split | extract_lets
theorem State.loseLandings_keeps {r0 s : State} (hk : Keeps r0 s) (m : Nat) : Keeps r0 (State.loseLandings s m) :=
  hk.upd rfl rfl rfl rfl rfl
theorem State.discardSecrets_keeps {r0 s : State} (hk : Keeps r0 s) (p : Nat) : Keeps r0 (State.discardSecrets s p) := by
  unfold State.discardSecrets; (try extract_lets); with_reducible repeat'
    first
      | exact hk | assumption | apply keeps_ite | apply State.setKeys_keeps | extract_lets
theorem State.closePort_keeps {r0 s : State} (hk : Keeps r0 s) (p : Nat) : Keeps r0 (State.closePort s p) := by
  unfold State.closePort; with_reducible repeat'
    first
      | exact hk | assumption | apply keeps_ite | apply State.setPortState_keeps | apply State.removeReplay_keeps
      | apply State.clearSession_keeps
theorem State.losePort_keeps {r0 s : State} (hk : Keeps r0 s) (p : Nat) : Keeps r0 (State.losePort s p) := by
  unfold State.losePort; (try extract_lets); with_reducible repeat'
    first
      | exact hk | assumption | apply keeps_ite | apply State.note_keeps | apply State.bump_keeps
      | apply State.withdrawal_keeps | apply State.setPortState_keeps | apply State.clearSession_keeps
      | apply State.loseUses_keeps | apply State.dropQueue_keeps | apply State.loseLandings_keeps
      | apply State.closePort_keeps | refine keeps_foldl _ _ ?_ fun _ _ _ => ?_ | split | extract_lets
      | (apply Keeps.mk_of
         first
           | exact hk | assumption | apply keeps_ite | apply State.note_keeps | apply State.bump_keeps
           | apply State.withdrawal_keeps | apply State.setPortState_keeps | apply State.clearSession_keeps
           | apply State.loseUses_keeps | apply State.dropQueue_keeps | apply State.loseLandings_keeps
           | apply State.closePort_keeps | refine keeps_foldl _ _ ?_ fun _ _ _ => ?_ | split)
theorem State.acknowledge_keeps {r0 s : State} (hk : Keeps r0 s) (p : Nat) (ack : Nat) : Keeps r0 (State.acknowledge s p ack) :=
    by
  unfold State.acknowledge; (try extract_lets); with_reducible repeat'
    first
      | exact hk | assumption | apply keeps_ite | apply State.setLink_keeps | split | extract_lets
      | (apply Keeps.mk_of
         first
           | exact hk | assumption | apply keeps_ite | apply State.setLink_keeps | split)
theorem State.readReplay_keeps {r0 s : State} (hk : Keeps r0 s) (p : Nat) (count : Nat) : Keeps r0 (State.readReplay s p count)
    := by
  unfold State.readReplay; with_reducible repeat'
    first
      | exact hk | assumption | apply keeps_ite | apply State.requestAlone_keeps | split
theorem State.resend_keeps {r0 s : State} (hk : Keeps r0 s) (p : Nat) (b : TxBolt) : Keeps r0 (State.resend s p b) := by
  unfold State.resend; (try extract_lets); with_reducible repeat'
    first
      | exact hk | assumption | apply keeps_ite | apply State.emit_keeps | apply State.note_keeps | apply State.bump_keeps
      | apply State.setLink_keeps | apply State.sendRecovery_keeps | apply State.readReplay_keeps | split | extract_lets
      | (apply Keeps.mk_of
         first
           | exact hk | assumption | apply keeps_ite | apply State.emit_keeps | apply State.note_keeps
           | apply State.bump_keeps | apply State.setLink_keeps | apply State.sendRecovery_keeps
           | apply State.readReplay_keeps | split)
theorem State.resendFar_keeps {r0 s : State} (hk : Keeps r0 s) (p : Nat) (bs : List TxBolt) : Keeps r0 (State.resendFar s p bs) := by
  unfold State.resendFar; (try extract_lets); with_reducible repeat'
    first
      | exact hk | assumption | apply keeps_ite | apply State.losePort_keeps | apply State.note_keeps
      | apply State.resend_keeps | refine keeps_foldl _ _ ?_ fun _ _ _ => ?_ | split | extract_lets
theorem measurePort_keeps {r0 s : State} (hk : Keeps r0 s) (p : Nat) : Keeps r0 (measurePort s p) := by
  unfold measurePort; with_reducible repeat'
    first
      | exact hk | assumption | apply keeps_ite | apply State.free_keeps | apply State.setVal_keeps | apply State.note_keeps
      | apply State.failStep_keeps | apply State.setLink_keeps
theorem profilePort_keeps {r0 s : State} (hk : Keeps r0 s) (p : Nat) : Keeps r0 (profilePort s p) := by
  have hc : ∀ t, s.createReplay p = some t → Keeps r0 t := fun t ht => State.createReplay_keeps hk p ht
  have hy : ∀ t, Keeps r0 t → Keeps r0 ((t.setVal (portKey p 4) 2).startKeying p) := fun t ht =>
    State.startKeying_keeps (State.setVal_keeps ht _ _) _
  have hz := State.startKeying_keeps (State.setVal_keeps (State.removeReplay_keeps hk p) (portKey p 4) 1) p
  unfold profilePort; extract_lets peer refuse
  have hr : Keeps r0 refuse := State.note_keeps (State.failStep_keeps hk _) _ _
  clear_value refuse
  generalize s.createReplay p = q at *
  generalize s.replayRegion p = x
  split
  · exact hr
  · exact hz
  · cases x
    · cases q
      · exact hr
      · exact hy _ (hc _ rfl)
    · exact keeps_ite hk (hy _ hk)
theorem breakSchedules_keeps {r0 s : State} (hk : Keeps r0 s) (p : Nat) : Keeps r0 (breakSchedules s p) := by
  unfold breakSchedules; (try extract_lets); with_reducible repeat'
    first
      | exact hk | assumption | apply keeps_ite | apply State.note_keeps | refine keeps_foldl _ _ ?_ fun _ _ _ => ?_ | split
      | extract_lets
      | (apply Keeps.mk_of
         first
           | exact hk | assumption | apply keeps_ite | apply State.note_keeps | refine keeps_foldl _ _ ?_ fun _ _ _ => ?_
           | split)
theorem portGoesUp_keeps {r0 s : State} (hk : Keeps r0 s) (p : Nat) : Keeps r0 (portGoesUp s p) := by
  unfold portGoesUp; with_reducible repeat'
    first
      | exact hk | assumption | apply keeps_ite | apply breakSchedules_keeps | apply State.setPortState_keeps
      | apply State.setLink_keeps | apply State.sendBlocks_keeps
theorem State.takeRun_keeps {r0 s : State} (hk : Keeps r0 s) (p : Nat) (x : RxRun) : Keeps r0 (State.takeRun s p x) := by
  unfold State.takeRun; (try extract_lets); with_reducible repeat'
    first
      | exact hk | assumption | apply keeps_ite | apply State.setLink_keeps | apply State.bump_keeps | extract_lets
      | (apply Keeps.mk_of
         first
           | exact hk | assumption | apply keeps_ite | apply State.setLink_keeps | apply State.bump_keeps)
theorem State.sendSack_keeps {r0 s : State} (hk : Keeps r0 s) (p : Nat) : Keeps r0 (State.sendSack s p) := by
  unfold State.sendSack; (try extract_lets); with_reducible repeat'
    first
      | exact hk | assumption | apply keeps_ite | apply State.sendRecovery_keeps | split | extract_lets
theorem State.openGap_keeps {r0 s : State} (hk : Keeps r0 s) (p : Nat) (upTo : Nat) : Keeps r0 (State.openGap s p upTo) :=
  hk.upd rfl rfl rfl rfl rfl
theorem State.nak_keeps {r0 s : State} (hk : Keeps r0 s) (p : Nat) (count : Nat) : Keeps r0 (State.nak s p count) := by
  unfold State.nak; (try extract_lets); with_reducible repeat'
    first
      | exact hk | assumption | apply keeps_ite | apply State.note_keeps | apply State.setLink_keeps
      | apply State.sendRecovery_keeps | apply State.losePort_keeps | split | extract_lets
      | (apply Keeps.mk_of
         first
           | exact hk | assumption | apply keeps_ite | apply State.note_keeps | apply State.setLink_keeps
           | apply State.sendRecovery_keeps | apply State.losePort_keeps | split)
theorem State.boltError_keeps {r0 s : State} (hk : Keeps r0 s) (p : Nat) (h : BoltHead) : Keeps r0 (State.boltError s p h) := by
  unfold State.boltError; with_reducible repeat'
    first
      | exact hk | assumption | apply keeps_ite | apply State.bump_keeps | apply State.sendSack_keeps
      | apply State.openGap_keeps | apply State.nak_keeps
theorem State.tagError_keeps {r0 s : State} (hk : Keeps r0 s) (p : Nat) (h : BoltHead) : Keeps r0 (State.tagError s p h) := by
  unfold State.tagError; with_reducible repeat'
    first
      | exact hk | assumption | apply keeps_ite | apply State.setLink_keeps | apply State.bump_keeps
      | apply State.losePort_keeps | apply State.note_keeps | apply State.boltError_keeps
theorem State.rxPhaseTo_keeps {r0 s : State} (hk : Keeps r0 s) (p : Nat) (f : Option Nat) : Keeps r0 (State.rxPhaseTo s p f) := by
  unfold State.rxPhaseTo; with_reducible repeat'
    first
      | exact hk | assumption | apply keeps_ite | apply State.startRekey_keeps | apply State.setKeys_keeps | split
theorem State.countReserved_keeps {r0 s : State} (hk : Keeps r0 s) (p : Nat) (body : List Byte) : Keeps r0 (State.countReserved
    s p body) := by
  unfold State.countReserved; with_reducible repeat' first | exact hk | assumption | apply keeps_ite | apply State.bump_keeps
theorem State.holdKeys_keeps {r0 s : State} (hk : Keeps r0 s) (p : Nat) (count : Nat) (body : List Byte) : Keeps r0
    (State.holdKeys s p count body) := by
  unfold State.holdKeys; (try extract_lets); with_reducible repeat'
    first
      | exact hk | assumption | apply keeps_ite | apply State.setKeys_keeps | split | extract_lets
      | (apply Keeps.mk_of
         first
           | exact hk | assumption | apply keeps_ite | apply State.setKeys_keeps | split)
theorem State.acceptBolt_keeps {r0 s : State} (hk : Keeps r0 s) (p : Nat) (count : Nat) (h : BoltHead) (gap : Option Nat) (body
    : List Byte) (f : Option Nat) : Keeps r0 (State.acceptBolt s p count h gap body f) := by
  unfold State.acceptBolt; (try extract_lets); with_reducible repeat'
    first
      | exact hk | assumption | apply keeps_ite | apply State.bump_keeps | apply State.takeKeys_keeps
      | apply State.takeRun_keeps | apply State.rxPhaseTo_keeps | apply State.countReserved_keeps | apply State.holdKeys_keeps
      | split | extract_lets
theorem State.nearBolt_keeps {r0 s : State} (hk : Keeps r0 s) (p : Nat) (h : BoltHead) (body : List Byte) (f : Option Nat) :
    Keeps r0 (State.nearBolt s p h body f) := by
  unfold State.nearBolt; with_reducible repeat'
    first
      | exact hk | assumption | apply keeps_ite | apply State.nak_keeps | apply State.acceptBolt_keeps
      | apply State.setLink_keeps
theorem State.farBolt_keeps {r0 s : State} (hk : Keeps r0 s) (p : Nat) (h : BoltHead) (body : List Byte) (f : Option Nat) :
    Keeps r0 (State.farBolt s p h body f) := by
  unfold State.farBolt; extract_lets l c missing s1 opened s2
  clear_value missing
  have h1 : Keeps r0 s1 := State.bump_keeps hk _ _
  have h2 : Keeps r0 s2 := State.acceptBolt_keeps (State.openGap_keeps hk _ _) _ _ _ _ _ _
  split
  · exact hk
  · split
    · split
      · exact h1
      · exact State.sendSack_keeps (State.openGap_keeps h1 _ _) _
    · cases missing
      case some => exact State.acceptBolt_keeps (State.setLink_keeps hk _ _) _ _ _ _ _ _
      case none => exact keeps_ite (State.sendSack_keeps h2 _) h2
theorem State.withdrawnBolt_keeps {r0 s : State} (hk : Keeps r0 s) (p : Nat) (b : Bolt) : Keeps r0 (State.withdrawnBolt s p b) := by
  unfold State.withdrawnBolt; with_reducible repeat' first | exact hk | assumption | apply keeps_ite | apply State.losePort_keeps
theorem State.countTraining_keeps {r0 s : State} (hk : Keeps r0 s) (p : Nat) (b : Bolt) : Keeps r0 (State.countTraining s p b)
    := by
  unfold State.countTraining; (try extract_lets); with_reducible repeat'
    first
      | exact hk | assumption | apply keeps_ite | apply State.setLink_keeps | split | extract_lets
      | (apply Keeps.mk_of
         first
           | exact hk | assumption | apply keeps_ite | apply State.setLink_keeps | split)
theorem receiveBolt_keeps {r0 s : State} (hk : Keeps r0 s) (p : Nat) (b : Bolt) : Keeps r0 (receiveBolt s p b) := by
  unfold receiveBolt; (try extract_lets); with_reducible repeat'
    first
      | exact hk | assumption | apply keeps_ite | apply State.bump_keeps | apply State.pump_keeps
      | apply State.pumpAfter_keeps | apply State.acknowledge_keeps | apply State.boltError_keeps | apply State.tagError_keeps
      | apply State.nearBolt_keeps | apply State.farBolt_keeps | apply State.withdrawnBolt_keeps
      | apply State.countTraining_keeps | split | extract_lets
theorem State.setSchedule_keeps {r0 s : State} (hk : Keeps r0 s) (x : Schedule) : Keeps r0 (State.setSchedule s x) :=
  hk.upd rfl rfl rfl rfl rfl
theorem State.freeSchedule_keeps {r0 s : State} (hk : Keeps r0 s) (x : Schedule) : Keeps r0 (State.freeSchedule s x) :=
  hk.upd rfl rfl rfl rfl rfl
theorem State.refuseSchedule_keeps {r0 s : State} (hk : Keeps r0 s) (x : Schedule) (reason : Nat) (transfer : Nat) : Keeps r0
    (State.refuseSchedule s x reason transfer) := by
  unfold State.refuseSchedule; with_reducible repeat'
    first
      | exact hk | assumption | apply keeps_ite | apply State.setVal_keeps | apply State.freeSchedule_keeps
theorem State.tellMembers_keeps {r0 s : State} (hk : Keeps r0 s) (x : Schedule) (msg : Nat → Sent) : Keeps r0 (State.tellMembers
    s x msg) := by
  unfold State.tellMembers; (try extract_lets); with_reducible repeat'
    first
      | exact hk | assumption | apply keeps_ite | apply State.emit_keeps | refine keeps_foldl _ _ ?_ fun _ _ _ => ?_ | split
      | extract_lets
theorem State.refuseAll_keeps {r0 s : State} (hk : Keeps r0 s) (x : Schedule) (reason : Nat) (transfer : Nat) : Keeps r0
    (State.refuseAll s x reason transfer) := by
  unfold State.refuseAll; with_reducible repeat'
    first
      | exact hk | assumption | apply keeps_ite | apply State.refuseSchedule_keeps | apply State.tellMembers_keeps
theorem activate_keeps {r0 s : State} (hk : Keeps r0 s) (x : Schedule) : Keeps r0 (activate s x) := by
  unfold activate; with_reducible repeat' first | exact hk | assumption | apply keeps_ite | apply State.setSchedule_keeps
theorem decideFit_keeps {r0 s : State} (hk : Keeps r0 s) (x : Schedule) : Keeps r0 (decideFit s x) := by
  unfold decideFit; (try extract_lets); with_reducible repeat'
    first
      | exact hk | assumption | apply keeps_ite | apply activate_keeps | apply State.refuseAll_keeps
      | apply State.tellMembers_keeps | split
theorem scheduleLoadBody_keeps {r0 s : State} (hk : Keeps r0 s) (v : Nat) : SetKeeps r0 (scheduleLoadBody v s) := by
  unfold scheduleLoadBody; with_reducible repeat'
    first
      | exact hk | assumption | apply setKeeps_ite | exact setKeeps_refuse _ _ | apply setKeeps_ok | apply setKeeps_refuseIn
      | apply keeps_ite | apply State.firmwareReads_keeps | apply State.seen_keeps | split
      | (apply Keeps.mk_of
         first
           | exact hk | assumption | apply setKeeps_ite | exact setKeeps_refuse _ _ | apply setKeeps_ok
           | apply setKeeps_refuseIn | apply keeps_ite | apply State.firmwareReads_keeps | apply State.seen_keeps | split)
theorem scheduleChecked_keeps {r0 s : State} (hk : Keeps r0 s) (x : Schedule) : Keeps r0 (scheduleChecked s x) := by
  unfold scheduleChecked; (try extract_lets); with_reducible repeat'
    first
      | exact hk | assumption | apply keeps_ite | apply State.refuseSchedule_keeps | apply State.refuseAll_keeps
      | apply State.emit_keeps | apply decideFit_keeps | refine keeps_foldl _ _ ?_ fun _ _ _ => ?_ | split | extract_lets
theorem scheduleReleaseBody_keeps {r0 s : State} (hk : Keeps r0 s) (v : Nat) : SetKeeps r0 (scheduleReleaseBody v s) := by
  unfold scheduleReleaseBody; with_reducible repeat'
    first
      | exact hk | assumption | apply setKeeps_ite | exact setKeeps_refuse _ _ | apply setKeeps_ok | apply setKeeps_refuseIn
      | apply keeps_ite | apply State.freeSchedule_keeps | split
theorem routeLoadBody_keeps {r0 s : State} (hk : Keeps r0 s) (v : Nat) : SetKeeps r0 (routeLoadBody v s) := by
  unfold routeLoadBody; (try extract_lets); with_reducible repeat'
    first
      | exact hk | assumption | apply setKeeps_ite | exact setKeeps_refuse _ _ | apply setKeeps_ok | apply setKeeps_refuseIn
      | apply keeps_ite | apply State.setVal_keeps | (apply Keeps.mk_of; exact hk)
theorem State.swapRoutes_keeps {r0 s : State} (hk : Keeps r0 s) : Keeps r0 (State.swapRoutes s) :=
  hk.upd rfl rfl rfl rfl rfl
theorem routeSwapBody_keeps {r0 s : State} (hk : Keeps r0 s) : SetKeeps r0 (routeSwapBody s) := by
  unfold routeSwapBody; with_reducible repeat'
    first
      | exact hk | assumption | apply setKeeps_ite | exact setKeeps_refuse _ _ | apply setKeeps_ok | apply setKeeps_refuseIn
      | apply keeps_ite | apply State.swapRoutes_keeps
theorem mapRegisterBody_keeps {r0 s : State} (hk : Keeps r0 s) (j : Nat) (v : Nat) : SetKeeps r0 (mapRegisterBody j v s) := by
  unfold mapRegisterBody; (try extract_lets); with_reducible repeat'
    first
      | exact hk | assumption | apply setKeeps_ite | exact setKeeps_refuse _ _ | apply setKeeps_ok | apply setKeeps_refuseIn
      | apply keeps_ite | apply State.firmwareReads_keeps | apply checkOrder_keeps | split | extract_lets
      | (apply Keeps.mk_of
         first
           | exact hk | assumption | apply setKeeps_ite | exact setKeeps_refuse _ _ | apply setKeeps_ok
           | apply setKeeps_refuseIn | apply keeps_ite | apply State.firmwareReads_keeps | apply checkOrder_keeps | split)
theorem epochPrepareBody_keeps {r0 s : State} (hk : Keeps r0 s) (j : Nat) (v : Nat) : SetKeeps r0 (epochPrepareBody j v s) := by
  unfold epochPrepareBody; (try extract_lets); with_reducible repeat'
    first
      | exact hk | assumption | apply setKeeps_ite | exact setKeeps_refuse _ _ | apply setKeeps_ok | apply setKeeps_refuseIn
      | apply keeps_ite | apply State.setVal_keeps | (apply Keeps.mk_of; exact hk)
theorem State.endSourced_keeps {r0 s : State} (hk : Keeps r0 s) (t : Transfer) : Keeps r0 (State.endSourced s t) := by
  unfold State.endSourced; with_reducible repeat'
    first
      | exact hk | assumption | apply keeps_ite | apply State.retire_keeps | apply State.sendWithdraw_keeps
      | apply State.faultAtSource_keeps | split
theorem fillHeld_keeps {r0 s : State} (hk : Keeps r0 s) (j n : Nat) : Keeps r0 (fillHeld j n s) := by
  induction n generalizing s with
  | zero => exact hk
  | succ n ih => exact keeps_ite (ih (admitHeld_keeps hk j)) hk
theorem epochCommitBody_keeps {r0 s : State} (hk : Keeps r0 s) (j : Nat) : SetKeeps r0 (epochCommitBody j s) := by
  unfold epochCommitBody; extract_lets swap e s1
  have h1 : Keeps r0 s1 := keeps_ite (State.swapRoutes_keeps hk) hk
  split
  · rename_i n _ _
    extract_lets s2 s3 s4
    have h3 : Keeps r0 s3 := Keeps.upd (u := s1) h1 rfl rfl rfl rfl rfl
    have h4 : Keeps r0 s4 := by
      show Keeps r0 (match s3.mapNext j with | some m => _ | none => s3)
      split
      · exact Keeps.upd (u := s3) h3 rfl rfl rfl rfl rfl
      · exact h3
    exact setKeeps_ite (setKeeps_refuse _ _) (setKeeps_ok (State.setVal_keeps h4 _ _))
  · exact setKeeps_refuse _ _
theorem collRegisterBody_keeps {r0 s : State} (hk : Keeps r0 s) (v : Nat) : SetKeeps r0 (collRegisterBody v s) := by
  unfold collRegisterBody; (try extract_lets); with_reducible repeat'
    first
      | exact hk | assumption | apply setKeeps_ite | exact setKeeps_refuse _ _ | apply setKeeps_ok | apply setKeeps_refuseIn
      | apply keeps_ite | apply State.setVal_keeps | apply State.firmwareReads_keeps
      | refine keeps_foldl _ _ ?_ fun _ _ _ => ?_ | split | extract_lets
      | (apply Keeps.mk_of
         first
           | exact hk | assumption | apply setKeeps_ite | exact setKeeps_refuse _ _ | apply setKeeps_ok
           | apply setKeeps_refuseIn | apply keeps_ite | apply State.setVal_keeps | apply State.firmwareReads_keeps
           | refine keeps_foldl _ _ ?_ fun _ _ _ => ?_ | split)
theorem collReleaseBody_keeps {r0 s : State} (hk : Keeps r0 s) (n : Nat) : SetKeeps r0 (collReleaseBody n s) := by
  unfold collReleaseBody; (try extract_lets); with_reducible repeat'
    first
      | exact hk | assumption | apply setKeeps_ite | exact setKeeps_refuse _ _ | apply setKeeps_ok | apply setKeeps_refuseIn
      | apply keeps_ite | split | (apply Keeps.mk_of; exact hk)
theorem contextRegisterBody_keeps {r0 s : State} (hk : Keeps r0 s) (v : Nat) : SetKeeps r0 (contextRegisterBody v s) := by
  unfold contextRegisterBody; (try extract_lets); with_reducible repeat'
    first
      | exact hk | assumption | apply setKeeps_ite | exact setKeeps_refuse _ _ | apply setKeeps_ok | apply setKeeps_refuseIn
      | apply keeps_ite | apply State.setVal_keeps | apply State.firmwareReads_keeps
      | refine keeps_foldl _ _ ?_ fun _ _ _ => ?_ | split | extract_lets
      | (apply Keeps.mk_of
         first
           | exact hk | assumption | apply setKeeps_ite | exact setKeeps_refuse _ _ | apply setKeeps_ok
           | apply setKeeps_refuseIn | apply keeps_ite | apply State.setVal_keeps | apply State.firmwareReads_keeps
           | refine keeps_foldl _ _ ?_ fun _ _ _ => ?_ | split)
theorem contextReleaseBody_keeps {r0 s : State} (hk : Keeps r0 s) (n : Nat) : SetKeeps r0 (contextReleaseBody n s) := by
  unfold contextReleaseBody; (try extract_lets); with_reducible repeat'
    first
      | exact hk | assumption | apply setKeeps_ite | exact setKeeps_refuse _ _ | apply setKeeps_ok | apply setKeeps_refuseIn
      | apply keeps_ite | apply State.setVal_keeps | extract_lets
      | (apply Keeps.mk_of
         first
           | exact hk | assumption | apply setKeeps_ite | exact setKeeps_refuse _ _ | apply setKeeps_ok
           | apply setKeeps_refuseIn | apply keeps_ite | apply State.setVal_keeps)
theorem ringRegisterBody_keeps {r0 s : State} (hk : Keeps r0 s) (v : Nat) : SetKeeps r0 (ringRegisterBody v s) := by
  unfold ringRegisterBody; (try extract_lets); with_reducible repeat'
    first
      | exact hk | assumption | apply setKeeps_ite | exact setKeeps_refuse _ _ | apply setKeeps_ok | apply setKeeps_refuseIn
      | apply keeps_ite | apply State.setVal_keeps | apply State.firmwareReads_keeps
      | refine keeps_foldl _ _ ?_ fun _ _ _ => ?_ | split | extract_lets
      | (apply Keeps.mk_of
         first
           | exact hk | assumption | apply setKeeps_ite | exact setKeeps_refuse _ _ | apply setKeeps_ok
           | apply setKeeps_refuseIn | apply keeps_ite | apply State.setVal_keeps | apply State.firmwareReads_keeps
           | refine keeps_foldl _ _ ?_ fun _ _ _ => ?_ | split)
theorem ringReleaseBody_keeps {r0 s : State} (hk : Keeps r0 s) (n : Nat) : SetKeeps r0 (ringReleaseBody n s) := by
  unfold ringReleaseBody; (try extract_lets); with_reducible repeat'
    first
      | exact hk | assumption | apply setKeeps_ite | exact setKeeps_refuse _ _ | apply setKeeps_ok | apply setKeeps_refuseIn
      | apply keeps_ite | split | (apply Keeps.mk_of; exact hk)
theorem stepAlignBody_keeps {r0 s : State} (hk : Keeps r0 s) (j : Nat) (v : Nat) : SetKeeps r0 (stepAlignBody j v s) := by
  unfold stepAlignBody; with_reducible repeat'
    first
      | exact hk | assumption | apply setKeeps_ite | exact setKeeps_refuse _ _ | apply setKeeps_ok | apply setKeeps_refuseIn
      | apply keeps_ite | apply State.setVal_keeps
theorem replayArmBody_keeps {r0 s : State} (hk : Keeps r0 s) (j : Nat) (record : List Byte) : SetKeeps r0 (replayArmBody j
    record s) := by
  unfold replayArmBody; (try extract_lets); with_reducible repeat'
    first
      | exact hk | assumption | apply setKeeps_ite | exact setKeeps_refuse _ _ | apply setKeeps_ok | apply setKeeps_refuseIn
      | apply keeps_ite | apply State.setVal_keeps | (apply Keeps.mk_of; exact hk)
theorem replayDisarmBody_keeps {r0 s : State} (hk : Keeps r0 s) (j : Nat) : SetKeeps r0 (replayDisarmBody j s) := by
  unfold replayDisarmBody; (try extract_lets); with_reducible repeat'
    first
      | exact hk | assumption | apply setKeeps_ite | exact setKeeps_refuse _ _ | apply setKeeps_ok | apply setKeeps_refuseIn
      | apply keeps_ite | apply State.setVal_keeps | (apply Keeps.mk_of; exact hk)
theorem State.fireTrigger_keeps {r0 s : State} (hk : Keeps r0 s) (j : Nat) : Keeps r0 (State.fireTrigger s j) := by
  unfold State.fireTrigger; (try extract_lets); with_reducible repeat'
    first
      | exact hk | assumption | apply keeps_ite | apply State.setVal_keeps | apply State.free_keeps | apply State.note_keeps
      | apply State.bump_keeps | split | extract_lets
theorem readsDirectory_keeps {r0 s : State} (hk : Keeps r0 s) (j : Nat) : Keeps r0 (readsDirectory s j) := by
  unfold readsDirectory; (try extract_lets); with_reducible repeat'
    first
      | exact hk | assumption | apply keeps_ite | apply State.requestAlone_keeps | refine keeps_foldl _ _ ?_ fun _ _ _ => ?_
      | split | extract_lets
theorem loadStream_keeps {r0 s : State} (hk : Keeps r0 s) (e : DirEntry) : Keeps r0 (loadStream s e).1 := by
  unfold loadStream; extract_lets k m t bs
  have ht : Keeps r0 t := State.requestAlone_keeps hk _ _ _ _ _
  clear_value k m t bs
  split
  · exact hk
  · split
    · exact State.setCore_keeps ht _ _
    · exact State.setCore_keeps ht _ _
theorem startCore_keeps {r0 s : State} (hk : Keeps r0 s) (j : Nat) (c : Nat) (n : Nat) : Keeps r0 (startCore s j c n) :=
  hk.upd rfl rfl rfl rfl rfl
theorem State.lockStream_keeps {r0 s : State} (hk : Keeps r0 s) (j : Nat) : Keeps r0 (State.lockStream s j) := by
  unfold State.lockStream; with_reducible repeat'
    first
      | exact hk | assumption | apply keeps_ite | apply State.setVal_keeps | apply State.setLifecycle_keeps
theorem State.unlockStream_keeps {r0 s : State} (hk : Keeps r0 s) (j : Nat) : Keeps r0 (State.unlockStream s j) := by
  unfold State.unlockStream; with_reducible repeat'
    first
      | exact hk | assumption | apply keeps_ite | apply State.setVal_keeps | apply State.setLifecycle_keeps
theorem startPhases_keeps {r0 s : State} (hk : Keeps r0 s) (j : Nat) : Keeps r0 (startPhases s j) := by
  unfold startPhases; (try extract_lets); with_reducible repeat'
    first
      | exact hk | assumption | apply keeps_ite | refine keeps_foldl _ _ ?_ fun _ _ _ => ?_ | split | extract_lets
      | (apply Keeps.mk_of
         first
           | exact hk | assumption | apply keeps_ite | refine keeps_foldl _ _ ?_ fun _ _ _ => ?_ | split)
theorem checkManifest_keeps {r0 s : State} (hk : Keeps r0 s) (j : Nat) (n : Nat) : Keeps r0 (checkManifest s j n) := by
  unfold checkManifest; with_reducible repeat'
    first
      | exact hk | assumption | apply keeps_ite | apply State.setStep_keeps | apply State.bump_keeps
      | apply State.withdrawal_keeps | apply State.firmwareReads_keeps | apply State.seen_keeps | split
      | (apply Keeps.mk_of
         first
           | exact hk | assumption | apply keeps_ite | apply State.setStep_keeps | apply State.bump_keeps
           | apply State.withdrawal_keeps | apply State.firmwareReads_keeps | apply State.seen_keeps | split)
theorem startWalks_keeps {r0 s : State} (hk : Keeps r0 s) (j : Nat) : Keeps r0 (startWalks s j) := by
  unfold startWalks; (try extract_lets); with_reducible repeat'
    first
      | exact hk | assumption | apply keeps_ite | apply State.withdrawal_keeps | apply State.requestAlone_keeps
      | apply State.seen_keeps | refine keeps_foldl _ _ ?_ fun _ _ _ => ?_ | split | extract_lets
      | (apply Keeps.mk_of
         first
           | exact hk | assumption | apply keeps_ite | apply State.withdrawal_keeps | apply State.requestAlone_keeps
           | apply State.seen_keeps | refine keeps_foldl _ _ ?_ fun _ _ _ => ?_ | split)
theorem beginStep_keeps {r0 s : State} (hk : Keeps r0 s) (j : Nat) (programId : Nat) (cores : List Nat) : Keeps r0 (beginStep s
    j programId cores) := by
  unfold beginStep; with_reducible repeat'
    first
      | exact hk | assumption | apply keeps_ite | apply State.bump_keeps | apply State.setVal_keeps
      | apply startPhases_keeps | apply State.lockStream_keeps | apply State.setStep_keeps
theorem startListed_keeps {r0 s : State} (hk : Keeps r0 s) (j : Nat) (n : Nat) (e : DirEntry) : Keeps r0 (startListed j n s e) := by
  unfold startListed; with_reducible repeat'
    first
      | exact hk | assumption | apply keeps_ite | apply loadStream_keeps | apply State.coreFault_keeps
      | apply startCore_keeps | apply State.withdrawal_keeps
theorem State.setWalk_keeps {r0 s : State} (hk : Keeps r0 s) (x : PfWalk) : Keeps r0 (State.setWalk s x) :=
  hk.upd rfl rfl rfl rfl rfl
theorem State.servedWalk_keeps {r0 s : State} (hk : Keeps r0 s) (x : PfWalk) : Keeps r0 (State.servedWalk s x) := by
  unfold State.servedWalk; with_reducible repeat'
    first
      | exact hk | assumption | apply keeps_ite
      | (apply Keeps.mk_of
         first
           | exact hk | assumption | apply keeps_ite)
theorem landChunk_keeps {r0 s : State} (hk : Keeps r0 s) (w : PfWalk) (e : PfEntry) (x : PfChunk) : Keeps r0 (landChunk s w e x)
    := by
  unfold landChunk; (try extract_lets); with_reducible repeat'
    first
      | exact hk | assumption | apply keeps_ite | apply State.bump_keeps | apply State.poisonAtom_keeps
      | apply State.writeMem_keeps | refine keeps_foldl _ _ ?_ fun _ _ _ => ?_ | split | extract_lets
      | (apply Keeps.mk_of
         first
           | exact hk | assumption | apply keeps_ite | apply State.bump_keeps | apply State.poisonAtom_keeps
           | apply State.writeMem_keeps | refine keeps_foldl _ _ ?_ fun _ _ _ => ?_ | split)
theorem stopWalk_keeps {r0 s : State} (hk : Keeps r0 s) (w : PfWalk) : Keeps r0 (stopWalk s w) := by
  unfold stopWalk; with_reducible repeat'
    first
      | exact hk | assumption | apply keeps_ite | apply State.free_keeps | apply State.bump_keeps
theorem stopWalks_keeps {r0 s : State} (hk : Keeps r0 s) (j : Nat) : Keeps r0 (stopWalks s j) := by
  unfold stopWalks; (try extract_lets); with_reducible repeat'
    first
      | exact hk | assumption | apply keeps_ite | apply stopWalk_keeps | refine keeps_foldl _ _ ?_ fun _ _ _ => ?_ | split
      | extract_lets
      | (apply Keeps.mk_of
         first
           | exact hk | assumption | apply keeps_ite | apply stopWalk_keeps | refine keeps_foldl _ _ ?_ fun _ _ _ => ?_
           | split)
theorem discardSummaries_keeps {r0 s : State} (hk : Keeps r0 s) (c : Nat) : Keeps r0 (discardSummaries s c) := by
  unfold discardSummaries; (try extract_lets); with_reducible repeat'
    first
      | exact hk | assumption | apply keeps_ite | apply State.setCore_keeps | apply State.note_keeps | apply State.bump_keeps
      | refine keeps_foldl _ _ ?_ fun _ _ _ => ?_ | split | extract_lets
theorem countRounds_keeps {r0 s : State} (hk : Keeps r0 s) (j : Nat) : Keeps r0 (countRounds s j) := by
  unfold countRounds; (try extract_lets); with_reducible repeat'
    first
      | exact hk | assumption | apply keeps_ite | apply State.bump_keeps | refine keeps_foldl _ _ ?_ fun _ _ _ => ?_ | split
      | extract_lets
theorem withdrawSweep_keeps {r0 s : State} (hk : Keeps r0 s) (j : Nat) : Keeps r0 (withdrawSweep s j) := by
  unfold withdrawSweep; (try extract_lets); with_reducible repeat'
    first
      | exact hk | assumption | apply keeps_ite | apply State.sendWithdraw_keeps | apply State.retire_keeps
      | refine keeps_foldl _ _ ?_ fun _ _ _ => ?_ | split | extract_lets
theorem appendRecord_keeps {r0 s : State} (hk : Keeps r0 s) (j : Nat) (r : BitVec 512) : Keeps r0 (appendRecord s j r) := by
  unfold appendRecord; (try extract_lets); with_reducible repeat'
    first
      | exact hk | assumption | apply keeps_ite | apply State.setStep_keeps | apply State.setVal_keeps
      | refine keeps_foldl _ _ ?_ fun _ _ _ => ?_ | split | extract_lets
theorem endReplay_keeps {r0 s : State} (hk : Keeps r0 s) (j : Nat) (r : BitVec 512) : Keeps r0 (endReplay s j r) := by
  unfold endReplay; (try extract_lets); with_reducible repeat'
    first
      | exact hk | assumption | apply keeps_ite | apply State.setVal_keeps | apply State.note_keeps
      | (apply Keeps.mk_of; exact hk)
theorem sigRouteswapIssue_keeps {r0 s : State} (hk : Keeps r0 s) (c : Nat) (i : StationInsn) (token : Nat) : IssueKeeps r0
    (sigRouteswapIssue c s i token) := by
  unfold sigRouteswapIssue; (try extract_lets); with_reducible repeat'
    first
      | exact hk | assumption | apply issueKeeps_ite | exact issueKeeps_stall | exact issueKeeps_refuse _ _ _
      | apply issueKeeps_go | apply keeps_ite | apply withdrawnIssue_keeps | apply plainIssue_keeps
      | apply State.swapRoutes_keeps | split
theorem semSetBody_keeps {r0 s : State} (hk : Keeps r0 s) (data : List Byte) : SetKeeps r0 (semSetBody data s) := by
  unfold semSetBody; with_reducible repeat'
    first
      | exact hk | assumption | apply setKeeps_ite | exact setKeeps_refuse _ _ | apply setKeeps_ok | apply setKeeps_refuseIn
      | apply keeps_ite | apply State.setCore_keeps | apply State.bump_keeps | apply State.coreFault_keeps | split
theorem State.abandonWork_keeps {r0 s : State} (hk : Keeps r0 s) : Keeps r0 (State.abandonWork s) :=
  hk.upd rfl rfl rfl rfl rfl
theorem State.loseSram_keeps {r0 s : State} (hk : Keeps r0 s) : Keeps r0 (State.loseSram s) := by
  unfold State.loseSram; (try extract_lets); with_reducible repeat'
    first
      | exact hk | assumption | apply keeps_ite | apply State.clearMem_keeps | (apply Keeps.mk_of; exact hk)
theorem State.doffEnd_keeps {r0 s : State} (hk : Keeps r0 s) : Keeps r0 (State.doffEnd s) := by
  unfold State.doffEnd; (try extract_lets); with_reducible repeat'
    first
      | exact hk | assumption | apply keeps_ite | apply State.setVal_keeps | apply State.setDomain_keeps
      | apply State.setPortState_keeps | apply State.removeReplay_keeps | apply State.clearSession_keeps
      | apply State.loseSram_keeps | refine keeps_foldl _ _ ?_ fun _ _ _ => ?_ | split | extract_lets
      | (apply Keeps.mk_of
         first
           | exact hk | assumption | apply keeps_ite | apply State.setVal_keeps | apply State.setDomain_keeps
           | apply State.setPortState_keeps | apply State.removeReplay_keeps | apply State.clearSession_keeps
           | apply State.loseSram_keeps | refine keeps_foldl _ _ ?_ fun _ _ _ => ?_ | split)
theorem State.endDrains_keeps {r0 s : State} (hk : Keeps r0 s) : Keeps r0 (State.endDrains s) := by
  unfold State.endDrains; (try extract_lets); with_reducible repeat'
    first
      | exact hk | assumption | apply keeps_ite | apply State.setVal_keeps | refine keeps_foldl _ _ ?_ fun _ _ _ => ?_ | split
      | extract_lets
theorem State.startDoff_keeps {r0 s : State} (hk : Keeps r0 s) (code : Nat) (r : BitVec 512) : Keeps r0 (State.startDoff s code
    r) := by
  unfold State.startDoff; (try extract_lets); with_reducible repeat'
    first
      | exact hk | assumption | apply keeps_ite | apply State.setVal_keeps | apply State.emit_keeps
      | apply State.abandonWork_keeps | apply State.doffEnd_keeps | apply State.endDrains_keeps
      | refine keeps_foldl _ _ ?_ fun _ _ _ => ?_ | split | extract_lets
      | (apply Keeps.mk_of
         first
           | exact hk | assumption | apply keeps_ite | apply State.setVal_keeps | apply State.emit_keeps
           | apply State.abandonWork_keeps | apply State.doffEnd_keeps | apply State.endDrains_keeps
           | refine keeps_foldl _ _ ?_ fun _ _ _ => ?_ | split)
theorem State.doff_keeps {r0 s : State} (hk : Keeps r0 s) (code : Nat) (a : FaultAt) : Keeps r0 (State.doff s code a) := by
  unfold State.doff; (try extract_lets); with_reducible repeat'
    first
      | exact hk | assumption | apply keeps_ite | apply State.logRecord_keeps | apply State.startDoff_keeps | split
      | extract_lets
theorem State.doubt_keeps {r0 s : State} (hk : Keeps r0 s) (b : Bool) : Keeps r0 (State.doubt s b) := by
  unfold State.doubt; (try extract_lets); with_reducible repeat'
    first
      | exact hk | assumption | apply keeps_ite | (apply Keeps.mk_of; exact hk)
theorem State.failDomain_keeps {r0 s : State} (hk : Keeps r0 s) (d : Nat) : Keeps r0 (State.failDomain s d) := by
  unfold State.failDomain; (try extract_lets); with_reducible repeat'
    first
      | exact hk | assumption | apply keeps_ite | apply State.setVal_keeps | apply State.setDomain_keeps | split
      | extract_lets
theorem State.tripFirst_keeps {r0 s : State} (hk : Keeps r0 s) (a : FaultAt) : Keeps r0 (s.tripFirst a) := by
  unfold State.tripFirst; extract_lets first n r later log t u
  have ht : Keeps r0 t := State.setVal_keeps (State.bump_keeps hk _ _) _ _
  have hu : Keeps r0 u := State.bump_keeps ht _ _
  have hl : log.length = s.faultLog.length + 1 := by
    have h : ∀ l : List (BitVec 512), (l.filter fun x => !later x).length + (l.filter later).length = l.length := fun l => by
      induction l with
      | nil => rfl
      | cons x l ih => cases hx : later x <;> simp [hx] <;> omega
    have := h s.faultLog
    simp only [log, List.length_append, List.length_map, List.length_singleton]
    omega
  clear_value log t u
  split
  · rename_i h; exact ⟨ht.memOk, fun _ => h, ht.pending, ht.thermTrip⟩
  · refine ⟨hu.memOk, fun h => ?_, hu.pending, hu.thermTrip⟩
    have := hk.log h
    show (log.drop 1).length ≤ 1024
    simp only [List.length_drop]; omega
theorem State.zeroiseVolatile_keeps {r0 s : State} (hk : Keeps r0 s) : Keeps r0 (State.zeroiseVolatile s) :=
  hk.upd rfl rfl rfl rfl rfl
theorem State.foundCorrected_keeps {r0 s : State} (hk : Keeps r0 s) (a : Nat) : Keeps r0 (State.foundCorrected s a) := by
  unfold State.foundCorrected; with_reducible repeat'
    first
      | exact hk | assumption | apply keeps_ite | apply State.bump_keeps | apply State.note_keeps
theorem State.foundUncorrectable_keeps {r0 s : State} (hk : Keeps r0 s) (a : Nat) : Keeps r0 (State.foundUncorrectable s a) := by
  unfold State.foundUncorrectable; with_reducible repeat'
    first
      | exact hk | assumption | apply keeps_ite | apply State.poisonAtom_keeps | apply State.bump_keeps
      | apply State.doff_keeps | apply State.note_keeps
theorem State.foundError_keeps {r0 s : State} (hk : Keeps r0 s) (a : Nat) (x1 : EccResult) : Keeps r0 (State.foundError s a x1) := by
  unfold State.foundError; with_reducible repeat'
    first
      | exact hk | assumption | apply keeps_ite | apply State.foundCorrected_keeps | apply State.foundUncorrectable_keeps
      | split
theorem State.poisonReader_keeps {r0 s : State} (hk : Keeps r0 s) (q : HbmReq) (atom : Nat) : Keeps r0 (State.poisonReader s q
    atom) := by
  unfold State.poisonReader; (try extract_lets); with_reducible repeat'
    first
      | exact hk | assumption | apply keeps_ite | apply State.setCore_keeps | split | extract_lets
      | (apply Keeps.mk_of
         first
           | exact hk | assumption | apply keeps_ite | apply State.setCore_keeps | split)
theorem State.countRows_keeps {r0 s : State} (hk : Keeps r0 s) (a : Nat) : Keeps r0 (State.countRows s a) :=
  State.countCycles_keeps (State.countCycles_keeps hk _ _) _ _
theorem State.countStack_keeps {r0 s : State} (hk : Keeps r0 s) (sub : Nat) (a : Nat) (n : Nat) : Keeps r0 (State.countStack s
    sub a n) := by
  unfold State.countStack; with_reducible repeat'
    first
      | exact hk | assumption | apply keeps_ite | apply State.bump_keeps | split
theorem findInRequest_keeps {r0 s : State} (hk : Keeps r0 s) (q : HbmReq) (e : Nat × EccResult) : Keeps r0 (findInRequest q s e)
    := by
  unfold findInRequest; (try extract_lets); with_reducible repeat'
    first
      | exact hk | assumption | apply keeps_ite | apply State.foundError_keeps | apply State.poisonReader_keeps | split
      | extract_lets
theorem State.patrolRead_keeps {r0 s : State} (hk : Keeps r0 s) (q : HbmReq) : Keeps r0 (State.patrolRead s q) := by
  unfold State.patrolRead; (try extract_lets); with_reducible repeat'
    first
      | exact hk | assumption | apply keeps_ite | apply State.bump_keeps | split | extract_lets
      | (apply Keeps.mk_of
         first
           | exact hk | assumption | apply keeps_ite | apply State.bump_keeps | split)
theorem State.landPosted_keeps {r0 s : State} (hk : Keeps r0 s) : Keeps r0 (State.landPosted s) := by
  unfold State.landPosted; (try extract_lets); with_reducible repeat'
    first
      | exact hk | assumption | apply keeps_ite | apply State.writeMem_keeps | refine keeps_foldl _ _ ?_ fun _ _ _ => ?_
      | split | extract_lets
      | (apply Keeps.mk_of
         first
           | exact hk | assumption | apply keeps_ite | apply State.writeMem_keeps | refine keeps_foldl _ _ ?_ fun _ _ _ => ?_
           | split)
theorem State.setHostQueue_keeps {r0 s : State} (hk : Keeps r0 s) (q : Nat) (x : HostQueue) : Keeps r0 (State.setHostQueue s q x) :=
  hk.upd rfl rfl rfl rfl rfl
theorem State.queueError_keeps {r0 s : State} (hk : Keeps r0 s) (q : Nat) (code : Nat) : Keeps r0 (State.queueError s q code) := by
  unfold State.queueError; with_reducible repeat'
    first
      | exact hk | assumption | apply keeps_ite | apply State.event_keeps | apply State.setHostQueue_keeps
theorem State.queueVector_keeps {r0 s : State} (hk : Keeps r0 s) (v : Nat) : Keeps r0 (State.queueVector s v) := by
  unfold State.queueVector; (try extract_lets); with_reducible repeat'
    first
      | exact hk | assumption | apply keeps_ite | apply State.sendVector_keeps | extract_lets
      | (apply Keeps.mk_of
         first
           | exact hk | assumption | apply keeps_ite | apply State.sendVector_keeps)
theorem State.sendPending_keeps {r0 s : State} (hk : Keeps r0 s) : Keeps r0 (State.sendPending s) := by
  unfold State.sendPending; (try extract_lets); with_reducible repeat'
    first
      | exact hk | assumption | apply keeps_ite | apply State.sendVector_keeps | refine keeps_foldl _ _ ?_ fun _ _ _ => ?_
      | split | extract_lets
      | (apply Keeps.mk_of
         first
           | exact hk | assumption | apply keeps_ite | apply State.sendVector_keeps
           | refine keeps_foldl _ _ ?_ fun _ _ _ => ?_ | split)
theorem flushQueue_keeps {r0 x2 : State} (hk : Keeps r0 x2) (q : Nat) (x1 : Nat) : Keeps r0 (flushQueue q x1 x2) := by
  induction x1 generalizing x2 with
  | zero => unfold flushQueue; extract_lets; split <;> first | exact hk | exact State.setHostQueue_keeps hk _ _
  | succ n ih =>
    unfold flushQueue; extract_lets; with_reducible repeat'
      first
        | exact hk | apply keeps_ite | apply ih | apply State.queueVector_keeps | apply State.setHostQueue_keeps
        | apply State.emit_keeps | split | extract_lets
theorem State.flush_keeps {r0 s : State} (hk : Keeps r0 s) (q : Nat) : Keeps r0 (State.flush s q) := by
  unfold State.flush; with_reducible repeat' first | exact hk | assumption | apply keeps_ite | apply flushQueue_keeps
theorem State.disableQueue_keeps {r0 s : State} (hk : Keeps r0 s) (q : Nat) (write : Bool) : Keeps r0 (State.disableQueue s q
    write) := by
  unfold State.disableQueue; (try extract_lets); with_reducible repeat'
    first
      | exact hk | assumption | apply keeps_ite | apply State.setHostQueue_keeps | apply State.withdrawal_keeps
      | apply State.flush_keeps | extract_lets
      | (apply Keeps.mk_of
         first
           | exact hk | assumption | apply keeps_ite | apply State.setHostQueue_keeps | apply State.withdrawal_keeps
           | apply State.flush_keeps)
theorem State.writeQcfg_keeps {r0 s : State} (hk : Keeps r0 s) (q : Nat) (v : Word) : Keeps r0 (State.writeQcfg s q v) := by
  unfold State.writeQcfg; with_reducible repeat'
    first
      | exact hk | assumption | apply keeps_ite | apply State.setHostQueue_keeps | apply State.queueError_keeps
      | apply State.disableQueue_keeps
theorem State.fetchCommand_keeps {r0 s : State} (hk : Keeps r0 s) (q : Nat) (c : HostCommand) : Keeps r0 (State.fetchCommand s q
    c) :=
  hk.upd rfl rfl rfl rfl rfl
theorem startCopy_keeps {r0 s : State} (hk : Keeps r0 s) (q : Nat) (op : Nat) : Keeps r0 (startCopy s q op) := by
  unfold startCopy; (try extract_lets); with_reducible repeat'
    first
      | exact hk | assumption | apply keeps_ite | apply State.requestAlone_keeps | apply State.flush_keeps
      | apply State.fetchCommand_keeps | split | extract_lets
theorem State.windowMiss_keeps {r0 s : State} (hk : Keeps r0 s) : Keeps r0 (State.windowMiss s) := by
  unfold State.windowMiss; (try extract_lets); with_reducible repeat'
    first
      | exact hk | assumption | apply keeps_ite | apply State.event_keeps | (apply Keeps.mk_of; exact hk)
theorem hostBytes_keeps {r0 s : State} (hk : Keeps r0 s) (m : State) (a n : Nat) : Keeps r0 (hostBytes m a n s).2 := by
  induction n generalizing a s with
  | zero => exact hk
  | succ n ih => exact ih (keeps_ite (State.free_keeps hk 8) hk) (a + 1)
theorem bar2Read_keeps {r0 s : State} (hk : Keeps r0 s) (offset : Nat) (n : Nat) : Keeps r0 (bar2Read s offset n) := by
  unfold bar2Read; extract_lets w a r
  have hr : Keeps r0 r.2 := hostBytes_keeps (State.requestAlone_keeps hk _ _ _ _ _) _ _ _
  clear_value w a r
  with_reducible repeat'
    first
      | exact hk | exact hr | apply keeps_ite | apply State.emit_keeps | apply State.windowMiss_keeps
theorem bar2Write_keeps {r0 s : State} (hk : Keeps r0 s) (offset : Nat) (data : List Byte) : Keeps r0 (bar2Write s offset data)
    := by
  unfold bar2Write; (try extract_lets); with_reducible repeat'
    first
      | exact hk | assumption | apply keeps_ite | apply State.requestAlone_keeps | apply State.windowMiss_keeps | split
      | extract_lets
theorem readClear_keeps {r0 s : State} (hk : Keeps r0 s) (v : Nat) (clear : State → State) (hclear : ∀ s, Keeps r0 s → Keeps r0
    (clear s)) : Keeps r0 (readClear s v clear) := by
  unfold readClear; with_reducible repeat' first | exact hk | assumption | apply keeps_ite | apply hclear | apply State.emit_keeps
theorem State.writeEventMask_keeps {r0 s : State} (hk : Keeps r0 s) (v : Nat) : Keeps r0 (State.writeEventMask s v) := by
  unfold State.writeEventMask; (try extract_lets); with_reducible repeat'
    first
      | exact hk | assumption | apply keeps_ite | apply State.sendVector_keeps | (apply Keeps.mk_of; exact hk)
theorem State.writeBar0_keeps {r0 s : State} (hk : Keeps r0 s) (off : Nat) (v : Nat) : Keeps r0 (State.writeBar0 s off v) := by
  unfold State.writeBar0; (try extract_lets); with_reducible repeat'
    first
      | exact hk | assumption | apply keeps_ite | apply State.writeEventMask_keeps | apply State.setHostQueue_keeps
      | apply State.writeQcfg_keeps | apply State.sendPending_keeps | (apply Keeps.mk_of; exact hk)
theorem State.resetHost_keeps {r0 s : State} (hk : Keeps r0 s) : Keeps r0 (State.resetHost s) := by
  unfold State.resetHost; (try extract_lets); with_reducible repeat'
    first
      | exact hk | assumption | apply keeps_ite | apply State.disableQueue_keeps | refine keeps_foldl _ _ ?_ fun _ _ _ => ?_
      | split | extract_lets
      | (apply Keeps.mk_of
         first
           | exact hk | assumption | apply keeps_ite | apply State.disableQueue_keeps
           | refine keeps_foldl _ _ ?_ fun _ _ _ => ?_ | split)
theorem State.disablePort_keeps {r0 s : State} (hk : Keeps r0 s) (p : Nat) : Keeps r0 (State.disablePort s p) := by
  unfold State.disablePort; (try extract_lets); with_reducible repeat'
    first
      | exact hk | assumption | apply keeps_ite | apply State.setPortState_keeps | apply State.loseUses_keeps
      | apply State.discardSecrets_keeps | apply State.closePort_keeps | split | extract_lets
theorem State.domainOff_keeps {r0 s : State} (hk : Keeps r0 s) (d : Nat) : Keeps r0 (State.domainOff s d) := by
  unfold State.domainOff; (try extract_lets); with_reducible repeat'
    first
      | exact hk | assumption | apply keeps_ite | apply State.setDomain_keeps | apply State.disablePort_keeps
      | refine keeps_foldl _ _ ?_ fun _ _ _ => ?_ | split | extract_lets
theorem State.domainStart_keeps {r0 s : State} (hk : Keeps r0 s) (d : Nat) : Keeps r0 (State.domainStart s d) := by
  unfold State.domainStart; with_reducible repeat'
    first
      | exact hk | assumption | apply keeps_ite | apply State.setDomain_keeps | apply State.setVal_keeps
theorem domainStateBody_keeps {r0 s : State} (hk : Keeps r0 s) (d : Nat) (v : Nat) : SetKeeps r0 (domainStateBody d v s) := by
  unfold domainStateBody; with_reducible repeat'
    first
      | exact hk | assumption | apply setKeeps_ite | exact setKeeps_refuse _ _ | apply setKeeps_ok | apply setKeeps_refuseIn
      | apply keeps_ite | apply checkOrder_keeps | apply State.domainOff_keeps | apply State.domainStart_keeps
theorem State.wakePort_keeps {r0 s : State} (hk : Keeps r0 s) (p : Nat) : Keeps r0 (State.wakePort s p) := by
  unfold State.wakePort; with_reducible repeat'
    first
      | exact hk | assumption | apply keeps_ite | apply State.train_keeps | apply State.setPortState_keeps
theorem State.resetDomain_keeps {r0 s : State} (hk : Keeps r0 s) (d : Nat) : Keeps r0 (State.resetDomain s d) := by
  unfold State.resetDomain; (try extract_lets); with_reducible repeat'
    first
      | exact hk | assumption | apply keeps_ite | apply State.zeroClocks_keeps | apply State.clearMem_keeps | split
      | extract_lets
      | (apply Keeps.mk_of
         first
           | exact hk | assumption | apply keeps_ite | apply State.zeroClocks_keeps | apply State.clearMem_keeps | split)
theorem State.domainReached_keeps {r0 s : State} (hk : Keeps r0 s) (d : Nat) : Keeps r0 (State.domainReached s d) := by
  unfold State.domainReached; (try extract_lets); with_reducible repeat'
    first
      | exact hk | assumption | apply keeps_ite | apply State.setVal_keeps | apply State.setDomain_keeps
      | apply State.seatRequests_keeps | apply State.wakePort_keeps | apply State.resetDomain_keeps
      | refine keeps_foldl _ _ ?_ fun _ _ _ => ?_ | split | extract_lets
theorem State.domainLost_keeps {r0 s : State} (hk : Keeps r0 s) (d : Nat) : Keeps r0 (State.domainLost s d) := by
  unfold State.domainLost; (try extract_lets); with_reducible repeat'
    first
      | exact hk | assumption | apply keeps_ite | apply State.setVal_keeps | apply State.setDomain_keeps
      | apply State.setPortState_keeps | apply State.removeReplay_keeps | apply State.resetDomain_keeps
      | refine keeps_foldl _ _ ?_ fun _ _ _ => ?_ | split | extract_lets
theorem portEnableBody_keeps {r0 s : State} (hk : Keeps r0 s) (p : Nat) (v : Nat) : SetKeeps r0 (portEnableBody p v s) := by
  unfold portEnableBody; with_reducible repeat'
    first
      | exact hk | assumption | apply setKeeps_ite | exact setKeeps_refuse _ _ | apply setKeeps_ok | apply setKeeps_refuseIn
      | apply keeps_ite | apply State.disablePort_keeps | apply State.setVal_keeps | apply State.train_keeps
theorem State.chargeDisabled_keeps {r0 s : State} (hk : Keeps r0 s) (js : List Nat) : Keeps r0 (State.chargeDisabled s js) := by
  unfold State.chargeDisabled; (try extract_lets); with_reducible repeat'
    first
      | exact hk | assumption | apply keeps_ite | apply State.withdrawal_keeps | refine keeps_foldl _ _ ?_ fun _ _ _ => ?_
      | split | extract_lets
theorem coreEnableBody_keeps {r0 s : State} (hk : Keeps r0 s) (m : Nat) : SetKeeps r0 (coreEnableBody m s) := by
  unfold coreEnableBody; with_reducible repeat'
    first
      | exact hk | assumption | apply setKeeps_ite | exact setKeeps_refuse _ _ | apply setKeeps_ok | apply setKeeps_refuseIn
      | apply keeps_ite | apply State.setVal_keeps | apply State.chargeDisabled_keeps
theorem State.disableQueues_keeps {r0 s : State} (hk : Keeps r0 s) (j : Nat) : Keeps r0 (State.disableQueues s j) := by
  unfold State.disableQueues; (try extract_lets); with_reducible repeat'
    first
      | exact hk | assumption | apply keeps_ite | apply State.disableQueue_keeps | refine keeps_foldl _ _ ?_ fun _ _ _ => ?_
      | split | extract_lets
theorem jsStateBody_keeps {r0 s : State} (hk : Keeps r0 s) (j : Nat) (v : Nat) : SetKeeps r0 (jsStateBody j v s) := by
  unfold jsStateBody; with_reducible repeat'
    first
      | exact hk | assumption | apply setKeeps_ite | exact setKeeps_refuse _ _ | apply setKeeps_ok | apply setKeeps_refuseIn
      | apply keeps_ite | apply State.setVal_keeps | apply State.disableQueues_keeps | apply State.chargeDisabled_keeps
theorem jsLockBody_keeps {r0 s : State} (hk : Keeps r0 s) (j : Nat) (v : Nat) : SetKeeps r0 (jsLockBody j v s) := by
  unfold jsLockBody; with_reducible repeat'
    first
      | exact hk | assumption | apply setKeeps_ite | exact setKeeps_refuse _ _ | apply setKeeps_ok | apply setKeeps_refuseIn
      | apply keeps_ite | apply State.lockStream_keeps | apply State.unlockStream_keeps
theorem withdrawStepBody_keeps {r0 s : State} (hk : Keeps r0 s) (j : Nat) (v : Nat) : SetKeeps r0 (withdrawStepBody j v s) := by
  unfold withdrawStepBody; (try extract_lets); with_reducible repeat'
    first
      | exact hk | assumption | apply setKeeps_ite | exact setKeeps_refuse _ _ | apply setKeeps_ok | apply setKeeps_refuseIn
      | apply keeps_ite | apply boolCommand_keeps | apply State.withdrawal_keeps | apply State.setStep_keeps
      | refine keeps_foldl _ _ ?_ fun _ _ _ => ?_ | split | intro _ _ | extract_lets
theorem counterClearBody_keeps {r0 s : State} (hk : Keeps r0 s) (v : Nat) : SetKeeps r0 (counterClearBody v s) := by
  unfold counterClearBody; (try extract_lets); with_reducible repeat'
    first
      | exact hk | assumption | apply setKeeps_ite | exact setKeeps_refuse _ _ | apply setKeeps_ok | apply setKeeps_refuseIn
      | apply keeps_ite | (apply Keeps.mk_of; exact hk)
theorem faultLogClearBody_keeps {r0 s : State} (hk : Keeps r0 s) (v : Nat) : SetKeeps r0 (faultLogClearBody v s) := by
  unfold faultLogClearBody
  exact boolCommand_keeps hk v _ fun t ht => ⟨ht.memOk, fun _ => Nat.zero_le _, ht.pending, ht.thermTrip⟩
theorem attributed_keeps {r0 s : State} (hk : Keeps r0 s) (w : WindowSample) (k : Nat) : Keeps r0 (attributed s w k).2 := by
  unfold attributed; (try extract_lets); with_reducible repeat'
    first
      | exact hk | assumption | apply keeps_ite | apply State.free_keeps | split
theorem learnOne_keeps {r0 s : State} (hk : Keeps r0 s) (w : WindowSample) (k : Nat) (j : Nat) : Keeps r0 (learnOne w k s j) := by
  have ha : Keeps r0 (attributed s w k).2 := attributed_keeps hk w k
  have hf := State.free_keeps ha 24
  unfold learnOne; extract_lets key e a x f start
  have hs : Keeps r0 start.2 := by
    show Keeps r0 (if e.2 = 0 then (((f.1 : Nat) : Rat) / 1000, f.2) else (e.1, a.2)).2
    split
    · exact hf
    · exact ha
  clear_value start
  exact hs.upd rfl rfl rfl rfl rfl
theorem learn_keeps {r0 s : State} (hk : Keeps r0 s) (w : WindowSample) : Keeps r0 (learn w s) := by
  unfold learn; (try extract_lets); with_reducible repeat'
    first
      | exact hk | assumption | apply keeps_ite | apply learnOne_keeps | refine keeps_foldl _ _ ?_ fun _ _ _ => ?_ | split
      | extract_lets
theorem State.enforce_keeps {r0 s : State} (hk : Keeps r0 s) (w : WindowSample) (c : Nat) : Keeps r0 (State.enforce s w c) := by
  unfold State.enforce; (try extract_lets); with_reducible repeat'
    first
      | exact hk | assumption | apply keeps_ite | split | extract_lets
      | (apply Keeps.mk_of
         first
           | exact hk | assumption | apply keeps_ite | split)
theorem judgeModel_keeps {r0 s : State} (hk : Keeps r0 s) (w : WindowSample) (c : Nat) : Keeps r0 (judgeModel w s c) := by
  unfold judgeModel; (try extract_lets); with_reducible repeat'
    first
      | exact hk | assumption | apply keeps_ite | apply State.setVal_keeps | apply State.note_keeps | apply State.bump_keeps
      | split | (apply Keeps.mk_of; exact hk)
theorem readSensor_keeps {r0 s : State} (hk : Keeps r0 s) (e : Nat × Int) : Keeps r0 (readSensor s e) := by
  unfold readSensor; (try extract_lets); with_reducible repeat'
    first
      | exact hk | assumption | apply keeps_ite | apply State.note_keeps | extract_lets
      | (apply Keeps.mk_of
         first
           | exact hk | assumption | apply keeps_ite | apply State.note_keeps)
theorem recordReadings_keeps {r0 s : State} (hk : Keeps r0 s) (w : WindowSample) : Keeps r0 (recordReadings w s) := by
  unfold recordReadings; (try extract_lets); with_reducible repeat'
    first
      | exact hk | assumption | apply keeps_ite | apply State.setVal_keeps | refine keeps_foldl _ _ ?_ fun _ _ _ => ?_
      | split | extract_lets
theorem countWindow_keeps {r0 s : State} (hk : Keeps r0 s) (c : Nat) : Keeps r0 (countWindow s c) := by
  unfold countWindow; with_reducible repeat' first | exact hk | assumption | apply keeps_ite | apply State.bump_keeps
theorem applyBudget_keeps {r0 s : State} (hk : Keeps r0 s) (hbm : List Rat) (w : WindowSample) (e : Nat × Rat) : Keeps r0
    (applyBudget hbm w s e) := by
  unfold applyBudget; (try extract_lets); with_reducible repeat'
    first
      | exact hk | assumption | apply keeps_ite | apply State.setVal_keeps | refine keeps_foldl _ _ ?_ fun _ _ _ => ?_
      | split | extract_lets
      | (apply Keeps.mk_of
         first
           | exact hk | assumption | apply keeps_ite | apply State.setVal_keeps | refine keeps_foldl _ _ ?_ fun _ _ _ => ?_
           | split)
theorem splitBudget_keeps {r0 s : State} (hk : Keeps r0 s) (w : WindowSample) : Keeps r0 (splitBudget w s) := by
  unfold splitBudget; (try extract_lets); with_reducible repeat'
    first
      | exact hk | assumption | apply keeps_ite | apply State.bump_keeps | apply applyBudget_keeps
      | refine keeps_foldl _ _ ?_ fun _ _ _ => ?_ | split | (apply Keeps.mk_of; exact hk)
theorem State.endWindow_keeps {r0 s : State} (hk : Keeps r0 s) : Keeps r0 (State.endWindow s) :=
  hk.upd rfl rfl rfl rfl rfl
theorem State.countPeers_keeps {r0 s : State} (hk : Keeps r0 s) : Keeps r0 (State.countPeers s) := by
  unfold State.countPeers; (try extract_lets); with_reducible repeat'
    first
      | exact hk | assumption | apply keeps_ite | apply State.setVal_keeps | apply State.free_keeps
      | refine keeps_foldl _ _ ?_ fun _ _ _ => ?_ | split | extract_lets
theorem State.keepInput_keeps {r0 s : State} (hk : Keeps r0 s) (w : WindowSample) : Keeps r0 (State.keepInput s w) := by
  unfold State.keepInput; (try extract_lets); with_reducible repeat'
    first
      | exact hk | assumption | apply keeps_ite | extract_lets
      | (apply Keeps.mk_of
         first
           | exact hk | assumption | apply keeps_ite)
theorem capWBody_keeps {r0 s : State} (hk : Keeps r0 s) (v : Nat) : SetKeeps r0 (capWBody v s) := by
  unfold capWBody; with_reducible repeat'
    first
      | exact hk | assumption | apply setKeeps_ite | exact setKeeps_refuse _ _ | apply setKeeps_ok | apply setKeeps_refuseIn
      | apply keeps_ite | apply State.bump_keeps | apply State.setVal_keeps
theorem capForceBody_keeps {r0 s : State} (hk : Keeps r0 s) (v : Nat) : SetKeeps r0 (capForceBody v s) := by
  unfold capForceBody; with_reducible repeat'
    first
      | exact hk | assumption | apply setKeeps_ite | exact setKeeps_refuse _ _ | apply setKeeps_ok | apply setKeeps_refuseIn
      | apply keeps_ite | apply State.doff_keeps | apply State.setVal_keeps
theorem clockModeBody_keeps {r0 s : State} (hk : Keeps r0 s) (v : Nat) : SetKeeps r0 (clockModeBody v s) := by
  unfold clockModeBody; with_reducible repeat'
    first
      | exact hk | assumption | apply setKeeps_ite | exact setKeeps_refuse _ _ | apply setKeeps_ok | apply setKeeps_refuseIn
      | apply keeps_ite | apply State.setVal_keeps
theorem State.setBank_keeps {r0 s : State} (hk : Keeps r0 s) (b : Nat) (x : Bank) : Keeps r0 (State.setBank s b x) := by
  unfold State.setBank; (try extract_lets); with_reducible repeat'
    first
      | exact hk | assumption | apply keeps_ite | (apply Keeps.mk_of; exact hk)
theorem fwStageBody_keeps {r0 s : State} (hk : Keeps r0 s) (v : Nat) : SetKeeps r0 (fwStageBody v s) := by
  unfold fwStageBody; (try extract_lets); with_reducible repeat'
    first
      | exact hk | assumption | apply setKeeps_ite | exact setKeeps_refuse _ _ | apply setKeeps_ok | apply setKeeps_refuseIn
      | apply keeps_ite | apply State.setVal_keeps | (apply Keeps.mk_of; exact hk)
theorem bootBankNextBody_keeps {r0 s : State} (hk : Keeps r0 s) (v : Nat) : SetKeeps r0 (bootBankNextBody v s) := by
  unfold bootBankNextBody; with_reducible repeat'
    first
      | exact hk | assumption | apply setKeeps_ite | exact setKeeps_refuse _ _ | apply setKeeps_ok | apply setKeeps_refuseIn
      | apply keeps_ite | apply State.setVal_keeps
theorem liningCommand_keeps {r0 s : State} (hk : Keeps r0 s) (body : State → SetResult) (hbody : ∀ s, Keeps r0 s → SetKeeps r0
    (body s)) : SetKeeps r0 (liningCommand body s) := by
  unfold liningCommand; with_reducible repeat'
    first
      | exact hk | assumption | apply setKeeps_ite | exact setKeeps_refuse _ _ | apply setKeeps_ok | apply setKeeps_refuseIn
      | apply keeps_ite | apply hbody
theorem rollbackCommitBody_keeps {r0 x1 : State} (hk : Keeps r0 x1) (v : Nat) : SetKeeps r0 (rollbackCommitBody v x1) := by
  unfold rollbackCommitBody; (try extract_lets); with_reducible repeat'
    first
      | exact hk | assumption | apply setKeeps_ite | exact setKeeps_refuse _ _ | apply setKeeps_ok | apply setKeeps_refuseIn
      | apply keeps_ite | apply liningCommand_keeps | apply boolCommand_keeps | apply State.setVal_keeps
      | refine keeps_foldl _ _ ?_ fun _ _ _ => ?_ | split | intro _ _ | extract_lets
theorem State.zeroise_keeps {r0 s : State} (hk : Keeps r0 s) (shows : Nat) : Keeps r0 (State.zeroise s shows) := by
  unfold State.zeroise; (try extract_lets); with_reducible repeat'
    first
      | exact hk | assumption | apply keeps_ite | apply State.losePort_keeps | apply State.note_keeps
      | apply State.zeroiseVolatile_keeps | apply State.setVal_keeps | refine keeps_foldl _ _ ?_ fun _ _ _ => ?_ | split
      | extract_lets
      | (apply Keeps.mk_of
         first
           | exact hk | assumption | apply keeps_ite | apply State.losePort_keeps | apply State.note_keeps
           | apply State.zeroiseVolatile_keeps | apply State.setVal_keeps | refine keeps_foldl _ _ ?_ fun _ _ _ => ?_
           | split)
theorem zeroiseBody_keeps {r0 x1 : State} (hk : Keeps r0 x1) (v : Nat) : SetKeeps r0 (zeroiseBody v x1) := by
  unfold zeroiseBody; (try extract_lets); with_reducible repeat'
    first
      | exact hk | assumption | apply setKeeps_ite | exact setKeeps_refuse _ _ | apply setKeeps_ok | apply setKeeps_refuseIn
      | apply keeps_ite | apply liningCommand_keeps | apply boolCommand_keeps | apply State.zeroise_keeps
      | refine keeps_foldl _ _ ?_ fun _ _ _ => ?_ | split | intro _ _ | extract_lets
theorem enrolBody_keeps {r0 x1 : State} (hk : Keeps r0 x1) (v : Nat) : SetKeeps r0 (enrolBody v x1) := by
  unfold enrolBody; (try extract_lets); with_reducible repeat'
    first
      | exact hk | assumption | apply setKeeps_ite | exact setKeeps_refuse _ _ | apply setKeeps_ok | apply setKeeps_refuseIn
      | apply keeps_ite | apply liningCommand_keeps | apply boolCommand_keeps | apply State.random_keeps
      | apply State.setVal_keeps | refine keeps_foldl _ _ ?_ fun _ _ _ => ?_ | split | intro _ _ | extract_lets
      | (apply Keeps.mk_of
         first
           | exact hk | assumption | apply setKeeps_ite | exact setKeeps_refuse _ _ | apply setKeeps_ok
           | apply setKeeps_refuseIn | apply keeps_ite | apply liningCommand_keeps | apply boolCommand_keeps
           | apply State.random_keeps | apply State.setVal_keeps | refine keeps_foldl _ _ ?_ fun _ _ _ => ?_ | split
           | intro _ _)
theorem retireBody_keeps {r0 x1 : State} (hk : Keeps r0 x1) (v : Nat) : SetKeeps r0 (retireBody v x1) := by
  unfold retireBody; (try extract_lets); with_reducible repeat'
    first
      | exact hk | assumption | apply setKeeps_ite | exact setKeeps_refuse _ _ | apply setKeeps_ok | apply setKeeps_refuseIn
      | apply keeps_ite | apply liningCommand_keeps | apply State.zeroise_keeps | refine keeps_foldl _ _ ?_ fun _ _ _ => ?_
      | split | intro _ _ | extract_lets
      | (apply Keeps.mk_of
         first
           | exact hk | assumption | apply setKeeps_ite | exact setKeeps_refuse _ _ | apply setKeeps_ok
           | apply setKeeps_refuseIn | apply keeps_ite | apply liningCommand_keeps | apply State.zeroise_keeps
           | refine keeps_foldl _ _ ?_ fun _ _ _ => ?_ | split | intro _ _)
theorem ownerKeyAddBody_keeps {r0 x1 : State} (hk : Keeps r0 x1) (digest : List Byte) : SetKeeps r0 (ownerKeyAddBody digest x1) := by
  unfold ownerKeyAddBody; (try extract_lets); with_reducible repeat'
    first
      | exact hk | assumption | apply setKeeps_ite | exact setKeeps_refuse _ _ | apply setKeeps_ok | apply setKeeps_refuseIn
      | apply keeps_ite | apply liningCommand_keeps | apply State.setVal_keeps | refine keeps_foldl _ _ ?_ fun _ _ _ => ?_
      | split | intro _ _ | extract_lets
theorem ownerKeyRevokeBody_keeps {r0 x1 : State} (hk : Keeps r0 x1) (v : Nat) : SetKeeps r0 (ownerKeyRevokeBody v x1) := by
  unfold ownerKeyRevokeBody; (try extract_lets); with_reducible repeat'
    first
      | exact hk | assumption | apply setKeeps_ite | exact setKeeps_refuse _ _ | apply setKeeps_ok | apply setKeeps_refuseIn
      | apply keeps_ite | apply liningCommand_keeps | apply State.setVal_keeps | refine keeps_foldl _ _ ?_ fun _ _ _ => ?_
      | split | intro _ _ | extract_lets
theorem peerKeyDigestBody_keeps {r0 s : State} (hk : Keeps r0 s) (table : List Byte) : SetKeeps r0 (peerKeyDigestBody table s) := by
  unfold peerKeyDigestBody; (try extract_lets); with_reducible repeat'
    first
      | exact hk | assumption | apply setKeeps_ite | exact setKeeps_refuse _ _ | apply setKeeps_ok | apply setKeeps_refuseIn
      | apply keeps_ite | apply State.setVal_keeps | refine keeps_foldl _ _ ?_ fun _ _ _ => ?_ | split | extract_lets
theorem State.setConn_keeps {r0 s : State} (hk : Keeps r0 s) (who : Requester) (x : SpdmConn) : Keeps r0 (State.setConn s who x) :=
  hk.upd rfl rfl rfl rfl rfl
theorem State.spdmError_keeps {r0 s : State} (hk : Keeps r0 s) (who : Requester) (code : Nat) (body : List Byte) : Keeps r0
    (State.spdmError s who code body) :=
  hk.upd rfl rfl rfl rfl rfl
theorem State.spdmReply_keeps {r0 s : State} (hk : Keeps r0 s) (who : Requester) (code : Nat) (body : List Byte) : Keeps r0
    (State.spdmReply s who code body) := by
  unfold State.spdmReply; with_reducible repeat'
    first
      | exact hk | assumption | apply keeps_ite | apply State.emit_keeps | apply State.spdmError_keeps
      | apply State.setConn_keeps
theorem State.spdmSend_keeps {r0 s : State} (hk : Keeps r0 s) (who : Requester) (ack : List Byte) (code : Nat) (body : List
    Byte) : Keeps r0 (State.spdmSend s who ack code body) := by
  unfold State.spdmSend; with_reducible repeat'
    first
      | exact hk | assumption | apply keeps_ite | apply State.spdmReply_keeps | split
theorem State.deliver_keeps {r0 s : State} (hk : Keeps r0 s) (who : Requester) (ack : List Byte) (y0 : SpdmAnswer) : Keeps r0
    (State.deliver s who ack y0) := by
  unfold State.deliver; with_reducible repeat'
    first
      | exact hk | assumption | apply keeps_ite | apply State.spdmError_keeps | apply State.spdmSend_keeps | split
      | (apply Keeps.mk_of
         first
           | exact hk | assumption | apply keeps_ite | apply State.spdmError_keeps | apply State.spdmSend_keeps | split)
theorem serveSpdm_keeps {r0 s : State} (hk : Keeps r0 s) (who : Requester) (ack : List Byte) (req : SpdmRequest) : Keeps r0
    (serveSpdm who ack req s) := by
  unfold serveSpdm; (try extract_lets); with_reducible repeat'
    first
      | exact hk | assumption | apply keeps_ite | apply State.setConn_keeps | apply State.deliver_keeps | split | extract_lets
theorem serveLarge_keeps {r0 s : State} (hk : Keeps r0 s) (who : Requester) (ack : List Byte) (bs : List Byte) : Keeps r0
    (serveLarge who ack bs s) := by
  unfold serveLarge; with_reducible repeat'
    first
      | exact hk | assumption | apply keeps_ite | apply State.deliver_keeps | apply serveSpdm_keeps | split
theorem issueNonce_keeps {r0 s : State} (hk : Keeps r0 s) (who : Requester) : Keeps r0 (issueNonce who s).2 :=
  Keeps.upd (State.random_keeps hk 1) rfl rfl rfl rfl rfl
theorem readEntry_keeps {r0 s : State} (hk : Keeps r0 s) (who : Requester) (e : Entry) (index : Nat) (sub : Nat) : Keeps r0
    (readEntry who s e index sub).2 := by
  unfold readEntry; with_reducible repeat' first | exact hk | assumption | apply keeps_ite | apply issueNonce_keeps | split
theorem stateRequestBody_keeps {r0 s : State} (hk : Keeps r0 s) (v : Nat) : SetKeeps r0 (stateRequestBody v s) := by
  unfold stateRequestBody; with_reducible repeat'
    first
      | exact hk | assumption | apply setKeeps_ite | exact setKeeps_refuse _ _ | apply setKeeps_ok | apply setKeeps_refuseIn
      | apply keeps_ite | apply State.setLifecycle_keeps
theorem resetBody_keeps {r0 s : State} (hk : Keeps r0 s) (v : Nat) : SetKeeps r0 (resetBody v s) := by
  unfold resetBody; (try extract_lets); with_reducible repeat'
    first
      | exact hk | assumption | apply setKeeps_ite | exact setKeeps_refuse _ _ | apply setKeeps_ok | apply setKeeps_refuseIn
      | apply keeps_ite | (apply Keeps.mk_of; exact hk)
theorem maintClaimBody_keeps {r0 s : State} (hk : Keeps r0 s) (who : Requester) (claim : List Byte) : SetKeeps r0
    (maintClaimBody who claim s) := by
  unfold maintClaimBody; (try extract_lets); with_reducible repeat'
    first
      | exact hk | assumption | apply setKeeps_ite | exact setKeeps_refuse _ _ | apply setKeeps_ok | apply setKeeps_refuseIn
      | apply keeps_ite | apply State.setVal_keeps | split | (apply Keeps.mk_of; exact hk)
theorem maintReleaseBody_keeps {r0 s : State} (hk : Keeps r0 s) (who : Requester) (v : Nat) : SetKeeps r0 (maintReleaseBody who
    v s) := by
  unfold maintReleaseBody; (try extract_lets); with_reducible repeat'
    first
      | exact hk | assumption | apply setKeeps_ite | exact setKeeps_refuse _ _ | apply setKeeps_ok | apply setKeeps_refuseIn
      | apply keeps_ite | apply boolCommand_keeps | apply State.setVal_keeps | refine keeps_foldl _ _ ?_ fun _ _ _ => ?_
      | split | intro _ _ | extract_lets
theorem rangeBody_keeps {r0 s : State} (hk : Keeps r0 s) (k : Key) (lo : Nat) (hi : Nat) (v : Nat) : SetKeeps r0 (rangeBody k lo
    hi v s) := by
  unfold rangeBody; with_reducible repeat'
    first
      | exact hk | assumption | apply setKeeps_ite | exact setKeeps_refuse _ _ | apply setKeeps_ok | apply setKeeps_refuseIn
      | apply keeps_ite | apply State.setVal_keeps
theorem boolBody_keeps {r0 s : State} (hk : Keeps r0 s) (k : Key) (v : Nat) : SetKeeps r0 (boolBody k v s) := by
  unfold boolBody; with_reducible repeat'
    first
      | exact hk | assumption | apply setKeeps_ite | exact setKeeps_refuse _ _ | apply setKeeps_ok | apply setKeeps_refuseIn
      | apply keeps_ite | apply State.setVal_keeps
theorem boundBody_keeps {r0 s : State} (hk : Keeps r0 s) (k : Key) (low : Word) (v : Nat) : SetKeeps r0 (boundBody k low v s) := by
  unfold boundBody; with_reducible repeat'
    first
      | exact hk | assumption | apply setKeeps_ite | exact setKeeps_refuse _ _ | apply setKeeps_ok | apply setKeeps_refuseIn
      | apply keeps_ite | apply State.setVal_keeps
theorem tableBody_keeps {r0 s : State} (hk : Keeps r0 s) (index : Nat) (sub : Nat) (width : Nat) (rows : Nat) (ok : Nat → Bool)
    (bs : List Byte) : SetKeeps r0 (tableBody index sub width rows ok bs s) := by
  unfold tableBody; (try extract_lets); with_reducible repeat'
    first
      | exact hk | assumption | apply setKeeps_ite | exact setKeeps_refuse _ _ | apply setKeeps_ok | apply setKeeps_refuseIn
      | apply keeps_ite | apply State.setVal_keeps | refine keeps_foldl _ _ ?_ fun _ _ _ => ?_ | split | extract_lets
theorem pounceLayersBody_keeps {r0 s : State} (hk : Keeps r0 s) (j : Nat) (bs : List Byte) : SetKeeps r0 (pounceLayersBody j bs
    s) := by
  unfold pounceLayersBody; (try extract_lets); with_reducible repeat'
    first
      | exact hk | assumption | apply setKeeps_ite | exact setKeeps_refuse _ _ | apply setKeeps_ok | apply setKeeps_refuseIn
      | apply keeps_ite | apply tableBody_keeps | split | extract_lets
theorem quotaBody_keeps {r0 s : State} (hk : Keeps r0 s) (j : Nat) (which : Nat) (v : Nat) : SetKeeps r0 (quotaBody j which v s) := by
  unfold quotaBody; with_reducible repeat'
    first
      | exact hk | assumption | apply setKeeps_ite | exact setKeeps_refuse _ _ | apply setKeeps_ok | apply setKeeps_refuseIn
      | apply keeps_ite | apply State.setVal_keeps
theorem moduleIdBody_keeps {r0 s : State} (hk : Keeps r0 s) (v : Nat) : SetKeeps r0 (moduleIdBody v s) := by
  unfold moduleIdBody; with_reducible repeat'
    first
      | exact hk | assumption | apply setKeeps_ite | exact setKeeps_refuse _ _ | apply setKeeps_ok | apply setKeeps_refuseIn
      | apply keeps_ite | apply State.setVal_keeps
theorem opportunisticBody_keeps {r0 s : State} (hk : Keeps r0 s) (v : Nat) : SetKeeps r0 (opportunisticBody v s) := by
  unfold opportunisticBody; with_reducible repeat'
    first
      | exact hk | assumption | apply setKeeps_ite | exact setKeeps_refuse _ _ | apply setKeeps_ok | apply setKeeps_refuseIn
      | apply keeps_ite | apply State.setVal_keeps
theorem rankBody_keeps {r0 s : State} (hk : Keeps r0 s) (p : Nat) (sub : Nat) (v : Nat) : SetKeeps r0 (rankBody p sub v s) := by
  unfold rankBody; with_reducible repeat'
    first
      | exact hk | assumption | apply setKeeps_ite | exact setKeeps_refuse _ _ | apply setKeeps_ok | apply setKeeps_refuseIn
      | apply keeps_ite | apply State.setVal_keeps
theorem asymBody_keeps {r0 s : State} (hk : Keeps r0 s) (bs : List Byte) : SetKeeps r0 (asymBody bs s) := by
  unfold asymBody; with_reducible repeat'
    first
      | exact hk | assumption | apply setKeeps_ite | exact setKeeps_refuse _ _ | apply setKeeps_ok | apply setKeeps_refuseIn
      | apply keeps_ite | apply tableBody_keeps
theorem opMaxBody_keeps {r0 s : State} (hk : Keeps r0 s) (v : Nat) : SetKeeps r0 (opMaxBody v s) := by
  unfold opMaxBody; with_reducible repeat'
    first
      | exact hk | assumption | apply setKeeps_ite | exact setKeeps_refuse _ _ | apply setKeeps_ok | apply setKeeps_refuseIn
      | apply keeps_ite | apply State.setVal_keeps
theorem setSingle_keeps {r0 s : State} (hk : Keeps r0 s) (who : Requester) (index : Nat) (sub : Nat) (bs : List Byte) : SetKeeps
    r0 (setSingle who index sub bs s) := by
  unfold setSingle; with_reducible repeat'
    first
      | exact hk | assumption | apply setKeeps_ite | exact setKeeps_refuse _ _ | apply setKeeps_ok | apply setKeeps_refuseIn
      | apply keeps_ite | apply stateRequestBody_keeps | apply resetBody_keeps | apply maintClaimBody_keeps
      | apply maintReleaseBody_keeps | apply rangeBody_keeps | apply boolBody_keeps | apply capWBody_keeps
      | apply capForceBody_keeps | apply moduleIdBody_keeps | apply routeLoadBody_keeps | apply boolCommand_keeps
      | apply routeSwapBody_keeps | apply opportunisticBody_keeps | apply tableBody_keeps | apply asymBody_keeps
      | apply scheduleLoadBody_keeps | apply scheduleReleaseBody_keeps | apply regionCreateBody_keeps
      | apply regionDestroyBody_keeps | apply clockModeBody_keeps | apply opMaxBody_keeps | apply coreEnableBody_keeps
      | apply rollbackCommitBody_keeps | apply bootBankNextBody_keeps | apply fwStageBody_keeps
      | apply ownerKeyAddBody_keeps | apply ownerKeyRevokeBody_keeps | apply peerKeyDigestBody_keeps
      | apply zeroiseBody_keeps | apply enrolBody_keeps | apply retireBody_keeps | apply faultLogClearBody_keeps
      | apply counterClearBody_keeps | apply contextRegisterBody_keeps | apply contextReleaseBody_keeps
      | apply collRegisterBody_keeps | apply collReleaseBody_keeps | apply ringRegisterBody_keeps
      | apply ringReleaseBody_keeps | apply semSetBody_keeps | apply State.setVal_keeps | split
theorem setPort_keeps {r0 s : State} (hk : Keeps r0 s) (p : Nat) (sub : Nat) (v : Nat) : SetKeeps r0 (setPort p sub v s) := by
  unfold setPort; with_reducible repeat'
    first
      | exact hk | assumption | apply setKeeps_ite | exact setKeeps_refuse _ _ | apply setKeeps_ok | apply setKeeps_refuseIn
      | apply keeps_ite | apply portEnableBody_keeps | apply rangeBody_keeps | apply rankBody_keeps | split
theorem setStream_keeps {r0 s : State} (hk : Keeps r0 s) (base : Nat) (j : Nat) (sub : Nat) (bs : List Byte) : SetKeeps r0
    (setStream base j sub bs s) := by
  unfold setStream; extract_lets v k; clear_value v k
  with_reducible repeat'
    first
      | exact hk | assumption | apply setKeeps_ite | exact setKeeps_refuse _ _ | apply setKeeps_ok | apply setKeeps_refuseIn
      | apply keeps_ite | apply quotaBody_keeps | apply tableBody_keeps | apply boundBody_keeps | apply rangeBody_keeps
      | apply pounceLayersBody_keeps | apply withdrawStepBody_keeps | apply coreMaskBody_keeps | apply State.fireTrigger_keeps
      | apply epochPrepareBody_keeps | apply boolCommand_keeps | apply epochCommitBody_keeps | apply mapRegisterBody_keeps
      | apply boolBody_keeps | apply stepAlignBody_keeps | apply replayArmBody_keeps | apply replayDisarmBody_keeps
      | apply State.setVal_keeps | intro _ _ | split
theorem setValue_keeps {r0 s : State} (hk : Keeps r0 s) (who : Requester) (index : Nat) (sub : Nat) (bs : List Byte) : SetKeeps
    r0 (setValue who index sub bs s) := by
  unfold setValue; with_reducible repeat'
    first
      | exact hk | assumption | apply setKeeps_ite | exact setKeeps_refuse _ _ | apply setKeeps_ok | apply setKeeps_refuseIn
      | apply keeps_ite | apply domainStateBody_keeps | apply jsStateBody_keeps | apply jsLockBody_keeps
      | apply setPort_keeps | apply setStream_keeps | apply setSingle_keeps | split
theorem State.dropStaged_keeps {r0 s : State} (hk : Keeps r0 s) (who : Nat) : Keeps r0 (State.dropStaged s who) :=
  hk.upd rfl rfl rfl rfl rfl
theorem State.putStaged_keeps {r0 s : State} (hk : Keeps r0 s) (who : Nat) (index : Nat) (sub : Nat) (bs : List Byte) : Keeps r0
    (State.putStaged s who index sub bs) :=
  hk.upd rfl rfl rfl rfl rfl
theorem State.readRequest_keeps {r0 s : State} (hk : Keeps r0 s) (rq : Rq) (op : Nat) (index : Nat) (sub : Nat) (body : Entry →
    State) (hbody : ∀ e, Keeps r0 (body e)) : Keeps r0 (State.readRequest s rq op index sub body) := by
  unfold State.readRequest; with_reducible repeat'
    first
      | exact hk | assumption | apply keeps_ite | apply hbody | apply State.answer_keeps | split
theorem rangeRecord_keeps {r0 s : State} (hk : Keeps r0 s) (who : Requester) (x : Nat × Nat × Entry) : Keeps r0 (rangeRecord who
    s x).2 := by
  unfold rangeRecord; extract_lets e o q len
  have hq : Keeps r0 q.2 := by
    show Keeps r0 (if o = true then ([], s) else readEntry who s e x.1 x.2.1).2
    split
    · exact hk
    · exact readEntry_keeps hk _ _ _ _
  show Keeps r0 (if e.length < 2 ^ 16 then (e.length, q.2) else q.2.free 16).2
  split
  · exact hq
  · exact State.free_keeps hq 16
theorem rangeRecords_keeps {r0 x1 : State} (hk : Keeps r0 x1) (who : Requester) (x2 : List Byte) (x3 : List (Nat × Nat × Entry))
    : Keeps r0 (rangeRecords who x1 x2 x3).2.2 := by
  induction x3 generalizing x1 x2 with
  | nil => exact hk
  | cons x l ih =>
    unfold rangeRecords; extract_lets q
    split
    · exact hk
    · exact ih (rangeRecord_keeps hk who x) _
theorem sampleOne_keeps {r0 s : State} (hk : Keeps r0 s) (x : Subscription) : Keeps r0 (sampleOne s x).2 := by
  unfold sampleOne; (try extract_lets); with_reducible repeat'
    first
      | exact hk | assumption | apply keeps_ite | apply State.emit_keeps | split | extract_lets
theorem State.mctpReply_keeps {r0 s : State} (hk : Keeps r0 s) (tr : Transport) (command : Nat) (body : List Byte) : Keeps r0
    (State.mctpReply s tr command body) := by
  unfold State.mctpReply; with_reducible repeat' first | exact hk | assumption | apply keeps_ite | apply State.emit_keeps
theorem State.openStore_keeps {r0 s : State} (hk : Keeps r0 s) : Keeps r0 (State.openStore s) := by
  unfold State.openStore; (try extract_lets); with_reducible repeat'
    first
      | exact hk | assumption | apply keeps_ite | (apply Keeps.mk_of; exact hk)
theorem State.applyConfig_keeps {r0 s : State} (hk : Keeps r0 s) (b : Option ImageBytes) : Keeps r0 (State.applyConfig s b) := by
  unfold State.applyConfig; (try extract_lets); with_reducible repeat'
    first
      | exact hk | assumption | apply keeps_ite | apply State.setVal_keeps | refine keeps_foldl _ _ ?_ fun _ _ _ => ?_
      | split | extract_lets
      | (apply Keeps.mk_of
         first
           | exact hk | assumption | apply keeps_ite | apply State.setVal_keeps | refine keeps_foldl _ _ ?_ fun _ _ _ => ?_
           | split)
theorem State.bootWith_keeps {r0 s : State} (hk : Keeps r0 s) (bank : Nat) (cause : Nat) (fallback : Bool) : Keeps r0
    (State.bootWith s bank cause fallback) := by
  unfold State.bootWith; (try extract_lets); with_reducible repeat'
    first
      | exact hk | assumption | apply keeps_ite | apply State.openStore_keeps | apply State.setVal_keeps
      | apply State.applyConfig_keeps | apply State.wakePort_keeps | apply State.note_keeps
      | refine keeps_foldl _ _ ?_ fun _ _ _ => ?_ | split | extract_lets
theorem State.powerUp_keeps {r0 s : State} (hk : Keeps r0 s) (cause : Nat) (reject : Bool) : Keeps r0 (State.powerUp s cause
    reject) := by
  unfold State.powerUp; (try extract_lets); with_reducible repeat'
    first
      | exact hk | assumption | apply keeps_ite | apply State.afterReset_keeps | apply State.setVal_keeps
      | apply State.bootWith_keeps | split | extract_lets
      | (apply Keeps.mk_of
         first
           | exact hk | assumption | apply keeps_ite | apply State.afterReset_keeps | apply State.setVal_keeps
           | apply State.bootWith_keeps | split)
theorem State.powerUpMissing_keeps {r0 s : State} (hk : Keeps r0 s) (cause : Nat) (missed : Option (Nat × Byte)) : Keeps r0
    (State.powerUpMissing s cause missed) := by
  unfold State.powerUpMissing; (try extract_lets); with_reducible repeat'
    first
      | exact hk | assumption | apply keeps_ite | apply State.setVal_keeps | apply State.doff_keeps
      | apply State.afterReset_keeps | apply State.powerUp_keeps | split | extract_lets
      | (apply Keeps.mk_of
         first
           | exact hk | assumption | apply keeps_ite | apply State.setVal_keeps | apply State.doff_keeps
           | apply State.afterReset_keeps | apply State.powerUp_keeps | split)
theorem countVec_keeps {r0 s : State} (hk : Keeps r0 s) (c : Nat) (e : VecEffect) : Keeps r0 (countVec s c e) := by
  unfold countVec; with_reducible repeat' first | exact hk | assumption | apply keeps_ite | apply State.bump_keeps
theorem vecPoisoned_keeps {r0 s : State} (hk : Keeps r0 s) (c : Nat) (i : StationInsn) (token : Nat) (h : Nat) : IssueKeeps r0
    (vecPoisoned s c i token h) := by
  have hp := poisonedIssue_keeps hk c 2 i token h
  unfold vecPoisoned; split
  · rename_i e; rw [e] at hp
    exact issueKeeps_go _ (keeps_ite (State.setCore_keeps hp _ _) hp)
  · exact hp
theorem vecIssue_keeps {r0 s : State} (hk : Keeps r0 s) (c : Nat) (compute : VecArgs → VecAnswer) (i : StationInsn) (token :
    Nat) : IssueKeeps r0 (vecIssue c compute s i token) := by
  unfold vecIssue; (try extract_lets); with_reducible repeat'
    first
      | exact hk | assumption | apply issueKeeps_ite | exact issueKeeps_stall | exact issueKeeps_refuse _ _ _
      | apply issueKeeps_go | apply keeps_ite | apply vecPoisoned_keeps | apply withdrawnIssue_keeps | apply countVec_keeps
      | split | extract_lets

end Sys2Proof.Machine
end

