-- ==== Sys2Proof/Laws/Shared.lean ====
section
/-! SUPPORT. What the operations shared by many commands come to: the common path of a dictionary SET, of a control word and of
a station's head; and all that counting and raising faults touches. -/
namespace Sys2Proof.Machine

/-! ### Faults and counters -/

/-- A state that differs from another only in what faults and counters write: the dictionary, the fault log, the events of the
host interface with what is sent for them, and the records of steps. -/
def Noted (s t : State) : Prop :=
  t = { s with
    sent := t.sent, dict := t.dict, steps := t.steps, faultLog := t.faultLog, frecSeq := t.frecSeq, notedNow := t.notedNow
    msixPending := t.msixPending, eventCause := t.eventCause }

theorem Noted.refl (s : State) : Noted s s := rfl

theorem Noted.trans {s t u : State} (h : Noted s t) (k : Noted t u) : Noted s u := by
  have : ∀ (a : List Sent) (b : List (Nat × Nat)) (c : List (Nat × StepInfo)) (d : List (BitVec 512)) (e : Word) (f g : List Nat)
      (i : Nat), ({ t with
        sent := a, dict := b, steps := c, faultLog := d, frecSeq := e, notedNow := f, msixPending := g, eventCause := i } : State) =
      { s with
        sent := a, dict := b, steps := c, faultLog := d, frecSeq := e, notedNow := f, msixPending := g, eventCause := i } := by
    intro a b c d e f g i; rw [h]
  exact Eq.trans k (this _ _ _ _ _ _ _ _)

theorem Noted.ite {s a b : State} {c : Prop} [Decidable c] (ha : Noted s a) (hb : Noted s b) : Noted s (if c then a else b) := by
  split <;> assumption

theorem State.setVal_noted (s : State) (k : Key) (v : Nat) : Noted s (s.setVal k v) := rfl
theorem State.setStep_noted (s : State) (j : Nat) (x : StepInfo) : Noted s (s.setStep j x) := rfl
theorem State.emit_noted (s : State) (x : Sent) : Noted s (s.emit x) := rfl
theorem State.bumpRaw_noted (s : State) (k : Key) (n : Nat) : Noted s (s.bumpRaw k n).1 := rfl

theorem State.sendVector_noted (s : State) (v : Nat) : Noted s (s.sendVector v) :=
  .ite (.ite (.refl s) rfl) (s.emit_noted _)

theorem State.event_noted (s : State) (bit : Nat) : Noted s (s.event bit) := by
  have h : Noted s { s with eventCause := s.eventCause ||| 2 ^ bit } := rfl
  exact .ite (h.trans (State.sendVector_noted _ _)) h

theorem bumpSat_noted (p : State × List Key) (k : Key) (n : Nat) : Noted p.1 (bumpSat p k n).1 := rfl

theorem appendFault_noted (s : State) (r : BitVec 512) : Noted s (appendFault s r).1 := by
  unfold appendFault
  extract_lets p q
  have hp : Noted s p.1 := rfl
  clear_value p
  split
  · exact hp.trans rfl
  · exact (hp.trans (bumpSat_noted p _ _)).trans rfl

/-- A note counts, and appends its record and raises its event once in a window. -/
theorem appendNote_noted (s : State) (code : Nat) (a : FaultAt) : Noted s (appendNote s code a).1 := by
  unfold appendNote
  extract_lets p q
  have hp : Noted s p.1 := rfl
  clear_value p
  split
  · exact hp.trans (bumpSat_noted p _ _)
  · exact ((hp.trans (appendFault_noted _ _)).trans (State.event_noted _ 1)).trans rfl

/-- The notes of saturated counters are notes. -/
theorem noteSaturated_noted (n : Nat) (ks : List Key) (s : State) : Noted s (noteSaturated n ks s) := by
  induction n generalizing ks s with
  | zero => exact .refl s
  | succ n ih =>
    cases ks with
    | nil => exact .refl s
    | cons k ks => exact (appendNote_noted s _ _).trans (ih _ _)

theorem State.logRecord_noted (s : State) (r : BitVec 512) : Noted s (s.logRecord r) :=
  (appendFault_noted s r).trans (noteSaturated_noted _ _ _)

theorem State.note_noted (s : State) (code : Nat) (a : FaultAt) : Noted s (s.note code a) :=
  (appendNote_noted s code a).trans (noteSaturated_noted _ _ _)

theorem State.bump_noted (s : State) (k : Key) (n : Nat) : Noted s (s.bump k n) :=
  .ite ((s.bumpRaw_noted k n).trans (State.note_noted _ _ _)) (s.bumpRaw_noted k n)

theorem State.withdrawal_noted (s : State) (code : Nat) (a : FaultAt) : Noted s (s.withdrawal code a) := by
  unfold State.withdrawal
  extract_lets t
  have h : Noted s t := s.event_noted 0
  clear_value t
  split
  · exact h.trans (t.logRecord_noted _)
  · refine .ite (h.trans (t.logRecord_noted _)) ?_
    extract_lets u v
    have hu : Noted s u := ((h.trans (t.logRecord_noted _)).trans (State.setVal_noted _ _ _)).trans (State.setVal_noted _ _ _)
    have hv : Noted s v := hu.trans (u.bump_noted _ _)
    exact .ite hv (.ite (hv.trans (v.setStep_noted _ _)) (.ite hv (hv.trans (v.setVal_noted _ _))))

theorem State.raise_noted (s : State) (code : Nat) (a : FaultAt) : Noted s (s.raise code a) :=
  .ite (s.note_noted code a) (s.withdrawal_noted code a)

theorem State.coreFault_noted (s : State) (code c st handle detail : Nat) : Noted s (s.coreFault code c st handle detail) :=
  s.raise_noted _ _

theorem State.poisonFault_noted (s : State) (c st handle : Nat) : Noted s (s.poisonFault c st handle) := by
  unfold State.poisonFault
  split
  · exact .ite (.refl s) (s.coreFault_noted _ _ _ _ _)
  · exact s.coreFault_noted _ _ _ _ _

/-- A state that differs only in what faults and counters write, in the index of the next free value and in the cores. -/
def Counted (s t : State) : Prop := ∃ n m, Noted { s with tick := n, cores := m } t

theorem Counted.refl (s : State) : Counted s s := ⟨s.tick, s.cores, .refl s⟩

theorem Noted.counted {s t : State} (h : Noted s t) : Counted s t := ⟨s.tick, s.cores, h⟩

theorem Counted.trans {s t u : State} (h : Counted s t) (k : Counted t u) : Counted s u := by
  obtain ⟨_, _, h⟩ := h
  obtain ⟨n, m, k⟩ := k
  refine ⟨n, m, Eq.trans k ?_⟩
  rw [h]

theorem State.free_counted (s : State) (w : Nat) : Counted s (s.free w).2 := ⟨s.tick + 1, s.cores, .refl _⟩
theorem State.setCore_counted (s : State) (c : Nat) (k : Core) : Counted s (s.setCore c k) := ⟨s.tick, _, .refl _⟩

/-- A counter of cycles moves the index of the next free value and what counting writes. -/
theorem State.countCycles_counted (s : State) (k : Key) (on : Bool) : Counted s (s.countCycles k on) := by
  unfold State.countCycles
  split
  · exact (s.free_counted 32).trans (State.bump_noted _ _ _).counted
  · exact .refl s

/-- A starved core counts its cycles, and notes once a step. -/
theorem countStarved_counted (s : State) (c : Nat) : Counted s (countStarved s c) := by
  unfold countStarved
  split
  · exact .refl s
  · extract_lets f t st
    have ht : Counted s t := (s.free_counted 32).trans (State.bump_noted _ _ _).counted
    clear_value t
    split
    · exact ht
    · exact ht.trans (((t.setStep_noted _ _).trans (State.coreFault_noted _ _ _ _ _ _)).trans (State.bump_noted _ _ _)).counted

theorem State.multiplyRows_counted (s : State) (c : Nat) : Counted s (s.multiplyRows c) := by
  unfold State.multiplyRows
  extract_lets k
  split
  · exact .refl s
  · exact (s.free_counted 2).trans (State.setCore_counted _ _ _)

/-- Counting a core's cycles. -/
theorem State.countCore_counted (s : State) (c : Nat) : Counted s (s.countCore c) := by
  unfold State.countCore
  split
  · exact .refl s
  · exact ((((((((State.countCycles_counted s _ _).trans (State.countCycles_counted _ _ _)).trans
      (State.countCycles_counted _ _ _)).trans (State.countCycles_counted _ _ _)).trans (State.countCycles_counted _ _ _)).trans
      (State.countCycles_counted _ _ _)).trans (countStarved_counted _ _)).trans (State.multiplyRows_counted _ _))

/-- All that passing time touches in the cores: cycles counted, stationary banks freed, cycles ended. -/
theorem State.countWaits_counted (s : State) : Counted s s.countWaits := by
  have fold : ∀ (l : List Nat) (t : State), Counted s t →
      Counted s (l.foldl (fun s c => State.countCore (s.setCore c (s.core c).newCycle) c) t) := by
    intro l
    induction l with
    | nil => exact fun _ h => h
    | cons c l ih => exact fun t h => ih _ ((h.trans (t.setCore_counted _ _)).trans (State.countCore_counted _ _))
  exact (fold _ s (.refl s)).trans (State.countCycles_counted _ _ _)

theorem Noted.cores {s t : State} (h : Noted s t) : t.cores = s.cores := by rw [h]
theorem Noted.core {s t : State} (h : Noted s t) (c : Nat) : t.core c = s.core c := by rw [h]; rfl
theorem Noted.mem {s t : State} (h : Noted s t) : t.mem = s.mem := by rw [h]
theorem Noted.poison {s t : State} (h : Noted s t) : t.poison = s.poison := by rw [h]
theorem Noted.regions {s t : State} (h : Noted s t) : t.regions = s.regions := by rw [h]
theorem Noted.links {s t : State} (h : Noted s t) : t.links = s.links := by rw [h]
theorem Noted.queues {s t : State} (h : Noted s t) : t.queues = s.queues := by rw [h]
theorem Noted.pending {s t : State} (h : Noted s t) : t.pending = s.pending := by rw [h]
theorem Noted.increments {s t : State} (h : Noted s t) : t.increments = s.increments := by rw [h]
theorem Noted.sameMemory {s t : State} (h : Noted s t) : (∀ a, t.readByte a = s.readByte a) ∧ ∀ n, t.atomPoisoned n = s.atomPoisoned n := by
  rw [h]; exact ⟨fun _ => rfl, fun _ => rfl⟩

/-! ### Values that counting and notes leave alone -/

/-- A cell outside the counters of the fault log and notes, within the ranges of subindex and row. -/
def Unnoted (k : Key) : Prop := k.sub < 256 ∧ k.row < 65536 ∧ k.index ≠ 0x7000

theorem Unnoted.apart {k : Key} (h : Unnoted k) {sub row : Nat} (hs : sub < 256) (hr : row < 65536) :
    keyCode k ≠ keyCode ⟨0x7000, sub, row⟩ := by
  obtain ⟨h1, h2, h3⟩ := h
  simp only [keyCode]
  omega

theorem bumpSat_val {k' k : Key} (h : keyCode k' ≠ keyCode k) (p : State × List Key) (n : Nat) :
    (bumpSat p k n).1.val k' = p.1.val k' := State.val_setVal_other _ _ h

theorem appendFault_val {k' : Key} (h : Unnoted k') (s : State) (r : BitVec 512) : (appendFault s r).1.val k' = s.val k' := by
  unfold appendFault
  extract_lets p q
  have hp : p.1.val k' = s.val k' := bumpSat_val (h.apart (by decide) (by decide)) _ _
  split
  · exact hp
  · exact (bumpSat_val (h.apart (by decide) (by decide)) p _).trans hp

theorem State.event_val (s : State) (bit : Nat) (k : Key) : (s.event bit).val k = s.val k := by
  unfold State.event State.sendVector
  extract_lets
  split
  · split
    · split <;> rfl
    · rfl
  · rfl

theorem appendNote_val {k' : Key} (h : Unnoted k') (s : State) (code : Nat) (a : FaultAt) : (appendNote s code a).1.val k' = s.val k' := by
  unfold appendNote
  extract_lets p q
  have hp : p.1.val k' = s.val k' := bumpSat_val (h.apart (by decide) (by omega)) _ _
  split
  · exact (bumpSat_val (h.apart (by decide) (by decide)) p _).trans hp
  · exact ((State.event_val _ _ _).trans (appendFault_val h _ _)).trans hp

theorem noteSaturated_val {k' : Key} (h : Unnoted k') (n : Nat) (ks : List Key) (s : State) :
    (noteSaturated n ks s).val k' = s.val k' := by
  induction n generalizing ks s with
  | zero => rfl
  | succ n ih =>
    cases ks with
    | nil => rfl
    | cons k ks => exact (ih _ _).trans (appendNote_val h s _ _)

/-- A note moves only the counters of notes and of the fault log. -/
theorem State.note_val {k' : Key} (h : Unnoted k') (s : State) (code : Nat) (a : FaultAt) : (s.note code a).val k' = s.val k' :=
  (noteSaturated_val h _ _ _).trans (appendNote_val h s code a)

/-- A counter moves no other cell, those of the note that it may raise apart. -/
theorem State.bump_val {k' k : Key} (h : Unnoted k') (hk : keyCode k' ≠ keyCode k) (s : State) (n : Nat) :
    (s.bump k n).val k' = s.val k' := by
  unfold State.bump
  extract_lets p
  have hp : p.1.val k' = s.val k' := State.val_setVal_other _ _ hk
  split
  · exact (State.note_val h _ _ _).trans hp
  · exact hp

/-! ### Requests at the memories -/

/-- A state that differs only in what presenting requests touches: the requests, the tokens, the index of the next free value, and
what counting writes. -/
def Presented (s t : State) : Prop := ∃ h w n k, Noted { s with hbm := h, hbmWaiting := w, tick := n, nextToken := k } t

theorem Presented.refl (s : State) : Presented s s := ⟨s.hbm, s.hbmWaiting, s.tick, s.nextToken, .refl s⟩

theorem Presented.trans {s t u : State} (h : Presented s t) (k : Presented t u) : Presented s u := by
  obtain ⟨_, _, _, _, h⟩ := h
  obtain ⟨a, b, c, d, k⟩ := k
  refine ⟨a, b, c, d, Eq.trans k ?_⟩
  rw [h]

theorem Noted.presented {s t : State} (h : Noted s t) : Presented s t := ⟨s.hbm, s.hbmWaiting, s.tick, s.nextToken, h⟩

theorem spanRequests_presented (who : HbmRequester) (crown token a : Nat) (data : Option (List Byte)) (ps : List (Nat × Nat))
    (s : State) : Presented s (spanRequests who crown token a data ps s).2 := by
  induction ps generalizing s with
  | nil => exact .refl s
  | cons p ps ih =>
    unfold spanRequests
    extract_lets f r
    refine Presented.trans ?_ (ih f.2)
    show Presented s (if requesterCount who = 1 then (0, s) else s.free 3).2
    split
    · exact .refl s
    · exact ⟨s.hbm, s.hbmWaiting, s.tick + 1, s.nextToken, .refl _⟩

theorem State.seatRequests_presented (s : State) (held waiting : List HbmReq) : Presented s (s.seatRequests held waiting) := by
  have fold : ∀ (l : List HbmReq) (t : State), Presented s t →
      Presented s (l.foldl (fun s q => s.bump (stackKey (hbmPlace q.addr).stack 9) 1) t) := by
    intro l
    induction l with
    | nil => exact fun _ h => h
    | cons q l ih => exact fun t h => ih _ (h.trans (t.bump_noted _ _).presented)
  exact fold _ _ ⟨_, _, s.tick, s.nextToken, .refl _⟩

/-- All that presenting requests touches. -/
theorem State.request_presented (s : State) (who : HbmRequester) (crown token a n : Nat) (data : Option (List Byte)) :
    Presented s (s.request who crown token a n data) :=
  (spanRequests_presented _ _ _ _ _ _ s).trans (State.seatRequests_presented _ _ _)

theorem State.requestAlone_presented (s : State) (who : HbmRequester) (crown a n : Nat) (data : Option (List Byte)) :
    Presented s (s.requestAlone who crown a n data) :=
  Presented.trans ⟨s.hbm, s.hbmWaiting, s.tick, s.nextToken + 1, .refl _⟩ (State.request_presented _ _ _ _ _ _ _)

theorem State.firmwareReads_presented (s : State) (a n : Nat) : Presented s (s.firmwareReads a n) :=
  s.requestAlone_presented _ _ _ _ _

theorem Presented.mem {s t : State} (h : Presented s t) : t.mem = s.mem := by obtain ⟨_, _, _, _, h⟩ := h; rw [h]
theorem Presented.poison {s t : State} (h : Presented s t) : t.poison = s.poison := by obtain ⟨_, _, _, _, h⟩ := h; rw [h]
theorem Presented.cores {s t : State} (h : Presented s t) : t.cores = s.cores := by obtain ⟨_, _, _, _, h⟩ := h; rw [h]
theorem Presented.regions {s t : State} (h : Presented s t) : t.regions = s.regions := by obtain ⟨_, _, _, _, h⟩ := h; rw [h]
theorem Presented.links {s t : State} (h : Presented s t) : t.links = s.links := by obtain ⟨_, _, _, _, h⟩ := h; rw [h]
theorem Presented.queues {s t : State} (h : Presented s t) : t.queues = s.queues := by obtain ⟨_, _, _, _, h⟩ := h; rw [h]
theorem Presented.schedules {s t : State} (h : Presented s t) : t.schedules = s.schedules := by obtain ⟨_, _, _, _, h⟩ := h; rw [h]
theorem Presented.routes {s t : State} (h : Presented s t) : t.routes = s.routes := by obtain ⟨_, _, _, _, h⟩ := h; rw [h]

/-! ### Dictionary SETs -/

theorem State.dictSet_ok {s t : State} {rq : Rq} {index sub : Nat} {body : State → SetResult} (h : admits s rq index sub)
    (e : body s = .ok t) : .next (s.dictSet rq index sub body) = setDone t rq index sub := by
  simp [State.dictSet, setDone, h.1, h.2, e]

theorem State.dictSet_refuse {s : State} {rq : Rq} {index sub st d : Nat} {body : State → SetResult} (h : admits s rq index sub)
    (e : body s = .refuse st d) : .next (s.dictSet rq index sub body) = setRefused s rq index sub st d := by
  simp [State.dictSet, setRefused, h.1, h.2, e]

theorem State.dictSet_refuseIn {s t : State} {rq : Rq} {index sub st d : Nat} {body : State → SetResult}
    (h : admits s rq index sub) (e : body s = .refuseIn t st d) :
    .next (s.dictSet rq index sub body) = setRefused t rq index sub st d := by
  simp [State.dictSet, setRefused, h.1, h.2, e]

/-- The common checks turn a SET away. -/
theorem State.dictSet_denied {s : State} {rq : Rq} {index sub st d : Nat} (body : State → SetResult) (h : s.reachable = true)
    (e : setRefusal s rq index sub = some (st, d)) :
    .next (s.dictSet rq index sub body) = setRefused s rq index sub st d := by
  simp [State.dictSet, setRefused, h, e]

theorem State.dictSet_unreachable {s : State} {rq : Rq} {index sub : Nat} {body : State → SetResult} (h : s.reachable = false) :
    s.dictSet rq index sub body = s := by
  simp [State.dictSet, h]

/-! ### Control words and station heads -/

theorem ctlStep_ready {s : State} {c op : Nat} {w : QWord} {body : State → QWord → State} (h : ctlReady s c op w)
    (hk : ctlKnown op = true) : ctlStep s c op body = body s w := by
  obtain ⟨h1, h2, h3, h4, h5, h6⟩ := h
  simp [ctlStep, h1, h2, h3, h4, h5, h6, hk]

/-- A core that is stopped or without a clock takes no control word. -/
theorem ctlStep_idle {s : State} {c op : Nat} {body : State → QWord → State}
    (h : (s.core c).ctl.running = false ∨ s.clocked c = false) : ctlStep s c op body = s := by
  rcases h with h | h <;> simp [ctlStep, h]

/-- What becomes of an instruction that the issue rule lets through is what its own part says. -/
theorem issueStation_mayIssue {s : State} {c st op : Nat} {i : StationInsn} {f : Form} {body : State → StationInsn → Nat → Issue}
    (h : mayIssue s c st op i f) : issueStation s c st op body =
      match body s i s.nextToken with
      | .stall => s
      | .refuse code h d => refuseHead (s.coreFault code c st h d) c st i
      | .go r t => issued { t with nextToken := s.nextToken + 1 } (s.core c) c st i f r := by
  obtain ⟨⟨h1, h2, h3, h4⟩, h5, h6, h7, h8, h9, h10⟩ := h
  obtain ⟨l, hl⟩ : ∃ l, (s.core c).queue st = i :: l := by
    cases hq : (s.core c).queue st with
    | nil => rw [hq] at h3; simp at h3
    | cons x l => rw [hq] at h3; simp at h3; exact ⟨l, by rw [h3]⟩
  have h9' : (((inputHandles i.w0 f).map (·.1)) ++ scaleHandles (s.core c) i.w0 ((inputHandles i.w0 f).map (·.1))).all
      (inputPresent ((s.core c).cycleFor st)) = true := List.all_eq_true.mpr h9
  have h10' : (!f.out || outputFree (s.core c) (iH0 i.w0)) = true := by
    cases hf : f.out
    · rfl
    · simp [(h10 hf).1]
  have h11' : (f.out && lowerClaims s c st (iH0 i.w0)) = false := by
    cases hf : f.out
    · rfl
    · simp [(h10 hf).2]
  have h8' : decide (stationLimit st ≤ inFlightCount (s.core c) st) = false := decide_eq_false (by omega)
  simp only [issueStation, hl, h1, h2, h4, h5, h6, h7, h8', h9', h10', h11', bne_self_eq_false, Bool.not_true, Bool.or_self,
    Bool.and_false, Bool.false_and, Bool.false_eq_true, if_false]
  cases body s i s.nextToken <;> rfl

/-- An instruction waits at the head of a core without a clock, and another opcode's command leaves it there. -/
theorem issueStation_waits {s : State} {c st op : Nat} {i : StationInsn} {body : State → StationInsn → Nat → Issue}
    (h : ((s.core c).queue st).head? = some i) (hw : s.issues c = false ∨ iOpcode i.w0 ≠ op) : issueStation s c st op body = s := by
  obtain ⟨l, hl⟩ : ∃ l, (s.core c).queue st = i :: l := by
    cases hq : (s.core c).queue st with
    | nil => rw [hq] at h; simp at h
    | cons x l => rw [hq] at h; simp at h; exact ⟨l, by rw [h]⟩
  rcases hw with hw | hw <;> simp [issueStation, hl, hw]

/-- An empty queue issues nothing. -/
theorem issueStation_empty {s : State} {c st op : Nat} {body : State → StationInsn → Nat → Issue}
    (h : (s.core c).queue st = []) : issueStation s c st op body = s := by
  simp [issueStation, h]

end Sys2Proof.Machine
end

