-- ==== Sys2Proof/WellFormed.lean ====
section
/-! DEFINITION. Well-formed commands: the lengths and ranges that the wire or the pins give their operands. A command that is
not well formed cannot arrive; its meaning is total all the same. -/
namespace Sys2Proof

/-- A packet carries the payload that its header announces, at most 4,096 bytes (R270, R271). -/
def pktOk (p : Pkt) : Bool := p.payload.length == p.length.toNat && decide (p.length.toNat ≤ 4096)

/-- A window sample has every crown, cluster and sensor (R418, R421, R422). -/
def windowOk (w : WindowSample) : Bool :=
  w.crownMeasured.length == 4 && w.portTraffic.length == 32 && w.matWaits.length == 32 && w.vecWaits.length == 32 && w.crownTemps.length == 4 &&
    w.crownTemps.all (fun t => t.length == 16) && w.bandTemps.length == 8 && w.stackTemps.length == 32 && w.engineTemps.length == 16

/-- A sensor that exists (R418): 16 of each crown, 8 of the band, one of each stack and engine. -/
def sensorOk (sn : Sensor) : Bool :=
  match sn.kind with
  | .crown => decide (sn.number.toNat < 64)
  | .band => decide (sn.number.toNat < 8)
  | .stack => decide (sn.number.toNat < 32)
  | .engine => decide (sn.number.toNat < 16)

/-- A BAR2 access moves 1 to 4,096 bytes. -/
def bar2Ok : Bar2Op → Bool
  | .read n => decide (1 ≤ n) && decide (n ≤ 4096)
  | .write d => decide (1 ≤ d.length) && decide (d.length ≤ 4096)

/-- Whether a command is well formed. -/
def Instr.wellFormed : Instr → Bool
  | .dispatchTimeout _ row _ => decide (2 ≤ row) && decide (row ≤ 4)
  | .syncSignalArrive _ pkt => pktOk pkt
  | .syncTriggerArrive _ pkt => pktOk pkt
  | .semSet _ data => data.length == 12
  | .boltReceive _ b => b.bytes.length == 512
  | .withdrawnBoltReceive _ b => b.bytes.length == 512
  | .creditReceive _ _ units => decide (1 ≤ units.length) && decide (units.length ≤ 7)
  | .sackReceive _ _ ranges => decide (ranges.length ≤ 6)
  | .hs1Receive _ msg => msg.length == 3136
  | .hs2Receive _ msg => msg.length == 3136
  | .confirmReceive _ msg => msg.length == 16
  | .rk1Receive _ _ msg => msg.length == 1568
  | .rk2Receive _ _ msg => msg.length == 1568
  | .packetSwitch _ pkt => pktOk pkt
  | .dataPacketArrive _ pkt => pktOk pkt
  | .deliveryReceive _ pkt => pktOk pkt
  | .withdrawReceive _ pkt => pktOk pkt
  | .mgmtPacketReceive _ pkt => pktOk pkt
  | .diagPacketReceive _ pkt => pktOk pkt
  | .replayArm _ _ record => record.length == 64
  | .regionCreate _ desc => desc.length == 32
  | .powerWindow w => windowOk w
  | .thermTrip sn => sensorOk sn
  | .ownerKeyAdd _ digest => digest.length == 64
  | .peerKeyDigestSet _ table => table.length == 2048
  | .challenge _ nonce => nonce.length == 32
  | .getMeasurements _ _ nonce => nonce.isEmpty || nonce.length == 32
  | .maintClaim _ claim => claim.length == 29860
  | .sqTailDoorbell _ _ entries => entries.all fun e => e.length == 64
  | .bar2Access _ op => bar2Ok op
  | .bar0RegisterWrite _ bytes _ => decide (1 ≤ bytes) && decide (bytes ≤ 8)
  | .powerUpTimeout step _ => decide (2 ≤ step) && decide (step ≤ 9) && step != 5
  | .nop _ _ | .wait _ _ | .waitsub _ _ | .loadImg _ | .loadRaw _ | .storeImg _ | .storeRaw _ | .send _ | .recv _
   | .mmaF8 _ | .mmaF8h _ | .mmaB16 _ | .mmaF6 _ | .mmaF4 _ | .mmaI8 _ | .mmaF8S24 _ | .mmaF4S24 _ | .mmaF8Split _
   | .mmaMax _ | .mmaMin _ | .vecEpi _ | .vecAdd _ | .vecSub _ | .vecMul _ | .vecFma _ | .vecMax _ | .vecMin _
   | .vecCmp _ | .vecSel _ | .vecUnary _ | .vecPerm _ | .vecShuf _ | .vecPack _ | .vecUnpack _ | .vecRed _
   | .vecTopk _ | .vecColcount _ | .vecCompact _ | .vecStat _ | .vecHist _ | .vecRng _ | .vecRope _ | .vecScatter _
   | .sigAdd _ | .sigRemote _ | .sigTrigger _ | .sigRouteswap _ | .sigAcount _ | .sigWatch _ | .watchCompare _
   | .insnComplete _ _ | .cnop _ | .ctlEnd _ | .hintPhase _ | .ctlAdd _ | .ctlSub _ | .ctlMul _ | .ctlAnd _ | .ctlOr _
   | .ctlXor _ | .ctlShl _ | .ctlShr _ | .ctlSra _ | .sltu _ | .slt _ | .beq _ | .bne _ | .bltu _ | .bgeu _ | .blt _
   | .bge _ | .jump _ | .loop _ | .sumpop _ | .sumcount _ | .ctld _ | .push _ | .bind _ | .unbind _ | .trigger _ _
   | .stepDispatch _ | .stepEnd _ | .stepRecordWrite _ | .pfCreditTake _ _ | .pfChunkIssue _ _ | .pfChunkLand _ _
   | .hbmRequestDone _ _ _ | .patrolScrub _ _ _ _ | .semIncrementArrive _ _ _ | .heldSignalApply _ _
   | .quarantineExpire _ _ | .hangTimeout _ | .portBringupAdvance _ | .portTrainTimeout _ | .portRetrain _
   | .laserMeasure _ _ _ _ _ | .napReceive _ _ | .nakReceive _ _ | .probeReceive _ _ | .helloReceive _ _
   | .gapReceive _ _ | .keyPhaseChange _ | .linkRekeyTimeout _ | .napSend _ | .probeSend _ | .napTimeout _
   | .retransmitTimeout _ _ | .sackResend _ | .escapeTimeout _ _ | .packetDepart _ | .tileLanded _ _ _ _
   | .codecBlockDone _ _ | .deadlineTx _ _ | .deadlineIncomplete _ _ _ | .scheduleLoad _ _ | .admitTerms _ _ _
   | .admitFit _ _ | .admitNofit _ _ _ _ | .admitAbort _ _ | .admitTimeout _ | .scheduleRelease _ _ | .routeLoad _ _
   | .routeCheckDone | .routeSwap _ _ | .epochPrepare _ _ _ | .epochDrained _ | .epochDrainTimeout _
   | .epochCommit _ _ _ | .collRegister _ _ | .collRelease _ _ | .ringRegister _ _ | .ringRelease _ _
   | .contextRegister _ _ | .contextRelease _ _ | .mapRegister _ _ _ | .stepAlign _ _ _ | .replayDisarm _ _ _
   | .regionDestroy _ _ | .scrubComplete _ | .coreMaskSet _ _ _ | .domainStateWrite _ _ _ | .domainSwitchOnDone _
   | .domainSwitchFail _ | .functionDrained _ | .portEnableWrite _ _ _ | .portCloseDone _ | .coreEnableWrite _ _
   | .jsStateWrite _ _ _ | .jsLockWrite _ _ _ | .withdrawStep _ _ _ | .counterClear _ _ | .faultLogClear _ _
   | .capWSet _ _ | .capForce _ _ | .clockModeSet _ _ | .opChangeDone _ | .droopDetect _ | .droopRecovery _ _
   | .regFault _ | .clockLoss _ | .watchdog | .mgmtWatchdog | .liningAlarm _ | .doffWithdrawnEnd | .doffIdleEnd
   | .zeroise _ _ | .enrol _ _ | .retire _ _ | .ownerKeyRevoke _ _ | .rollbackCommit _ _ | .fwStage _ _ | .fwStageDone
   | .bootBankNextSet _ _ | .getVersion _ | .getCapabilities _ | .negotiateAlgorithms _ _ | .getDigests _
   | .getCertificate _ _ _ | .chunkSend _ _ _ _ _ | .chunkGet _ _ _ | .get _ _ _ _ | .set _ _ _ _ _ _
   | .getRange _ _ _ _ _ | .subscribe _ _ _ _ _ _ _ | .unsubscribe _ _ | .subscriptionSample | .getEndpointId _
   | .setEndpointId _ _ | .getMctpVersionSupport _ _ | .getMessageTypeSupport _ | .getVendorMessageSupport _ _
   | .maintNonce _ | .maintNonceExpire _ | .maintRelease _ _ | .maintIdleTimeout | .stateRequest _ _ | .reset _ _
   | .resetDelayExpire | .jsDoorbell _ _ | .cqHeadDoorbell _ _ | .qcfgEnableSet _ _ | .qcfgEnableClear _ _
   | .hostNop _ | .copyIn _ | .copyOut _ | .hostTrigger _ | .copyComplete _ _ _ _ | .windowEntryWrite _ _
   | .eventCauseW1c _ | .windowMissesRead | .windowRefusalsRead | .bar2Resize _ | .busMasterEnable _
   | .functionLevelReset | .hotReset | .d3hotEntry | .d3hotExit | .perstNAssert | .perstNRelease | .inputPowerOn _
   | .inputPowerOff | .mrstNAssert | .mrstNRelease _ | .flOwnNChange _ _ _ | .acceptanceWindowClose _
   | .scheduleLocalChecks _ | .inFlightBudgetExpire _ _ _ | .pcieLinkUp | .entdaa _ | .signingComplete
   | .msixIntervalExpire _ => true

end Sys2Proof
end

