-- ==== Sys2Proof/Tests/Slice0.lean ====
section
/-! SUPPORT. Tests: ill-formed commands are refused by the well-formedness check; the premises of every statement are met by a
concrete state; single steps give what the spec's rules give by hand. -/
namespace Sys2Proof.Tests
set_option maxRecDepth 1000
set_option Elab.async false
open Sys2Proof Sys2Proof.Machine

/-- A requester on the PCI Express transport. -/
def tRq : Rq := { who := { transport := .pcieVdm, eid := 9, srcModule := 0 } }
/-- A packet that announces two bytes and carries one. -/
def tShortPkt : Pkt := { dst := 1, src := 2, vc := 4, origVc := 4, kind := 0, js := 0, length := 2, payload := [9] }

/-! ### Well-formedness: an ill-formed term for each check -/

theorem test_wf_dispatchTimeout : (.dispatchTimeout 0 5 [] : Instr).wellFormed = false := by decide
theorem test_wf_syncSignalArrive : (.syncSignalArrive 0 tShortPkt : Instr).wellFormed = false := by decide
theorem test_wf_syncTriggerArrive : (.syncTriggerArrive 0 tShortPkt : Instr).wellFormed = false := by decide
theorem test_wf_dataPacketArrive : (.dataPacketArrive 0 tShortPkt : Instr).wellFormed = false := by decide
theorem test_wf_deliveryReceive : (.deliveryReceive 0 tShortPkt : Instr).wellFormed = false := by decide
theorem test_wf_withdrawReceive : (.withdrawReceive 0 tShortPkt : Instr).wellFormed = false := by decide
theorem test_wf_mgmtPacketReceive : (.mgmtPacketReceive 0 tShortPkt : Instr).wellFormed = false := by decide
theorem test_wf_diagPacketReceive : (.diagPacketReceive 0 tShortPkt : Instr).wellFormed = false := by decide
theorem test_wf_packetSwitch : (.packetSwitch none tShortPkt : Instr).wellFormed = false := by decide
theorem test_wf_semSet : (.semSet tRq (List.replicate 11 0) : Instr).wellFormed = false := by decide
theorem test_wf_boltReceive : (.boltReceive 0 ⟨true, (List.replicate 3 0), 0⟩ : Instr).wellFormed = false := by decide
theorem test_wf_withdrawnBoltReceive : (.withdrawnBoltReceive 0 ⟨true, [], 0⟩ : Instr).wellFormed = false := by decide
theorem test_wf_creditReceive : (.creditReceive 0 4 [] : Instr).wellFormed = false := by decide
theorem test_wf_sackReceive : (.sackReceive 0 0 (List.replicate 7 ⟨0, 0⟩) : Instr).wellFormed = false := by decide
theorem test_wf_hs1Receive : (.hs1Receive 0 [1] : Instr).wellFormed = false := by decide
theorem test_wf_hs2Receive : (.hs2Receive 0 [1] : Instr).wellFormed = false := by decide
theorem test_wf_confirmReceive : (.confirmReceive 0 (List.replicate 15 0) : Instr).wellFormed = false := by decide
theorem test_wf_rk1Receive : (.rk1Receive 0 1 [2] : Instr).wellFormed = false := by decide
theorem test_wf_rk2Receive : (.rk2Receive 0 1 [2] : Instr).wellFormed = false := by decide
theorem test_wf_replayArm : (.replayArm tRq 0 (List.replicate 63 0) : Instr).wellFormed = false := by decide
theorem test_wf_regionCreate : (.regionCreate tRq (List.replicate 31 0) : Instr).wellFormed = false := by decide
theorem test_wf_powerWindow : (.powerWindow ⟨0, 48000, [1, 2, 3], [], [], [], [], [], [], []⟩ : Instr).wellFormed = false := by decide
theorem test_wf_thermTrip : (.thermTrip ⟨.engine, 16⟩ : Instr).wellFormed = false := by decide
theorem test_wf_ownerKeyAdd : (.ownerKeyAdd tRq [7] : Instr).wellFormed = false := by decide
theorem test_wf_peerKeyDigestSet : (.peerKeyDigestSet tRq [7] : Instr).wellFormed = false := by decide
theorem test_wf_challenge : (.challenge tRq.who (List.replicate 31 0) : Instr).wellFormed = false := by decide
theorem test_wf_getMeasurements : (.getMeasurements tRq.who 1 (List.replicate 33 0) : Instr).wellFormed = false := by decide
theorem test_wf_maintClaim : (.maintClaim tRq [1, 2] : Instr).wellFormed = false := by decide
theorem test_wf_sqTailDoorbell : (.sqTailDoorbell 0 1 [(List.replicate 63 0)] : Instr).wellFormed = false := by decide
theorem test_wf_bar2Access : (.bar2Access 0 (.read 4097) : Instr).wellFormed = false := by decide
theorem test_wf_bar0RegisterWrite : (.bar0RegisterWrite 0x14 9 0 : Instr).wellFormed = false := by decide
theorem test_wf_powerUpTimeout : (.powerUpTimeout 5 0 : Instr).wellFormed = false := by decide
theorem test_wf_good_pkt : (.dataPacketArrive 0 { tShortPkt with payload := [9, 9] } : Instr).wellFormed = true := by decide
theorem test_wf_good_nonce : (.getMeasurements tRq.who 1 [] : Instr).wellFormed = true := by decide

/-! ### The premises of the statements are met: control core -/

/-- The reset state with cluster domain 0 ON and core 0, enabled and in job stream 0, holding core `k`. -/
def tCore (k : Core) : State :=
  (((State.reset.setDomain 0 1).setVal ⟨0x9010, 2, 0⟩ 1).setVal ⟨0x5001, 1, 0⟩ 1).setCore 0 k
/-- Core 0 running a control stream, with x1 = 3. -/
def tCtl (ws : List QWord) (k : Core := {}) : State :=
  tCore { k with ctl := { running := true, stream := ws, regs := [(1, 3)] } }
/-- A control word. -/
def tW (op rd ra rb imm : Nat) : QWord := BitVec.ofNat 128 (op * 2 ^ 120 + rd * 2 ^ 115 + ra * 2 ^ 110 + rb * 2 ^ 105 + imm)
/-- A bound tile table entry. -/
def tTte (st : TileState) (base : Nat) : TileEntry :=
  { state := st, bound := true, base := BitVec.ofNat 15 base, capacity := 3, releases := 2 }
/-- A core with tile 1 PRESENT, its header at granule 0 all zero, and a summary. -/
def tTiled : Core := { ttes := [(1, tTte .present 0)], summaries := [⟨5, 6, 7, true⟩] }

/-! ### Single steps and operations, with the results of the spec's worked examples -/

/-- The published check value of CRC-32C, over the digits 1 to 9. -/
theorem test_crc32c_digits : crc32c ((List.range' 0x31 9).map (BitVec.ofNat 8)) = 0xE3069283 := by decide +kernel
/-- The address of 07_memory.md:32: pseudo-channel S8.0.1, bank 1, row 0x48D. -/
theorem test_hbmPlace_example : hbmPlace 0x3123456600 = ⟨8, 1, 1, 0x48D⟩ := by decide +kernel
/-- The block of 13_fulling.md:63: 31/512, -95/4096, 1/256 and 3/256 with 28 zeros have X = 0x90 and codes 7, -3, 0, 2. -/
theorem test_fullEncode_example :
    fullEncode 0x10 (fun _ => .nearest)
        ([.fin false 31 1 (-9), .fin true 95 1 (-12), .fin false 1 1 (-8), .fin false 3 1 (-8)] ++
          List.replicate 28 (.fin false 0 1 0)) =
      { x := 0x90, codes := [7, 13, 0, 2] ++ List.replicate 28 0 } := by decide +kernel
/-- R138: the largest E4M3 value is 448 = 14 × 2^5, and its code 0x7F is NaN. -/
theorem test_e4m3_largest : fmtDecode fmtE4m3 0x7E = .fin false 14 1 5 ∧ fmtDecode fmtE4m3 0x7F = .nan := by decide +kernel
/-- The location of 16_faults.md:224: core C2.40, station 2, handle 0x043. -/
theorem test_faultLocation_example :
    (coreFaultAt State.reset 168 2 0x43 0).location = 0x432A8 ∧ (coreFaultAt State.reset 168 2 0x43 0).instanceNo = 2 := by decide +kernel
/-- R129: SUB x2 = x0 - x1 with x1 = 3 wraps. -/
theorem test_ctlSub_wraps : (match exec (.ctlSub 0) (tCtl [tW 0x11 2 0 1 0, 0]) with
    | .next t => (t.core 0).reg 2 == 0xFFFFFFFFFFFFFFFD && (t.core 0).reg 1 == 3
    | _ => false) = true := by decide +kernel

/-! ### The premises of the statements are met, command by command -/

theorem witness_StepRunsFrontCommand :
    ({ State.reset with pending := [.ctlEnd 0] } : State).pending = .ctlEnd 0 :: [] ∧ State.reset.pending = [] ∧ State.reset.cores = [] ∧
      State.reset.codec = [] := by decide

theorem witness_ControlArithmetic : ((tCtl [tW 0x10 1 2 3 5, 0]).core 0).hasNext ∧
    ∀ op ∈ List.range' 0x10 11, ctlReady (tCtl [tW op 31 1 2 5, 0]) 0 op (tW op 31 1 2 5) := by
  unfold Core.hasNext ctlReady; decide +kernel

theorem witness_ControlRegisters : (31 : Nat) ≠ 0 ∧ (0 : Nat) ≠ 31 := by decide

/-- Each branch taken to the last word and not taken, JUMP, LOOP both ways, CNOP, END. -/
theorem witness_ControlFlow : ((tCtl [0, 0]).core 0).hasNext ∧ ((tCtl [0, 0]).core 0).reg 1 = 3 ∧
    (∀ op ∈ List.range' 0x20 6, ∀ ra ∈ [0, 1], ∀ rb ∈ [0, 1],
      ctlReady (tCtl [tW op 0 ra rb 1, 0]) 0 op (tW op 0 ra rb 1) ∧ cImm (tW op 0 ra rb 1) < 2) ∧
    ctlReady (tCtl [tW 0x26 0 0 0 1, 0]) 0 0x26 (tW 0x26 0 0 0 1) ∧ cImm (tW 0x26 0 0 0 1) < 2 ∧
    ctlReady (tCtl [tW 0x27 0 1 0 1, 0]) 0 0x27 (tW 0x27 0 1 0 1) ∧ (3 : DWord) - 1 ≠ 0 ∧
    ctlReady ((tCtl [tW 0x27 0 1 0 1, 0]).setCore 0 (((tCtl [tW 0x27 0 1 0 1, 0]).core 0).setReg 1 1)) 0 0x27 (tW 0x27 0 1 0 1) ∧
    ctlReady (tCtl [0, 0]) 0 0 0 ∧ ctlReady (tCtl [tW 1 0 0 0 0]) 0 1 (tW 1 0 0 0 0) := by
  unfold Core.hasNext ctlReady; decide +kernel

theorem witness_HintPhaseSetsClusterPhase :
    ctlReady (tCtl [tW 2 0 0 0 0xFFF, 0]) 0 2 (tW 2 0 0 0 0xFFF) ∧ ((tCtl [tW 2 0 0 0 0xFFF, 0]).core 0).hasNext := by
  unfold Core.hasNext ctlReady; decide +kernel

theorem witness_ControlReads :
    let ctld := tW 0x38 31 0 0 (2 ^ 52 + 248)
    (((tCtl [0, 0] tTiled).core 0).hasNext ∧ ((tCtl [0, 0] tTiled).core 0).summaries = [⟨5, 6, 7, true⟩]) ∧
    ctlReady (tCtl [tW 0x30 31 30 0 0, 0] tTiled) 0 0x30 (tW 0x30 31 30 0 0) ∧
    ctlReady (tCtl [tW 0x31 31 0 0 0, 0] tTiled) 0 0x31 (tW 0x31 31 0 0 0) ∧
    ctlReady (tCtl [ctld, 0] tTiled) 0 0x38 ctld ∧ (tTiled.tte 1).state = .present ∧
    248 + 8 ≤ (readTile tTiled 1).payload.length := by
  unfold Core.hasNext ctlReady; decide +kernel

/-- BIND at the highest base that a tile of capacity 255 can have. -/
theorem witness_BindAndUnbind :
    let bind := tW 0x48 0 0 0 (4095 * 2 ^ 52 + 7 * 2 ^ 23 + 255 * 2 ^ 15 + (24576 - 257))
    let unbind := tW 0x49 0 0 0 (4095 * 2 ^ 52)
    ((tCtl [0, 0]).core 0).hasNext ∧ ctlReady (tCtl [bind, 0]) 0 0x48 bind ∧ ((tCtl [bind, 0]).core 0 |>.tte 4095).state = .free ∧
    getf bind 0 15 + getf bind 15 8 + 2 ≤ 24576 ∧ getf bind 23 3 ≠ 0 ∧ ctlReady (tCtl [unbind, 0]) 0 0x49 unbind := by
  unfold Core.hasNext ctlReady; decide +kernel

/-- PUSH to station `st` of `n` words with both patches of x1, at `lsb`, of a width. -/
def tPush (st n lsb width : Nat) : QWord :=
  tW 0x40 0 0 0 (st * 2 ^ 116 + 2 ^ 111 + lsb * 2 ^ 104 + width * 2 ^ 98 + 2 ^ 93 + lsb * 2 ^ 86 + width * 2 ^ 80 + n * 2 ^ 64) - tW 0x40 0 0 0 0
    + tW 0x40 0 0 0 0

theorem witness_PushPatchesItsTemplate :
    ctlReady (tCtl [tPush 6 2 68 48, 0, 0, 0]) 0 0x40 (tPush 6 2 68 48) ∧ ctlReady (tCtl [tPush 0 1 68 48, 0, 0]) 0 0x40 (tPush 0 1 68 48) ∧
    ctlReady (tCtl [tPush 0 1 69 48, 0, 0]) 0 0x40 (tPush 0 1 69 48) ∧
    getf (tPush 6 2 68 48) 116 4 < 7 ∧ getf (tPush 6 2 68 48) 64 2 = 2 ∧ ((tCtl [tPush 6 2 68 48, 0, 0, 0]).core 0).ctl.stream[2]?.isSome ∧
    patchBad 68 48 = false ∧ patchBad 69 48 = true ∧ patchBad 0 49 = true ∧ patchBad 115 1 = false ∧ (48 : Nat) ≠ 0 := by
  unfold ctlReady; decide +kernel

theorem witness_MalformedControlWordEndsStream :
    let bad := tW 0x10 0 0 0 (2 ^ 64)
    let f := tCtl [bad, 0]
    ((f.core 0).ctl.running = true ∧ f.clocked 0 = true ∧ f.coreDisabled 0 = false ∧ (f.core 0).ctl.stream[0]? = some bad ∧
      cOpcode bad = 0x10 ∧ ctlFieldsOk bad = false) ∧
    ctlReady (tCtl [tW 0x26 0 0 0 1]) 0 0x26 (tW 0x26 0 0 0 1) ∧ ((tCtl [tW 0x26 0 0 0 1]).core 0).ctl.stream.length ≤ 1 ∧
    ctlReady (tCtl [tW 0x38 0 0 0 7, 0]) 0 0x38 (tW 0x38 0 0 0 7) ∧ (7 : DWord).toNat % 8 ≠ 0 ∧
    ctlReady (tCtl [tPush 7 1 0 0, 0]) 0 0x40 (tPush 7 1 0 0) ∧ 7 ≤ getf (tPush 7 1 0 0) 116 4 := by
  unfold ctlReady; decide +kernel

/-! ### Stations -/

/-- A station instruction word. -/
def tI (op st h0 h1 h2 h3 rest : Nat) : QWord :=
  BitVec.ofNat 128 (op * 2 ^ 120 + st * 2 ^ 116 + h0 * 2 ^ 104 + h1 * 2 ^ 92 + h2 * 2 ^ 80 + h3 * 2 ^ 68 + rest)
/-- Core 0 with an instruction at the head of a queue. -/
def tHead (st : Nat) (w : QWord) (w1 : Option QWord := none) (k : Core := {}) : State :=
  tCore (k.setQueue st [⟨w, w1⟩])
/-- A header without a checksum: format, layout, rows, columns, the granules that these need. -/
def tHdr (fmt layout rows cols : Nat) : Hdr :=
  BitVec.ofNat 512 (fmt + layout * 2 ^ 8 + (if layout = 2 then 2 ^ 13 else 0) + rows * 2 ^ 16 + cols * 2 ^ 32 +
    (ceilDiv (needBytes fmt layout rows cols) 256 - 1) * 2 ^ 48)
/-- A tile with a payload of one granule that begins with some bytes; no bytes: ALLZERO. -/
def tLaid (fmt layout rows cols : Nat) (bs : List Byte) : Tile :=
  sealTile (tHdr fmt layout rows cols + (if bs = [] then 0x1000 else 0)) (bs ++ List.replicate (256 - bs.length) 0)
/-- A row-major tile. -/
def tTile (fmt rows cols : Nat) (bs : List Byte) : Tile := tLaid fmt 0 rows cols bs
/-- A core with a PRESENT tile under a handle at a base. -/
def tHold (k : Core) (h base : Nat) (t : Tile) : Core := writeTile (k.setTte h (tTte .present base)) h t
/-- A core with a FREE bound entry. -/
def tFree (k : Core) (h base : Nat) : Core := k.setTte h (tTte .free base)
/-- Job stream 0 holds a megabyte of HBM with every right. -/
def tRegion : Region := ⟨0, 0, 0x100000, 2, 0, true, true, true, true, true, .active⟩

theorem witness_WaitsAndNops :
    let s := tHead 6 (tI 0 6 0 0 0 0 0)
    (s.issues 0 = true ∧ s.coreDisabled 0 = false ∧ (s.core 0).queue 6 = [⟨tI 0 6 0 0 0 0 0, none⟩] ∧
      iStation (tI 0 6 0 0 0 0 0) = stationCode .sig ∧ iOpcode (tI 0 6 0 0 0 0 0) = 0 ∧ inFlightCount (s.core 0) 6 < stationLimit 6) ∧
    (∀ op ∈ [1, 2], ∀ v ∈ [0, 0xFFFFFFFF], let w := tI op 0 0 0 0 0 (255 * 2 ^ 48 + v)
      getf w 56 60 = 0 ∧ iField w 32 16 = 0 ∧ iOpcode w = op ∧ iField w 0 32 = v ∧ ((tHead 0 w).core 0).queue 0 = [⟨w, none⟩]) := by
  decide +kernel

theorem witness_IssueFrame :
    ((tHead 0 (tI 0x10 0 1 0 0 0 64)).core 0).queue 0 = ⟨tI 0x10 0 1 0 0 0 64, none⟩ :: [] := by decide +kernel

/-- A 2 x 3 FP32 tile. -/
def tFp : Tile := tTile 1 2 3 [0, 0, 0x80, 0x3F]
/-- Core 0 with `tFp` under handle 1 and a FREE entry 2. -/
def tPair : Core := tFree (tHold {} 1 0 tFp) 2 6

theorem witness_tPair : readTile tPair 1 = tFp ∧ tileCrcOk tFp = true ∧ headerOk tFp.header 256 = true ∧ hPoison tFp.header = false := by
  decide +kernel

/-- LOAD.IMG of the image of a tile at the last place of the region, into handle 2. -/
def tLoadImg (t : Tile) : State :=
  ({ tHead 0 (tI 0x10 0 2 0 0 0 (0x100000 - 320)) none tPair with regions := [tRegion] } : State).writeMem (0x100000 - 320) (tileImage t)
/-- LOAD.RAW of 2 x 3 FP32 elements, rows 16 bytes apart. -/
def tLoadRaw : State :=
  { tHead 0 (tI 0x11 0 2 0 0 0 (0x100000 - 32)) (some (BitVec.ofNat 128 (2 ^ 120 + 2 * 2 ^ 96 + 3 * 2 ^ 80 + 16 * 2 ^ 48))) tPair with regions := [tRegion] }
/-- A STORE of a tile under handle 1 to the start of the region. -/
def tStore (op ops : Nat) (w1 : Option QWord) (t : Tile) : State :=
  { tHead 3 (tI op 3 0 1 0 0 ops) w1 (tHold {} 1 0 t) with regions := [tRegion] }
/-- The head of a queue of core 0. -/
def tAt (s : State) (st : Nat) : StationInsn := ((s.core 0).queue st).headD ⟨0, none⟩

/-- A sound image, and one with its POISON flag set. -/
theorem witness_MoversIssue_loadImg : ∀ p ∈ [false, true],
    let s := tLoadImg (if p then flaggedCopy tFp else tFp)
    mayIssue s 0 0 0x10 (tAt s 0) ⟨[], true, 1, 0⟩ ∧
    (let a := iField (tAt s 0).w0 0 48
     let m := s.seen (coreRequester 0)
     let hd := hdrOfBytes (m.readMem a 64)
     let n := imagePayload hd
     s.access (s.jsOfCore 0) a 64 .read = true ∧ s.access (s.jsOfCore 0) a (64 + n) .read = true ∧ m.spanPoisoned a 64 = false ∧
     m.spanPoisoned a (64 + n) = false ∧ hFormat hd ≠ 0x13 ∧ n ≤ capacityBytes (s.core 0) 2 ∧ hPoison hd = p ∧
     headerOk hd n = true ∧ bitf (tAt s 0).w0 55 = false ∧ tileCrcOk { header := hd, payload := m.readMem (a + 64) n } = true) := by
  unfold mayIssue atHead; decide +kernel

theorem witness_MoversIssue_loadRaw : mayIssue tLoadRaw 0 0 0x11 (tAt tLoadRaw 0) ⟨[], true, 2, 0⟩ ∧
    headerOk (rawHeader tLoadRaw 0 1 0 2 3) 65536 = true ∧ bitf (tAt tLoadRaw 0).w0 55 = false ∧
    tLoadRaw.access (tLoadRaw.jsOfCore 0) (0x100000 - 32) ((2 - 1) * 16 + rowBytes 1 3) .read = true ∧
    256 * (hGranules (rawHeader tLoadRaw 0 1 0 2 3) + 1) ≤ capacityBytes (tLoadRaw.core 0) 2 ∧
    ((rawRows (0x100000 - 32) 16 2 (rowBytes 1 3)).any fun r => (tLoadRaw.seen (coreRequester 0)).spanPoisoned r.1 r.2) = false := by
  unfold mayIssue atHead; decide +kernel

/-- A plain STORE.IMG, and an EXACT one of a tile whose payload is zero, transposed. -/
theorem witness_MoversIssue_storeImg :
    (let s := tStore 0x18 0 none tFp
     mayIssue s 0 3 0x18 (tAt s 3) ⟨[1], false, 1, 3⟩ ∧
     poisonedInput (s.core 0) (1 :: scaleHandles (s.core 0) (tAt s 3).w0 [1]) = none ∧ moverInputOk (s.core 0) tFp false = true ∧
     tileCrcOk tFp = true ∧ s.access (s.jsOfCore 0) 0 (tileImage tFp).length .write = true) ∧
    (let z := tTile 1 16 4 []
     let s := tStore 0x18 (3 * 2 ^ 54) none z
     mayIssue s 0 3 0x18 (tAt s 3) ⟨[1], false, 1, 3⟩ ∧
     poisonedInput (s.core 0) (1 :: scaleHandles (s.core 0) (tAt s 3).w0 [1]) = none ∧ moverInputOk (s.core 0) z true = true ∧
     s.codecOn = true ∧ s.access (s.jsOfCore 0) 0 (tileImage (exactImage s 0 (transposeTile z))).length .write = true ∧ tileCrcOk z = true) := by
  unfold mayIssue atHead; decide +kernel

theorem witness_MoversIssue_storeRaw :
    let t := tTile 1 16 4 [9]
    let s := tStore 0x19 (2 ^ 55) (some (BitVec.ofNat 128 (64 * 2 ^ 48))) t
    mayIssue s 0 3 0x19 (tAt s 3) ⟨[1], false, 2, 3⟩ ∧
      poisonedInput (s.core 0) (1 :: scaleHandles (s.core 0) (tAt s 3).w0 [1]) = none ∧ moverInputOk (s.core 0) t true = true ∧
      s.access (s.jsOfCore 0) 0 ((4 - 1) * 64 + rowBytes 1 16) .write = true ∧ tileCrcOk t = true := by
  unfold mayIssue atHead; decide +kernel

/-- A transfer of two tiles in slots of 512 bytes between job streams 0. -/
def tXfer (id src dst : Nat) : Transfer :=
  { id := id, src := src, dst := dst, srcJs := 0, dstJs := 0, vc := 4, exact := true, commit := false, tiles := 2, budget := 1000
    base := 0x1000, stride := 512, hops := [(src, 3)] }
/-- An ACTIVE schedule of this module, 0, and module 1. -/
def tSched : Schedule := { row := 0, state := 3, addr := 0, id := 7, routeEpoch := 0, transfers := [tXfer 0xFFFFF 0 1, tXfer 0 1 0] }
/-- SEND of tile 1 of the first transfer, generation 0, from handle 1. -/
def tSend (exact : Nat) (t : Tile) : State :=
  { tHead 4 (tI 0x20 4 0 1 0 0 (0xFFFFF * 2 ^ 36 + 2 ^ 12 + exact * 2 ^ 11)) none (tHold {} 1 0 t) with schedules := [tSched] }
/-- RECV of tile 1 of the second transfer, landed in its slot, into handle 2. -/
def tRecv (phase : Nat) : State :=
  ({ tHead 5 (tI 0x28 5 2 0 0 0 (2 ^ 12)) none (tFree {} 2 0) with
    schedules := [tSched], landings := [{ src := 1, js := 0, id := 0, gen := 0, phase := phase, landed := [1] }] } : State).writeMem 0x1200 (tileImage tFp)

theorem witness_SendAndRecvIssue_send : ∀ e ∈ [0, 1],
    let t := if e = 1 then tTile 1 1 1 [] else tFp
    let s := tSend e t
    s.jsOfCore 0 = some 0 ∧ mayIssue s 0 4 0x20 (tAt s 4) ⟨[1], false, 1, 4⟩ ∧
      s.sourced 0 0xFFFFF = some (tSched, 0, tXfer 0xFFFFF 0 1) ∧ iTransfer (tAt s 4).w0 = 0xFFFFF ∧ iTile (tAt s 4).w0 < 2 ∧
      (s.idState 0 0xFFFFF).phase ≤ 1 ∧ (s.idState 0 0xFFFFF).gen = iGeneration (tAt s 4).w0 ∧ s.collOf 0 0xFFFFF = none ∧
      s.codecOn = true ∧ bitf (tAt s 4).w0 11 = decide (e = 1) ∧ 64 + t.payload.length ≤ 512 ∧ readTile (s.core 0) 1 = t ∧
      s.domainOn (domEdge 0) = true ∧ poisonedInput (s.core 0) (1 :: scaleHandles (s.core 0) (tAt s 4).w0 [1]) = none ∧
      moverInputOk (s.core 0) t false = true ∧ tileCrcOk t = true := by
  unfold mayIssue atHead; decide +kernel

theorem witness_SendAndRecvIssue_recv :
    (let s := tRecv 2
     mayIssue s 0 5 0x28 (tAt s 5) ⟨[], true, 1, 5⟩ ∧ recvInput s 0 0 0 1 = .ended) ∧
    (let s := tRecv 1
     let m := s.seen (coreRequester 0)
     let hd := hdrOfBytes (m.readMem 0x1200 64)
     mayIssue s 0 5 0x28 (tAt s 5) ⟨[], true, 1, 5⟩ ∧ recvInput s 0 0 0 1 = .tile 0x1200 ∧ s.recvTransfer 0 0 = some (tXfer 0 1 0) ∧
     plankCheck (s.markRound 0 0) 0 0 (tXfer 0 1 0) 1 = .none ∧ m.spanPoisoned 0x1200 320 = false ∧ hPoison hd = false ∧
     headerOk hd 256 = true ∧ 256 ≤ capacityBytes (s.core 0) 2 ∧ tileCrcOk { header := hd, payload := m.readMem 0x1240 256 } = true ∧
     hEpoch hd = s.val (keyEpoch 0)) := by
  unfold mayIssue atHead; decide +kernel

/-- A MAT instruction of row 0 on bank B. -/
def tMat (op keep : Nat) (a b : Tile) : State :=
  tHead 1 (tI op 1 0 1 2 0 (2 ^ 55 + keep * 2 ^ 51 + 42 * 2 ^ 42)) none (tHold (tHold {} 1 0 a) 2 6 b)

/-- MMA.F8.S24 on a FREE bank. -/
theorem witness_MatIssuesAndAccumulates :
    let a := tTile 4 1 4 [0x38, 0, 0x40]
    let b := tLaid 5 2 1 4 [0x3C, 0, 0x04]
    let s := tMat 0xA6 0 a b
    let k := s.core 0
    let w := (tAt s 1).w0
    mayIssue s 0 1 0xA6 (tAt s 1) ⟨[1, 2], false, 1, 1⟩ ∧ (k.bank (iBankB w)).state = .free ∧
      vecOnBank k (iBankB w) (fun _ => true) = false ∧ poisonedInput k [1, 2] = none ∧ readTile k 1 = a ∧ readTile k 2 = b ∧
      headerOk a.header 256 = true ∧ headerOk b.header 256 = true ∧ mmaTilesOk 0xA6 a.header b.header = true ∧
      iField w 17 16 + iField w 33 9 + 1 ≤ hRows a.header ∧ bitf w 51 = false ∧ hLayout b.header = 2 ∧
      positionsOk (tilePositions b) = true ∧ tileCrcOk a = true ∧ tileCrcOk b = true := by
  unfold mayIssue atHead; decide +kernel

/-- Every MAT opcode: its form, its fields, headers that it takes. -/
theorem witness_MatIssuesAndAccumulates_opcodes : ∀ x ∈ [(0xA0, tHdr 4 0 1 256, tHdr 5 0 32 256), (0xA1, tHdr 5 0 1 512, tHdr 4 0 32 512),
    (0xA2, tHdr 2 0 1 128, tHdr 2 0 32 128), (0xA3, tHdr 8 3 1 256, tHdr 9 3 32 256), (0xA4, tHdr 0xA 3 1 512, tHdr 0xA 3 32 512),
    (0xA5, tHdr 0xB 0 1 256, tHdr 0xB 0 32 256), (0xA6, tHdr 4 0 1 512, tHdr 4 2 32 512), (0xA7, tHdr 0xA 3 1 1024, tHdr 0xA 2 32 1024),
    (0xA8, tHdr 4 0 1 128, tHdr 4 0 64 128), (0xB0, tHdr 4 0 1 256, tHdr 4 0 32 256), (0xB1, tHdr 5 0 1 256, tHdr 5 0 32 256)],
    let w := tI x.1 1 0 1 2 0 (2 ^ 55 + 42 * 2 ^ 42)
    mmaTilesOk x.1 x.2.1 x.2.2 = true ∧ headerOk x.2.1 (256 * (hGranules x.2.1 + 1)) = true ∧
      headerOk x.2.2 (256 * (hGranules x.2.2 + 1)) = true ∧
      insnForm w = some ⟨[1, 2], false, 1, 1⟩ ∧ headOk {} 1 ⟨w, none⟩ = true := by
  decide +kernel

/-- A pass that an ALLZERO tile skips. -/
theorem witness_MatIssuesAndAccumulates_skip :
    let a := tTile 4 1 4 []
    let s := tMat 0xA0 0 a a
    mayIssue s 0 1 0xA0 (tAt s 1) ⟨[1, 2], false, 1, 1⟩ ∧ hAllzero (readHeader (s.core 0) 1) = true ∧
      headerOk a.header 256 = true ∧ mmaTilesOk 0xA0 a.header a.header = true ∧ poisonedInput (s.core 0) [1, 2] = none := by
  unfold mayIssue atHead; decide +kernel

/-- A kept stationary tile and an OPENED bank. -/
theorem witness_MatIssuesAndAccumulates_keep :
    let a := tTile 4 1 4 [0x38]
    let k0 := tHold (tHold { accB := { state := .opened }, lastLoad := some ⟨0xA0, 2, false⟩ } 1 0 a) 2 6 a
    let s := tHead 1 (tI 0xA0 1 0 1 2 0 (2 ^ 55 + 2 ^ 51)) none k0
    mayIssue s 0 1 0xA0 (tAt s 1) ⟨[1, 2], false, 1, 1⟩ ∧ bitf (tAt s 1).w0 51 = true ∧ keepOk (s.core 0) (tAt s 1).w0 = true ∧
      ((s.core 0).bank true).state = .opened ∧ ((s.core 0).bank true).mode = mmaMode 0xA0 := by
  unfold mayIssue atHead; decide +kernel

theorem witness_MatPassEntries : let w := tI 0xA0 1 0 1 2 0 (256 * 2 ^ 33 + (256 - 256) * 2 ^ 42 - 2 ^ 33)
    (31 : Nat) < 32 ∧ ({} : AccBank).mode = .f32x32 ∧ iOpcode w ≠ 0xA5 ∧ iOpcode w ≠ 0xB0 ∧ iOpcode w ≠ 0xB1 ∧
      iField w 42 9 + iField w 33 9 + 1 ≤ 256 ∧ (255 : Nat) < iField w 33 9 + 1 := by decide +kernel

/-- A VEC instruction from tiles 1, 2 and 3 into handle 4 with OUT_FORMAT FP32. -/
def tVec (op : Nat) (ins : List Nat) (rest : Nat) (k : Core) (t : Tile) : State :=
  let h := fun n => if ins.contains n then n else 0
  tHead 2 (tI op 2 4 (h 1) (h 2) (h 3) (2 ^ 43 + rest)) none (tFree (ins.foldl (fun k n => tHold k n (6 * n) t) k) 4 0)

/-- VEC.ADD of two tiles, posting. -/
theorem witness_VecIssuesItsOpcode :
    let s := tVec 0x41 [1, 2] 0 {} (tTile 1 1 1 [0, 0, 0x80, 0x3F])
    let w := (tAt s 2).w0
    let f : Form := ⟨[1, 2], true, 1, 2⟩
    mayIssue s 0 2 0x41 (tAt s 2) f ∧ vecBankSound (s.core 0) w ∧ summaryRoom (s.core 0) (postCount w) = true ∧
      tilesSound (s.core 0) w f ∧
      (match vecElem2 addF32 (vecArgsAt s 0 w) with
        | .ok e => (match e.out with | some o => decide (o.2.length ≤ capacityBytes (s.core 0) 4) | none => false)
        | .refuse _ => false) = true := by
  unfold mayIssue atHead vecBankSound tilesSound; decide +kernel

/-- VEC.EPI of the last row of a CLOSED bank. -/
theorem witness_VecIssuesItsOpcode_bank :
    let s := tVec 0x40 [] (255 * 2 ^ 29) { accA := { state := .closed } } (tTile 1 1 1 [])
    let w := (tAt s 2).w0
    let f : Form := ⟨[], true, 1, 2⟩
    mayIssue s 0 2 0x40 (tAt s 2) f ∧ vecBankSound (s.core 0) w ∧ vecTouches w = true ∧ matClaims s 0 (iBankB w) = false ∧
      tilesSound (s.core 0) w f := by
  unfold mayIssue atHead vecBankSound tilesSound; decide +kernel

theorem witness_VecElementwise :
    let t := tTile 1 2 2 [0, 0, 0x80, 0x3F]
    let a : VecArgs := { k := {}, w := tI 0x41 2 4 1 2 0 (2 ^ 43), bank := none, t1 := t, t2 := t, t3 := t, key := 0, seq := 0, cap := 0 }
    vOutFormat a.w = 1 ∧ vAccUse a.w ≠ 2 ∧
      (match a.input 1 1, a.input 1 2 with
        | some x, some y => broadcasts y x.rows x.cols && shapeFits 1 0 x.rows x.cols
        | _, _ => false) = true := by decide +kernel

/-- An instruction in flight with a tile, a summary, a write and a signal. -/
def tFlight : InFlight :=
  { token := 9, insn := ⟨tI 0x40 2 2 0 0 0 (2 ^ 67 + 255 * 2 ^ 56), none⟩, outs := [⟨2, tFp⟩], readers := [1]
    posts := [⟨1, 2, 3, false⟩] }
theorem witness_InstructionCompletes :
    let s := tCore ((tFree tPair 2 6).setFlight 2 [tFlight])
    (s.core 0).flight 2 = [tFlight] ∧ s.insnBusy 9 = false ∧ s.clocked 0 = true ∧
      (∀ x ∈ tFlight.readers, x % 4096 ≠ 2 % 4096) ∧ tFp.payload.length = 256 * (hGranules tFp.header + 1) ∧
      iSignals tFlight.insn.w0 = true ∧ inTile (s.core 0) 1 4 = true ∧ inTile (s.core 0) 1 98303 = false := by decide +kernel

/-- A SIG instruction at the head; context 127 belongs to job stream 0; the mapping of job stream 0 controls routes, and
the staged table of epoch 9 is VALID. -/
def tSig (op rest : Nat) (w1 : Option QWord := none) : State :=
  { ((((tHead 6 (tI op 6 0 0 0 0 rest) w1).setVal (contextKey 127) (2 ^ 50)).setVal ⟨0x3000, 4, 0⟩ 2).setVal ⟨0x3000, 6, 0⟩ 9) with
    maps := [(0, { desc := BitVec.ofNat 512 (2 ^ 156) })], schedules := [tSched]
    ids := [(0xFFFFF, { phase := 1, offered := [0] })] }
/-- SIG.REMOTE that covers the first transfer's tiles up to `n`. -/
def tRemote (n : Nat) : State := tSig 0x31 (2 ^ 24) (some (BitVec.ofNat 128 (0xFFFFF * 2 ^ 108 + 2 ^ 92 + n * 2 ^ 76)))

theorem witness_SigIssues : (tSig 0x30 0).jsOfCore 0 = some 0 ∧
    (∀ x ∈ [(0x30, 1), (0x32, 0), (0x3E, 127 * 2 ^ 48 + 4 * 2 ^ 44 + 5), (0x3F, 2 ^ 48), (0x33, 0), (0x33, 9)],
      mayIssue (tSig x.1 x.2) 0 6 x.1 (tAt (tSig x.1 x.2) 6) ⟨[], false, 1, 6⟩) ∧
    (∀ n ∈ [1, 2], mayIssue (tRemote n) 0 6 0x31 (tAt (tRemote n) 6) ⟨[], false, 2, 6⟩ ∧
      remoteKnown (tRemote n) 0 1 (remoteMessage (tRemote n) 0 0 (tAt (tRemote n) 6)) = true ∧
      remoteReady (tRemote n) 0 1 (remoteMessage (tRemote n) 0 0 (tAt (tRemote n) 6)) = decide (n = 1)) ∧
    (tRemote 1).domainOn (domEdge 0) = true ∧ ((tRemote 1).setDomain (domEdge 0) 0).domainOn (domEdge 0) = false ∧
    (tSig 0x30 0).inMask 0 0 = true ∧ (tSig 0x3E 0).val (contextKey 127) / 2 ^ 50 % 2 = 1 ∧
    (tSig 0x3E 0).val (contextKey 127) / 2 ^ 48 % 4 = 0 ∧ swapOutcome (tSig 0x33 0) 0 0 = .noop ∧
    swapOutcome (tSig 0x33 9) 0 9 = .swap := by
  unfold mayIssue atHead; decide +kernel

/-! ### Signals, steps, memory -/

/-- The requester of core 0's increments, and one increment that passes the highest value of a semaphore. -/
def tIncr : State :=
  { tCore { sems := [(255, 0xFFFFFFFF)] } with increments := [{ src := .band, dst := 0, sem := 255, amount := 1 }] }
theorem witness_IncrementsReachSemaphores : (tIncr.increments.find? fun y => y.src == .band && y.dst == (0 : CoreId).val && y.sem == 255) =
      some { src := .band, dst := 0, sem := 255, amount := 1 } ∧
    incrementPath tIncr { src := .band, dst := 0, sem := 255, amount := 1 } = true ∧ 0xFFFFFFFF < ((tIncr.core 0).sem 255).toNat + 1 ∧ ((tIncr.core 0).sem 254).toNat + 1 ≤ 0xFFFFFFFF ∧ tIncr.jsOfCore 0 = some 0 := by
  decide +kernel

/-- A packet with a sync message from module 1. -/
def tSync (m : Sync) : Pkt := { dst := 0, src := 1, vc := 1, origVc := 1, kind := 1, js := 0, length := 32, last := true, payload := syncBytes m }
/-- A signal of 7 to semaphore 255 of a core that covers `count` identifiers from 0 at a generation, whole. -/
def tSignal (core epoch gen count : Nat) : Sync :=
  { kind := 0, srcJs := 0, dstJs := 0, srcCore := 0, dstCore := core, sem := 255, n := 7, epoch := epoch, firstId := 0, gen := gen, count := count, lastTiles := 0 }
/-- Core 0 of job stream 0, with the landing of transfer 0 open at generation 5, and epoch 1. -/
def tHolds (landed : List Nat) : State :=
  { (tCore {}).setVal (keyEpoch 0) 1 with
    schedules := [tSched], landings := [{ src := 1, js := 0, id := 0, gen := 5, landed := landed }] }

/-- One state and message for each rule of R234: no job stream, older epoch, stale generation, landing not admitted, applied
at once, held; and a table that no signal may enter, one waiting ahead of it. -/
theorem witness_SignalArrival :
    (∀ m ∈ [tSignal 1 1 5 1, tSignal 0 0 5 1, tSignal 0 1 4 1, tSignal 0 1 5 2, tSignal 0 1 5 1, tSignal 0 2 5 0],
      syncOk (tSync m).payload = true ∧ syncOf (tSync m).payload = m ∧ m.kind = 0) ∧
    (tHolds []).jsOfCore 1 = none ∧ (tHolds []).jsOfCore 0 = some 0 ∧ serialOlder 0 ((tHolds []).val (keyEpoch 0)) = true ∧
    serialOlder 1 ((tHolds []).val (keyEpoch 0)) = false ∧ serialOlder 2 ((tHolds []).val (keyEpoch 0)) = false ∧ genAccepted 5 4 = false ∧
    genAccepted 5 5 = true ∧
    ((tHolds []).coveredLanding 1 (tSignal 0 1 5 2) 0 1).isNone = true ∧ ((tHolds []).coveredLanding 1 (tSignal 0 1 5 1) 0 0).isNone = false ∧
    (let h : Held := { src := 1, js := 0, msg := tSignal 0 1 5 1 }
     (heldCurrent (tHolds [0, 1]) h && heldLanded (tHolds [0, 1]) h) = true ∧ (heldCurrent (tHolds [0]) h && heldLanded (tHolds [0]) h) = false ∧
     ({ tHolds [0] with heldWaiting := [(32, h)] } : State).heldWaiting.any (fun x => x.2.js == 0) = true ∧
     (tHolds [0]).heldWaiting.any (fun x => x.2.js == 0) = false ∧ (tHolds [0]).held.length < 1024) := by
  decide +kernel

/-- A held signal whose data have landed, have ended, or neither. -/
theorem witness_HeldSignalApplied :
    let h : Held := { src := 1, js := 0, msg := tSignal 0 1 5 1 }
    takeNth (fun x : Held => x.js == (0 : JsId).val) [{ h with js := 1 }, h] 0 = some (h, [{ h with js := 1 }]) ∧
      heldCurrent (tHolds []) h = true ∧ heldCurrent (tCore {}) h = false ∧ heldLanded (tHolds [0, 1]) h = true ∧
      heldLanded (tHolds [0]) h = false ∧ heldEnded (tHolds [0]) h = false ∧
      heldEnded { tHolds [0] with landings := [{ src := 1, js := 0, id := 0, gen := 5, phase := 2 }] } h = true := by
  decide +kernel

/-- Watch records of job stream 0: a poisoned value, a NaN, 0.05. -/
def tWatches : List (BitVec 256) :=
  [BitVec.ofNat 256 1, BitVec.ofNat 256 (0x7FC00000 * 2 ^ 224), BitVec.ofNat 256 (0x3D4CCCCD * 2 ^ 224)]
theorem witness_QuarantineHangAndWatch :
    (({ State.reset with ids := [(2 ^ 20 - 1, { gen := 255, phase := 2 })] } : State).idState 0 0xFFFFF).phase = 2 ∧
    (let s := tHead 6 (tI 1 6 0 0 0 0 1)
     (headWait s 0 6).isSome = true ∧ (s.core 0).hung = false ∧ s.issues 0 = true) ∧
    ctlStall (tCtl [tW 0x30 1 2 0 0, 0]) 0 ≠ 0 ∧ ((tCore { hung := true }).core 0).hung = true ∧
    ((tCore { watches := tWatches }).core 0).watches.length = 3 ∧ (tWatches.all fun r => decide (getf r 46 2 < 4)) = true ∧
    tWatches.map (watchResult (tCore {}) 0) = [.skipped false, .event 3 0, .quiet] := by
  decide +kernel

/-- The 15th trigger counts, the 16th does not; a spare job stream and one that is not ENABLED take none. -/
theorem witness_TriggersPendOrDrop :
    let takes := fun (s : State) => s.startsSteps && s.val (keyJsState 0) == 1 && decide (s.val (keyTriggers 0) < 15)
    takes ((tCore {}).setVal (keyTriggers 0) 14) = true ∧ takes ((tCore {}).setVal (keyTriggers 0) 15) = false ∧
    takes ((tCore {}).setVal (keyJsState 0) 0) = false ∧ (tCore {}).isSpare 0 = false ∧
    ({ tCore {} with maps := [(0, { desc := BitVec.ofNat 512 (2 ^ 155) })] } : State).isSpare 0 = true ∧
    (let m := { tSignal 0 0 0 0 with kind := 1 }
     syncOk (tSync m).payload = true ∧ (syncOf (tSync m).payload).kind = 1 ∧ (syncOf (tSync m).payload).dstJs = 0) := by
  decide +kernel

/-- A directory of one core at 0x400, whose stream, one END, stands at 0x800. -/
def tDir : State :=
  let stream := natLe 16 (tW 1 0 0 0 0).toNat
  let entry := natLe 16 (0x800 + 16 * 2 ^ 80 + crc32c stream * 2 ^ 96)
  let head := natLe 60 (1 + 2 ^ 16 + 77 * 2 ^ 32)
  let bytes := head ++ natLe 4 (crc32c (head ++ entry)) ++ entry
  ((({ (tCore {}) with regions := [tRegion] } : State).writeMem 0x400 bytes).writeMem 0x800 stream).setVal (keyTriggers 0) 15
    |>.setVal ⟨0x9010, 1, 0⟩ 0x400

theorem witness_DispatchStartsStep : canDispatch tDir 0 = true ∧ (∀ q ∈ tDir.hbmWaiting, q.write = false) ∧
    (match readDirectory (tDir.seen (dispatcher 0)) 0 with
      | some (id, es) => id == 77 && es.map (·.core) == [0] && es.all fun e =>
        (tDir.val ⟨0x5001, 1, 0⟩).testBit e.core && crc32c ((tDir.seen (dispatcher 0)).readMem e.addr e.len) == e.crc &&
          !(tDir.seen (dispatcher 0)).spanPoisoned e.addr e.len
      | none => false) = true ∧
    tDir.val (replayKey 0) ≠ 1 ∧ tDir.val (keyStarted 0) < 2 ^ 48 - 1 := by
  decide +kernel

theorem witness_DispatchTimeoutWithdraws : canDispatch tDir 0 = true ∧ tDir.val (keyStarted 0) < 2 ^ 48 - 1 ∧
    (readDirectory (tDir.seen (dispatcher 0)) 0).isSome = true := by decide +kernel

/-- A running step whose one core has ended, and a record that waits. -/
def tEnding : State :=
  ((tCore { summaries := [⟨1, 2, 3, false⟩] }).setVal (keyStarted 0) 1).setStep 0
    { cores := [0], programId := 9, number := 1, records := 15, waitingRecords := [(5, none)] }
theorem witness_StepEndsAndIsRecorded : tEnding.startsSteps = true ∧ tEnding.stepRunning 0 = true ∧
    (∀ c ∈ (tEnding.stepOf 0).cores, coreEnded (tEnding.core c) = true) ∧ tEnding.val (keyEnded 0) < 2 ^ 48 - 1 ∧
    (tEnding.stepOf 0).waitingRecords = (5, none) :: [] ∧ (tEnding.stepOf 0).records < 16 := by decide +kernel

/-- A walk of one entry of two slots of one granule, at a chunk, with one chunk in flight. -/
def tWalk (chunk : Nat) (credited : Bool) : PfWalk :=
  { cluster := 0, js := 0, scheduleId := 1, chunk := chunk, credited := credited
    inFlight := [{ entry := 0, n := 1, token := 50, addr := 0x1100, data := List.replicate 256 7, bad := [3] }]
    entries := [{ srcBase := 0x1000, extBase := 0x1000, extLimit := 0x2000, dstBase := poolBase, srcStride := 256, granules := 1, slots := 2
                  count := 0, landCore := 1, landSem := 2, creditCore := 0, creditSem := 255 }] }
/-- The walk on a state with one credit. -/
def tPf (chunk : Nat) (credited : Bool) : State :=
  ({ tCore { sems := [(255, 1)] } with walks := [tWalk chunk credited] } : State).writeMem 0x1100 [1, 2, 3]
theorem witness_PrefetchWalk :
    (∀ x ∈ [(0, false), (2, false), (15, true), (16, false)], (tPf x.1 x.2).walkOf 0 0 = some (tWalk x.1 x.2)) ∧
    (∀ x ∈ [(0, false), (15, true), (16, false)], (tPf x.1 x.2).walkTurn 0 0 = true) ∧
    (tWalk 15 true).entries[0]?.map (fun e => (e.within 15, e.within 16, decide (e.slots ≤ 2), e.creditCore)) = some (true, false, true, 0) ∧
    ((tPf 2 false).core 0).sem 255 ≠ 0 ∧
    ((tPf 0 false).walks.find? fun w => w.cluster == 0 && w.js == 0 && !w.inFlight.isEmpty) = some (tWalk 0 false) ∧
    landable (tPf 0 false) (tWalk 0 false) = (tWalk 0 false).inFlight[0]? ∧ (tWalk 0 false).stopped = false ∧
    (((tPf 0 false).core 1).sem 2).toNat < 0xFFFFFFFF := by
  decide +kernel

/-- A read and a write that hold slots, one read in the reserve. -/
def tHbm : State :=
  { tCore {} with
    hbm := [{ who := .pcie, token := 1, addr := 0x1000, bytes := 64, write := false },
      { who := .firmware, token := 2, addr := 0x2C00000000, bytes := 64, write := false },
      { who := .pcie, token := 3, addr := 0x1040, bytes := 64, write := true, data := List.replicate 64 1 }]
    hbmWaiting := [{ who := .pcie, token := 4, addr := 0x2000, bytes := 64, write := false }] }
theorem witness_MemoryRequestsAndErrors :
    let look := fun (x : HbmReq × List HbmReq) => (x.1.write, inReserve x.1.addr, passesEarlier tHbm x.1, atomsOf x.1)
    (takeNth (fun x : HbmReq => x.who == .pcie) tHbm.hbm 0).map look = some (false, false, false, 1) ∧
    (takeNth (fun x : HbmReq => x.who == .pcie) tHbm.hbm 1).map look = some (true, false, false, 1) ∧
    (takeNth (fun x : HbmReq => x.who == .firmware) tHbm.hbm 0).map look = some (false, true, false, 1) ∧
    tHbm.atomPoisoned (0x2C00000000 / 64) = false ∧ tHbm.canDoff = true ∧ tHbm.doffStep = 0 ∧
    (let a := hbmAddress 31 31 49151 255
     (tHbm.setVal (stackKey 31 1) 2).val (stackKey 31 1) = 2 ∧ tHbm.lifecycle ≠ 6 ∧ a / 64 ∉ tHbm.patrolled ∧
       ∀ q ∈ tHbm.hbm ++ tHbm.hbmWaiting, q.who = .firmware → q.token = 0 → q.addr ≠ a) ∧ inReserve (0x2C00000000 - 64) = false := by
  decide +kernel

theorem witness_MemoryWrites : (1 : Nat) < [(1 : Byte), 2].length ∧ tHbm.memOk = true := by decide +kernel

/-! ### The dictionary's SETs -/

/-- The state with the module in Maintenance and the right held by `tRq`. -/
def tMaint (s : State) : State := (s.setVal ⟨0x1000, 7, 0⟩ 3).setVal ⟨0x1100, 7, 0⟩ (requesterId tRq.who)
/-- The region of job stream 0 that begins at 0, with 512 MiB. -/
def tBig : Region := { tRegion with size := 0x20000000 }
/-- A descriptor of 64 bytes with its CRC. -/
def tDesc (d : Nat) : List Byte := natLe 60 d ++ natLe 4 (crc32c (natLe 60 d))
/-- The state with a descriptor at 0x400 in a region of job stream 0; the bytes at 0 are a member table of module 0. -/
def tWithDesc (d : Nat) : State := ({ tCore {} with regions := [tBig] } : State).writeMem 0x400 (tDesc d)

/-- A SET in each of the cases: not reached, malformed, Secure boot, refused, admitted with each outcome. -/
theorem witness_SetCommandsAnswer :
    (setCommand (.coreMaskSet tRq 0 1)).map (fun x => (x.1, x.2.1, x.2.2.1)) = some (tRq, 0x9010, 2) ∧
    (tCore {}).reachable = true ∧ ({ tCore {} with inDoubt := true } : State).reachable = false ∧
    headerWellFormed tRq = true ∧ headerWellFormed { tRq with version := 2 } = false ∧
    ((tCore {}).setVal ⟨0x1000, 7, 0⟩ 2).lifecycle = 2 ∧ setRefusal ((tCore {}).setVal ⟨0x1000, 7, 0⟩ 2) tRq 0x9010 2 = some (stNotReady, 2) ∧
    admits (tCore {}) tRq 0x9010 2 ∧
    (match coreMaskBody 0 1 (tCore {}) with | .ok _ => true | _ => false) = true ∧
    (match coreMaskBody 0 (2 ^ 256 - 1) ((tCore {}).setVal ⟨0x9011, 2, 0⟩ 2) with | .refuse _ _ => true | _ => false) = true := by
  unfold admits; decide +kernel

theorem witness_JobStreamCommands :
    let s := tCore {}
    (admits s tRq 0x9010 2 ∧ (∀ k, k < 4 → k ≠ 0 → s.coreMask k &&& 1 = 0) ∧ (1 &&& s.coreMask 0) = 1) ∧
    (admits s tRq 0x9000 1 ∧ s.val (keyJsState 0) = 1 ∧ (s.setVal (keyJsState 0) 2).val (keyJsState 0) = 2) ∧
    (admits s tRq 0x9001 1 ∧ s.lifecycle ≠ 3 ∧ admits (tMaint s) tRq 0x9001 1 ∧ (tMaint s).lifecycle = 3 ∧ s.stepRunning 0 = false ∧
      s.val (keyTriggers 0) = 0 ∧ (s.setVal (keyStarted 0) 1).stepRunning 0 = true) ∧
    admits s tRq 0x9060 5 ∧ (BitVec.ofNat 64 (2 ^ 48 - 1)).toNat < 2 ^ 48 ∧ s.stepRunning 0 = false ∧ s.val (keyTriggers 0) = 0 ∧
    s.val (replayKey 0) ≠ 1 ∧
    admits (tMaint s) tRq 0x7010 4 ∧ (tMaint s).stepRunning 0 = false ∧
    (admits (tMaint s) tRq 0xA010 3 ∧ (tMaint s).jsOfCore 0 = some 0 ∧ ((tMaint s).core 0).sem 255 = 0) ∧
    (let m := (tMaint s).setVal (detKey 0) 1
     admits m tRq 0xA020 1 ∧ getf (BitVec.ofNat 512 (2 ^ 46)) 0 43 = 0 ∧ getf (BitVec.ofNat 512 (2 ^ 46 + 2 ^ 42)) 0 43 ≠ 0 ∧
       bitf (BitVec.ofNat 512 (2 ^ 46)) 46 = true ∧ m.val (detKey 0) ≠ 0 ∧ getf (BitVec.ofNat 512 (2 ^ 46)) 48 16 = m.moduleId ∧
       getf (BitVec.ofNat 512 (2 ^ 46)) 112 32 = m.val (keyEpoch 0) ∧ m.stepRunning 0 = false ∧ m.val (keyTriggers 0) = 0 ∧ m.val (replayKey 0) = 0) ∧
    admits (s.setVal (replayKey 0) 1) tRq 0xA020 2 ∧ (s.setVal (replayKey 0) 1).val (replayKey 0) = 1 := by
  unfold admits; decide +kernel

/-- Epoch states: STABLE at the last epoch before the wrap, DRAINING, DRAINED with route epoch 5 staged. -/
def tEpoch (st : Nat) : State :=
  { (((tCore {}).setVal (keyEpoch 0) 0xFFFFFFFF).setVal (epochStateKey 0) st).setVal (preparedRouteKey 0) (if st = 2 then 5 else 0) with
    prepared := if st = 0 then [] else [(0, 0)], mapsNext := [(0, { addr := 8 })], staged := [(3, 4)] }
theorem witness_EpochChange :
    (admits (tEpoch 0) tRq 0x9030 2 ∧ (tEpoch 0).epochState 0 = 0 ∧ 0 % 2 ^ 32 = ((tEpoch 0).val (keyEpoch 0) + 1) % 2 ^ 32) ∧
    (admits (tEpoch 1) tRq 0x9030 2 ∧ (tEpoch 1).epochState 0 ≠ 0 ∧ 0xFFFFFFFF % 2 ^ 32 = (tEpoch 1).val (keyEpoch 0)) ∧
    ((tEpoch 1).epochState 0 = 1 ∧ routeReady (tEpoch 1) 0 = true ∧ drained (tEpoch 1) 0 = true ∧ 0 ∉ (tEpoch 1).drainForced ∧
      routeReady ((tEpoch 1).setVal (preparedRouteKey 0) 7) 0 = false) ∧
    (let s := ((tEpoch 2).setVal ⟨0x3000, 4, 0⟩ 2).setVal (fabricKey 6) 5
     admits s tRq 0x9030 4 ∧ s.epochState 0 = 2 ∧ s.preparedEpoch 0 = some 0 ∧ s.routeEpoch ≠ s.val (preparedRouteKey 0) ∧
       otherUses s 0 = false ∧ routeReady s 0 = true ∧ (s.mapNext 0).isSome = true) ∧
    admits (tEpoch 1) tRq 0x9030 4 := by
  unfold admits; decide +kernel

/-- Collective 255 of one member. -/
def tColl : State :=
  tWithDesc (1 + 2 ^ 243 + 2 ^ 259 + 4 * 2 ^ 280 + 2 ^ 290 + 4 * 2 ^ 292 + 2 ^ 296)
/-- A context of one page and one head. -/
def tCtxDesc : Nat :=
  1 + 49664 * 2 ^ 96 + 0x10000 * 2 ^ 128 + 2 ^ 184 + 2 * 2 ^ 240 + 0x40000 * 2 ^ 288 + 0x50000 * 2 ^ 384 + 0x60000 * 2 ^ 432
/-- Ring 15 of one member over context 0. -/
def tRing : State :=
  { tWithDesc (1 + 2 ^ 148 + 2 * 2 ^ 164 + 656896 * 2 ^ 352 + 0x100000 * 2 ^ 384) with contexts := [(0, BitVec.ofNat 512 tCtxDesc)] }
/-- A mapping of one module. -/
def tMap : State :=
  tWithDesc (1 + 2 ^ 169 + 2 ^ 197 + 2 ^ 205 + 2 ^ 213 + 2 * 2 ^ 296 + 256 * 2 ^ 320)

theorem witness_RegistrationAndRelease_coll :
    let s := tColl
    let d := (readDescriptor s 0x400).1
    let x := collOfDesc 255 0x400 d (readMembers s (getf d 432 48) 1)
    admits s tRq 0x9040 1 ∧ descriptorAt s x.js 0x400 = true ∧ (readDescriptor s 0x400).2 = true ∧ getf d 16 227 = 0 ∧ getf d 0 16 = 1 ∧
      getf d 336 12 + 1 = 1 ∧ collFieldsOk x = true ∧ epochKnown s x.js x.epoch = true ∧
      membersOk s x.js (getf d 432 48) 1 x.rank x.members = true ∧ groupRefused s x = false ∧
      admits s tRq 0x9040 2 ∧ s.stepRunning x.js = false := by
  unfold admits; decide +kernel

theorem witness_RegistrationAndRelease_ring :
    let s := tRing
    let d := (readDescriptor s 0x400).1
    let x := ringOfDesc 15 0x400 d (mapGet 0 s.contexts (getf d 169 7)) (readMembers s (getf d 432 48) 1)
    admits s tRq 0x9050 1 ∧ descriptorAt s x.js 0x400 = true ∧ (readDescriptor s 0x400).2 = true ∧ getf d 16 132 = 0 ∧ getf d 0 16 = 1 ∧
      getf d 184 8 + 1 = 1 ∧ ringContextOk s x.js x.context x.shardPages = true ∧
      membersOk s x.js (getf d 432 48) 1 x.rank x.members = true ∧ epochKnown s x.js x.epoch = true ∧ ringFieldsOk x = true ∧
      tBig.holds x.landBase (x.buffers * x.bufferBytes) = true ∧ (x.compute = 0 ∧ x.bwdCompute = 0) ∧ ringGroupRefused s x = false ∧
      admits s tRq 0x9050 2 ∧ s.stepRunning x.js = false := by
  unfold admits; decide +kernel

theorem witness_RegistrationAndRelease_context :
    let s := tWithDesc tCtxDesc
    let d := (readDescriptor s 0x400).1
    admits s tRq 0x9020 1 ∧ inHbm 0x400 = true ∧ tBig.holds 0x400 64 = true ∧ getf d 178 2 = 0 ∧ (readDescriptor s 0x400).2 = true ∧
      ctxFieldsOk d = true ∧ s.val (contextKey 127) = 0 ∧ (∀ p ∈ ctxPlanes d, planeOk s 0 p = true) ∧
      admits s tRq 0x9020 2 ∧ (s.setVal (contextKey 127) 1).val (contextKey 127) ≠ 0 := by
  unfold admits; decide +kernel

theorem witness_RegistrationAndRelease_map :
    let s := tMap
    let d := (readDescriptor s 0x400).1
    admits s tRq 0x9060 1 ∧ mapFieldsOk s 0 0x400 d (readDescriptor s 0x400).2 = true ∧ mapSize d = 1 ∧ getf d 232 16 = 0 ∧
      membersOk s 0 (getf d 432 48) 1 0 (readMembers s (getf d 432 48) 1) = true ∧ bitf d 156 = false ∧ getf d 288 8 = 0 ∧
      s.mapNow 0 = none ∧ getf d 352 32 = s.val (keyEpoch 0) ∧ ({ s with prepared := [(0, 0)] } : State).preparedEpoch 0 = some (getf d 352 32) := by
  unfold admits; decide +kernel

/-- A descriptor of region 991, the last 2 MiB of the interleaved space of the last crown. -/
def tRegionDesc : BitVec 256 :=
  BitVec.ofNat 256 ((3 * crownSpan + 0x2C00000000 - 0x200000) * 2 ^ 208 + 0x200000 * 2 ^ 160 + 991 * 2 ^ 150 + 2 * 2 ^ 148 + 3 * 2 ^ 144)
/-- The HBM domains of the last crown ON, a quota of 2 MiB. -/
def tQuota : State :=
  ([domPhy 3 0, domPhy 3 1, domPhy 3 2, domPhy 3 3].foldl (fun s d => s.setDomain d 1) (tCore {})).setVal (quotaKey 0 3) 0x200000
theorem witness_RegionLife :
    (admits tQuota tRq 0x4000 1 ∧ ∀ c ∈ regionChecks tQuota tRegionDesc, c.2 = false) ∧
    (regionChecks ({ tQuota with regions := [regionOf tRegionDesc] } : State) tRegionDesc).find? (·.2) = some (1, true) ∧
    (let s : State := { tQuota with regions := [tRegion] }
     admits s tRq 0x4000 2 ∧ s.regions.find? (·.number == 0) = some tRegion ∧ destroyRefused s tRegion = false ∧
       destroyRefused (s.setVal (keyStarted 0) 1) tRegion = true) ∧
    (({ tQuota with regions := [{ tRegion with state := .scrubbing }] } : State).regions.find?
      fun r => r.number == (0 : BitVec 10).toNat && r.state == .scrubbing) = some { tRegion with state := .scrubbing } := by
  unfold admits; decide +kernel

/-! ### Enables, ports and links -/

/-- Witnesses of the switches: domain 13 (a pool half) and core 0 with a branch in flight. -/
theorem witness_EnablesAndDisables :
    let s := tCore {}
    (admits s tRq 0x2200 14 ∧ (s.setDomain 13 0).domain 13 = 0 ∧ (∀ e ∈ domPrereqs 13, (s.setDomain 13 0).domainOn e = true) ∧
      ((s.setDomain 13 0).setDomain 14 0).domainOn 14 = false ∧ 14 ∈ domPrereqs 13 ∧ needsPair0 13 = true ∧ s.domain 8 = 1) ∧
    (let a := (s.setDomain 13 0).setDomain 6 0
     a.domain 4 = 1 ∧ (∀ e, e < 72 → 4 ∈ domPrereqs e → a.domain e = 0) ∧ a.domainHolds 4 = false) ∧ s.doffStep = 0 ∧
    ((s.setDomain 63 5).domain 63 = 5 ∧ (s.setDomain 0 2).domain 0 = 2 ∧ domainIdle (s.setDomain 0 2) 0 = true) ∧
    ((s.setVal keyDraining 1).val keyDraining).testBit 0 = true ∧ coreEnded (s.core 0) = true ∧
    ((s.setVal (keyJsState 3) 2).val (keyJsState 3) = 2 ∧ s.stepRunning 3 = false ∧ activeSources s 3 = []) ∧
    (let r := tCore { ctl := { running := true } }
     admits r tRq 0x5001 1 ∧ (r.val keyEnabled).testBit 0 = true ∧ (0 : Nat).testBit 0 = false ∧ coreEnded (r.core 0) = false ∧
       r.jsOfCore 0 = some 0 ∧ (r.val keyDraining).testBit 0 = false) := by
  unfold admits; decide +kernel

/-- Port `n` in a state with a profile and a link. -/
def tPort (n st prof : Nat) (l : Link) : State :=
  (((tCore {}).setPortState n st).setVal (portKey n 4) prof).setLink n l
/-- Quad 0 has laser power. -/
def tLit (s : State) : State := [0, 1, 2, 3].foldl (fun s i => s.setVal ⟨0x3000, 0x11, i⟩ 1800) s
/-- The peer's HELLO on a port whose ranks are 5 and 6. -/
def tHello : Hello :=
  { moduleId := 9, port := 3, profile := 0, encrypt := true, rankTx := 6, rankExpected := 5, stepping := 0xB0B0 }
/-- Port 7 in a step of bring-up. -/
def tBring (st : Nat) (l : Link) : State := ((tLit (tPort 7 st 0 l)).setVal (portKey 7 5) 5).setVal (portKey 7 6) 6

theorem witness_EnablesAndDisables_port :
    (admits (tPort 31 6 1 {}) tRq 0x311F 1 ∧ (tPort 31 6 1 {}).doffStep = 0 ∧ (tPort 31 6 1 {}).portState 31 = 6 ∧ (tPort 31 7 1 {}).portState 31 = 7 ∧
      ((tPort 31 7 1 {}).link 31).closingNaps = 0 ∧ ((tPort 31 7 1 { closingNaps := 1 }).link 31).closingNaps = 1) ∧
    (tPort 31 9 0 {}).portState 31 = 9 ∧ (tPort 31 9 0 {}).domain (domQuad 3) = 1 := by
  unfold admits; decide +kernel

theorem witness_PortBringup :
    (let s := tBring 2 { step := 1 }
     2 ≤ s.portState 7 ∧ s.portState 7 ≤ 5 ∧ s.domain (domQuad 0) = 1 ∧ s.laserOk 0 = true ∧ s.doffStep = 0 ∧ (s.link 7).step = 1) ∧
    (∀ n ∈ [4095, 4096], let s := tBring 2 { step := 4, goodBolts := n }
     (s.link 7).step = 4 ∧ (s.link 7).goodBolts = n ∧ s.laserOk 0 = true) ∧
    (let s := tBring 3 { step := 5, hello := some tHello }
     (s.link 7).step = 5 ∧ (s.link 7).hello = some tHello ∧ s.laserOk 0 = true ∧ ((tBring 3 { step := 5 }).link 7).hello = none) ∧
    (let s := tBring 4 { step := 6, results := List.replicate 63 100 ++ [900] }
     (s.link 7).step = 6 ∧ 64 ≤ (s.link 7).results.length ∧ s.portState 7 = 4 ∧
       (s.setVal (portKey 7 0x0E) 499).val (portKey 7 0x0E) < nsOfCycles (900 - 100)) ∧
    (let s := tBring 4 { step := 7, hello := some tHello }
     (s.link 7).step = 7 ∧ chooseProfile (jointRequest (s.val (portKey 7 2)) tHello.profile.toNat) (s.portRtt 7) s.farPorts = some 1 ∧
       (let f : State := { s.setVal (portKey 7 2) 2 with regions := [{ tRegion with number := 999 }] }
        chooseProfile (jointRequest (f.val (portKey 7 2)) tHello.profile.toNat) (f.portRtt 7) f.farPorts = some 2 ∧
          f.replayRegion 7 = some { tRegion with number := 999 }) ∧
       (let n := (s.setVal (portKey 7 2) 1).setVal (portKey 7 9) 200001
        chooseProfile (jointRequest (n.val (portKey 7 2)) tHello.profile.toNat) (n.portRtt 7) n.farPorts = none)) ∧
    (let s := tBring 5 { step := 9 }
     (s.link 7).step = 9 ∧ s.portState 7 = 5) ∧
    ((tBring 2 {}).link 7).failures + 1 < ((tBring 2 {}).setVal (portKey 7 0x0F) 2).val (portKey 7 0x0F) ∧
    (tBring 2 { failures := 2 }).val (portKey 7 0x0F) ≤ 3 ∧ (tPort 7 8 0 {}).portState 7 = 8 ∧
    ((tPort 7 8 0 {}).setVal (portKey 7 1) 1).val (portKey 7 1) = 1 ∧ ((tPort 7 8 0 {}).setVal (portKey 7 1) 0).val (portKey 7 1) ≠ 1 := by
  decide +kernel

theorem witness_PortBringup_hello :
    let s := tBring 3 { step := 5 }
    s.doffStep = 0 ∧ s.portState 7 = 3 ∧ (s.link 7).step = 5 ∧ tHello.moduleId.toNat ≠ s.moduleId ∧ tHello.rankTx.toNat = s.val (portKey 7 6) ∧
      tHello.rankExpected.toNat = s.val (portKey 7 5) ∧ steppingOk tHello.stepping = true ∧ tHello.encrypt = s.encrypts ∧
      profilesConflict (s.val (portKey 7 2)) tHello.profile.toNat = false ∧ (7 : Nat) ≠ s.val (portKey 7 6) ∧
      tHello.rankTx.toNat ≠ (s.setVal (portKey 7 6) 7).val (portKey 7 6) ∧ s.domain (domQuad 3) = 1 := by
  decide +kernel

/-- A port in step 8 with keys, and one with a session; HS1 and RK1 from a command, a whole HS2 assembled from KEY blocks. -/
theorem witness_KeyAgreement :
    (let s := tBring 5 { step := 8 }
     s.keying 7 = true ∧ ((s.dropMessage 7 1).link 7).keys.peerHs1 = [] ∧ (s.keyMessage 7 1 0 [9]).bytes = [9] ∧ [9].length ≠ 3136 ∧
       getf (BitVec.ofNat 256 (2 ^ 232)) 232 12 ≠ (((s.link 7).keys.part.map (·.next)).getD 0)) ∧
    (let k : Keys := { hs2 := [1], ownSecrets := [2], ready := [{ msg := 2, phase := 0, next := 113, bytes := List.replicate 3136 0 }] }
     let s := tBring 5 { step := 8, keys := k }
     (s.keyMessage 7 2 0 []).bytes.length = 3136 ∧ ((s.dropMessage 7 2).link 7).keys.hs2 ≠ [] ∧
       ((s.dropMessage 7 2).link 7).keys.transcript = []) ∧
    (let k : Keys := { established := true, secret := [1], secretPhase := 3, rkKey := some [4], txPhase := 3, rxPhase := 3 }
     let s := tPort 7 6 1 { keys := k }
     let m := s.keyMessage 7 4 (0 : BitVec 2).toNat (List.replicate 1568 0)
     rekeyOpen s 7 = true ∧ m.phase = ((s.link 7).keys.secretPhase + 1) % 4 ∧ m.bytes.length = 1568 ∧
       ((s.dropMessage 7 4).link 7).keys.rkOwn = [] ∧ ((s.dropMessage 7 5).link 7).keys.rkPeer = [] ∧
       ((s.dropMessage 7 5).link 7).keys.rkKey = some [4] ∧ (s.keyMessage 7 5 (1 : BitVec 2).toNat []).phase ≠ 0 ∧
       ((tPort 7 6 1 { keys := { k with rkPeer := [5] } }).dropMessage 7 4 |>.link 7).keys.rkPeer ≠ [] ∧
       ((tPort 7 6 1 { keys := { k with rkOwn := [5] } }).dropMessage 7 5 |>.link 7).keys.rkOwn ≠ [] ∧
       ((tPort 7 6 1 { keys := { k with rkKey := none } }).dropMessage 7 5 |>.link 7).keys.rkKey = none ∧
       (s.link 7).keys.of 4 = none) ∧
    (let k : Keys := { established := true, material := [(4, [1])], txPhase := 3, due := true }
     (k.of (k.txPhase + 1)).isSome = true ∧ ({ k with material := [] } : Keys).of 4 = none ∧ k.due = true ∧
       (tPort 7 6 1 { keys := k }).doffStep = 0 ∧ (tPort 7 7 1 { keys := k }).portState 7 = 7) := by
  decide +kernel
/-- CONFIRM from a command in step 8 after the module's own. -/
theorem witness_KeyAgreement_confirm (tag : List Byte) (h : tag = confirmTag [3] [4] true) (hl : tag.length = 16) :
    let k : Keys := { confirmSent := true, material := [(0, [3])], transcript := [4] }
    let s := (tBring 5 { step := 8, keys := k }).setVal (portKey 7 7) 9
    s.isLo 7 = true → s.keying 7 = true ∧ (s.keyMessage 7 3 0 tag).bytes.length = 16 ∧
      ((s.dropMessage 7 3).link 7).keys.confirmSent = true ∧
      (s.keyMessage 7 3 0 tag).bytes = confirmTag ((((s.dropMessage 7 3).link 7).keys.of 0).getD [])
        ((s.dropMessage 7 3).link 7).keys.transcript true := by
  intro k s _
  exact ⟨by decide +kernel, hl, by decide +kernel, h⟩
/-- PEER_KEY_DIGEST may hold the digest of a peer's static key, or another. -/
theorem witness_KeyAgreement_digest (st : List Byte) :
    peerDigest ((tBring 5 { step := 8 }).setVal ⟨0x6000, 0x10, 7⟩ (digest64 st)) 7 = digest64 st ∧
      digest64 st ≠ peerDigest ((tBring 5 { step := 8 }).setVal ⟨0x6000, 0x10, 7⟩ (digest64 st + 1)) 7 := by
  have h : ∀ v, peerDigest ((tBring 5 { step := 8 }).setVal ⟨0x6000, 0x10, 7⟩ v) 7 = v := fun v => mapGet_set_same _ _ _ v
  rw [h, h]; exact ⟨rfl, by omega⟩

/-- A NAP of port 3 of module 9. -/
def tNap (state : BitVec 3) (seq : BitVec 16) : Nap := { moduleId := 9, port := 3, state := state, seq := seq, profile := 1 }
/-- Port 7 with PEER_MODULE 9. -/
def tPeer (st prof : Nat) (l : Link) : State := (tPort 7 st prof l).setVal (portKey 7 7) 9
theorem witness_LivenessAndProbes :
    let s := tPeer 6 1 { napRx := some 0xFFFF }
    (let x : Probe := { id := 0, ts := 1, echoTs := 0, echoHold := 0, echoId := 0 }
     x.echoTs = 0 ∧ x.echoHold = 0 ∧ x.ts = 1 ∧ ({ x with ts := 0, echoTs := 1 } : Probe).ts = 0 ∧
       ({ x with ts := 0, echoTs := 1 } : Probe).echoTs ≠ 0) ∧
    (tNap 2 5).state.toNat ≤ 2 ∧ 2 < (tNap 3 5).state.toNat ∧ ((5 : BitVec 16) - (0xFFFF + 1)).toNat < 2 ^ 15 ∧
      2 ^ 15 ≤ ((0xFFFE : BitVec 16) - (0xFFFF + 1)).toNat ∧ s.doffStep = 0 ∧ s.portUp 7 = true ∧ s.portCarries 7 = true ∧ (s.link 7).closingNaps ≠ 1 ∧ (tNap 2 5).moduleId.toNat = s.peerModule 7 ∧ (s.link 7).napRx = some 0xFFFF ∧
      (5 : BitVec 16) ≠ 0xFFFF + 1 ∧ ((s.setVal (keyStarted 3) 1).stepRunning 3 = true) ∧
      ((tPort 7 6 1 {}).peerModule 7 ≠ 9) ∧ s.portState 7 = 6 ∧ (s.link 7).peerClosing = false ∧
      ((tPeer 6 1 { peerClosing := true }).link 7).peerClosing = true ∧ (tPeer 4 0 { step := 6 }).portState 7 = 4 ∧
      s.portTalks 7 = true ∧ (tPeer 4 0 { step := 6 }).portTalks 7 = true ∧ ((tPeer 4 0 { step := 6 }).link 7).results.length < 64 := by
  decide +kernel

/-- A packet whose 420 bytes of payload fill a bolt's body. -/
def tBoltPkt : Pkt :=
  { dst := 9, src := 2, vc := 5, origVc := 5, kind := 0, js := 1, escaped := false, exact := false, hops := 3, id := 0xFFFFF, gen := 255
    seq := 0xFFFFFF, budget := 7, epoch := 4, tileIndex := 3, tileOffset := 64, length := 420, last := true, reserved := 0
    payload := List.replicate 420 0xA5 }
/-- A DATA bolt of port 7 with that packet and the last sequence number. -/
def tBolt : Bolt := { fecOk := true, bytes := closeBolt (boltHeader 0 false 0 0xFFFFF 0 0) (pktBytes tBoltPkt) [] }
/-- Port 7 without encryption at both ends, about to receive the last sequence number. -/
def tRx (prof : Nat) (l : Link) : State :=
  (tPeer 6 prof { l with hello := some { tHello with encrypt := false } }).setVal (fabricKey 0x0A) 0
set_option maxRecDepth 4000 in
theorem witness_BoltsAndRecovery_near :
    let l : Link := { rxNext := 0xFFFFF, runs := [{ first := 9, next := 0xFFFFF, synced := true }] }
    let s := tRx 1 l
    let body := [tBoltPkt].flatMap pktBytes
    s.portTalks 7 = true ∧ s.portProfile 7 ≠ 2 ∧ tBolt.corrected = 0 ∧ boltSound tBolt = true ∧
      (boltHead tBolt.bytes).kind = 0 ∧ (boltHead tBolt.bytes).first = 0 ∧ (boltHead tBolt.bytes).seq = 0xFFFFF % 2 ^ 20 ∧
      openBolt s 7 (boltHead tBolt.bytes) tBolt.bytes = .plain body none ∧ body.length = 484 ∧
      tBoltPkt.payload.length = tBoltPkt.length.toNat ∧ (s.link 7).nakSince = none ∧ (9 : Nat) ≤ 0xFFFFF ∧
      (s.link 7).runs = [{ first := 9, next := 0xFFFFF, synced := true }] ∧ (s.link 7).rxNext = 0xFFFFF := by
  decide +kernel
set_option maxRecDepth 4000 in
theorem witness_BoltsAndRecovery_bad :
    let s := tRx 1 {}
    boltSound { tBolt with fecOk := false } = false ∧ (boltHead tBolt.bytes).kind ≤ 1 ∧ (s.link 7).naking = false ∧
      (s.link 7).naks.length < 15 ∧
    (let b : Bolt := { fecOk := true, bytes := closeBolt (boltHeader 3 false 0 0 0 0) (natLe 2 9) [] }
     boltSound b = true ∧ (boltHead b.bytes).kind = 3 ∧ leAt b.bytes 8 2 = s.peerModule 7 ∧ s.portTalks 7 = true ∧ s.portProfile 7 ≠ 2 ∧
       tBolt.corrected = 0 ∧ s.framed 7 = true ∧ (tPeer 5 1 { step := 8 }).framed 7 = false ∧ 2 ≤ s.portState 7 ∧ s.portState 7 ≤ 7 ∧
       s.doffStep = 0) := by
  decide +kernel
/-- A Far port with bolts 5 and 2^20 + 3 unacknowledged, expecting bolt 10 with bolt 12 missing. -/
def tFar : State :=
  tRx 2 { txCount := 2 ^ 20 + 4, unacked := [⟨2 ^ 20 - 1, [7], 1⟩, ⟨2 ^ 20 + 3, [8], 7⟩], rxNext := 12
          runs := [{ first := 0, next := 12, synced := true }, { first := 13, next := 15, synced := true }], gaps := [(12, 3)]
          sentUnits := [(15, 2 ^ 32 + 8)], credited := [(15, 2 ^ 32 - 1)] }
theorem witness_BoltsAndRecovery_far :
    let s := tFar
    let kept := ((s.acknowledge 7 ((2 : Nat) ^ 20 - 1)).link 7).unacked
    s.portTalks 7 = true ∧ s.portProfile 7 = 2 ∧ s.framed 7 = true ∧ kept ≠ [] ∧ (∀ b ∈ kept, b.sends < 8) ∧
      (∃ b ∈ kept, inSack ⟨0xFFFFF, 0⟩ b.count = true ∧ replayUnreadable s 7 b.count = false) ∧
      (∃ b ∈ (s.link 7).unacked, b.count % 2 ^ 20 = 3) ∧ (s.link 7).gaps ≠ [] ∧
      (let c := countNear (s.link 7).frontier 12
       c < (s.link 7).frontier ∧ c ∈ (s.link 7).gaps.map (·.1)) ∧
      s.portCarries 7 = true ∧
      (let old := mapGet 0 (s.link 7).credited 15
       old + (7 + 2 ^ 32 - old % 2 ^ 32) % 2 ^ 32 ≤ mapGet 0 (s.link 7).sentUnits 15) ∧
      (tRx 1 {}).portTalks 7 = true ∧ (tRx 1 {}).portProfile 7 ≠ 2 := by
  decide +kernel

/-! ### The fabric -/

/-- A small data packet from module 1 to module `dst` on channel 4. -/
def tPkt (dst kind vc : Nat) (esc : Bool) : Pkt :=
  { tBoltPkt with dst := BitVec.ofNat 16 dst, src := 1, vc := BitVec.ofNat 4 vc, origVc := 4, kind := BitVec.ofNat 4 kind, js := 0
                  escaped := esc, id := 0, gen := 0, length := 3, payload := [1, 2, 3], tileIndex := 1, tileOffset := 0, budget := 0 }
theorem witness_FlowSequences :
    let p := tPkt 0 0 4 false
    let k := flowKey 1 0 0 4
    (State.reset.flowsRx.find? (·.1 == k) = none) ∧ (({ State.reset with flowsRx := [(k, 5)] } : State).flowsRx.find? (·.1 == k) = some (k, 5)) ∧
      (1 ≤ (p.seq.toNat + 2 ^ 24 - (p.seq.toNat - (2 ^ 23 - 1))) % 2 ^ 24) ∧ packetOk p = true ∧
      (p.kind ≠ 3 ∧ p.kind ≠ 4) ∧ (({ State.reset with routes := [(0, 2 ^ 62)] } : State).route p.dst.toNat).kind = 1 ∧
      (tPkt 0 4 4 false).kind = 4 ∧ packetOk (tPkt 0 4 4 false) = true ∧ channelNamed State.reset (tPkt 0 4 4 false) = true ∧
      channelNamed State.reset p = true ∧ (tPkt 0 4 4 false).dst.toNat = State.reset.moduleId := by
  decide +kernel

/-- Routes: module 0 is this one, module 2 leaves by port 31 for all ports, its escape port is 30. -/
def tRouted (s : State) : State :=
  { ((s.setPortState 30 6).setVal (fabricKey 9) 0) with routes := [(0, 2 ^ 62), (2, 2 * 2 ^ 62 + 31 * 2 ^ 57 + 30 * 2 ^ 46 + 0xFFFFFFFF)] }
/-- Two packets queued at port 31, the first on the VC1 queue. -/
def tQueued : List Queued :=
  [{ pkt := { tPkt 2 1 1 false with origVc := 1 }, queue := .vc1, headAt := some 0, origin := none, since := 0 },
   { pkt := tPkt 2 0 4 false, queue := .bestEffort 4, headAt := some 0, origin := some (0, 4), since := 0 }]
theorem witness_SwitchAndArbiter_switch :
    let s := tRouted (tPort 31 6 1 {})
    let a : Pkt → Arrived := fun p => { port := some 31, pkt := p, gap := 9, since := 0 }
    let x := tPkt 2 0 4 false
    (tPkt 0 0 4 false ∈ ({ s with toSwitch := [tPkt 0 0 4 false] } : State).toSwitch ∧ packetOk (tPkt 0 0 4 false) = true ∧
      (s.route (tPkt 0 0 4 false).dst.toNat).kind = 1) ∧
    (({ s with arrived := [a x] } : State).arrived.find? fun y => y.port == some 31 && y.pkt == x) = some (a x) ∧
    s.doffStep = 0 ∧ s.portProfile 31 = 1 ∧ (({ s with arrived := [a x] } : State).arrived.find? fun y => y.port == some 31) = some (a x) ∧
    channelNamed { s with schedules := [tSched] } { tPkt 0 3 5 false with origVc := 5, src := 1 } = false ∧
    packetOk { x with reserved := 1 } = false ∧ (packetOk x = true ∧ x.kind ≠ 3 ∧ x.kind ≠ 4 ∧ (s.route x.dst.toNat).kind = 2 ∧
      (s.route x.dst.toNat).ingress.testBit 31 = true ∧ x.hops ≠ 0 ∧ ({ x with hops := 0 } : Pkt).hops = 0 ∧ x.escaped = false ∧
      s.opportunistic = false ∧ s.budgeted x = false ∧ (s.route x.dst.toNat).port = 31 ∧ s.portUp 31 = true) := by
  decide +kernel
theorem witness_SwitchAndArbiter_escape :
    let s := tRouted (tPort 31 6 1 { queue := tQueued.drop 1, sentUnits := [(4, 2 ^ 32)] })
    (s.link 31).queue = tQueued.drop 1 ∧ s.hasCredit 31 4 (pktUnits (tPkt 2 0 4 false)) = false ∧
      (s.route 2).kind = 2 ∧ s.portUp (s.route 2).esc = true := by
  decide +kernel

/-- The arbiter takes the packet of the VC1 queue before the best-effort one. -/
theorem witness_SwitchAndArbiter_depart :
    let s := tRouted (tPort 31 6 1 { queue := tQueued })
    (match choosePacket s 31 with
     | some (q, l) => q.queue == .vc1 && (budgetAtDeparture (s.setLink 31 (unqueue l q s.bandNow)) q).isSome
     | none => false) = true ∧ s.portCarries 31 = true ∧ (s.link 31).peerDraining = false ∧ (s.link 31).peerClosing = false ∧
      (∃ h ∈ headsWithCredit s 31, h.queue = .vc1 ∧ (eligibleAt s 31 h).isSome = true) := by
  decide +kernel

/-- The second transfer's destination, with a use of it: two tiles, the second one not landed. -/
def tLand (l : Landing) : State := { tCore {} with schedules := [tSched], landings := [l], regions := [tRegion] }
/-- The open use, with what has come of tile 1. -/
def tUse (parts : List TilePart) : Landing := { src := 1, js := 0, id := 0, gen := 0, landed := [0], parts := parts, deadline := some 9 }
/-- A whole tile of bytes. -/
def tPart (exact : Bool) (bs : List Byte) : TilePart :=
  { tile := 1, port := 0, exact := exact, pieces := [(64, bs.drop 64), (0, bs.take 64)], total := some bs.length, expiry := some 1 }
/-- A tile in exact form, PLAIN. -/
def tPlain (t : Tile) : List Byte := natLe 64 t.header.toNat ++ natLe 4 0xFFFFFFFF ++ t.payload
theorem witness_DataLanding_packet :
    let s := (tLand (tUse [])).setVal (keyEpoch 0) 4
    let p := { tPkt 0 0 4 false with budget := 0xFFFFFFF }
    let a := (s.takeHanded 31 p).1
    p.kind = 0 ∧ s.landingOf 1 0 0 = some (tSched, 1, tXfer 0 1 0) ∧ groupChannel p.origVc.toNat = true ∧
      p.epoch.toNat = s.val (keyEpoch 0) ∧ s.landing? 1 0 0 = some (tUse []) ∧
      p.tileIndex.toNat < (tXfer 0 1 0).tiles ∧ p.tileIndex.toNat ∉ (tUse []).landed ∧ (tUse []).commit = none ∧
      (tXfer 0 1 0).budget ≠ 0 ∧ budgetOnArrival s a ≠ 0 ∧ budgetOnArrival s (s.takeHanded 31 (tPkt 0 0 4 false)).1 = 0 := by
  decide +kernel
theorem witness_DataLanding_tile : ∀ e ∈ [false, true],
    let t := tFp
    let x := tPart e (if e then tPlain t else tileImage t)
    let s := tLand (tUse [x])
    s.landingFrom 1 0 0 = some (tXfer 0 1 0, tUse [x]) ∧ (tUse [x]).phase = 0 ∧ x.complete = true ∧ s.bandNow < 1 ∧
      s.mirrorOf (tXfer 0 1 0) = none ∧ s.codec = [] ∧ s.domainWorks (domEdge (addrCrown (tileSlot (tXfer 0 1 0) 1).1)) = true ∧
      (if e then s.codecOn = true ∧ exactDecode x.bytes = some t ∧ imageVerifies (tileImage t) 512 = true
       else imageVerifies x.bytes 512 = true ∧ t = { header := hdrOfBytes x.bytes, payload := x.bytes.drop 64 }) := by
  decide +kernel
theorem witness_DataLanding_other : (tPkt 0 2 0 false).kind = 2 ∧ (tPkt 0 5 14 false).kind = 5 ∧
    ((State.reset.takeHanded 31 (tPkt 0 2 0 false)).1.port = some 31) := by decide +kernel

theorem witness_DeliveryAndDeadlines :
    (let s := { tLand (tUse []) with ids := [(0xFFFFF, { phase := 1, gen := 255, t0 := some 0, offered := [0] })] }
     let p := { tPkt 0 4 4 false with id := 0xFFFFF, gen := 255 }
     p.kind = 4 ∧ (s.idState 0 0xFFFFF).phase = 1 ∧ (s.idState 0 0xFFFFF).gen = p.gen.toNat ∧ (s.idState 0 0xFFFFF).gen ≠ 0 ∧
       s.sourcedAny 0 0xFFFFF = some (tSched, 0, tXfer 0xFFFFF 0 1) ∧ (s.idState 0 0xFFFFF).t0.isSome = true ∧
       (tXfer 0xFFFFF 0 1).budget ≠ 0) ∧
    (let s := tLand (tUse [])
     (tPkt 0 3 4 false).kind = 3 ∧ s.landingOf 1 0 0 = some (tSched, 1, tXfer 0 1 0) ∧ s.landing? 1 0 0 = some (tUse []) ∧
       (tUse []).gen = (0 : BitVec 8).toNat ∧ (tUse []).phase ≠ 2 ∧ s.landingFrom 1 0 0 = some (tXfer 0 1 0, tUse []) ∧
       (tUse []).deadline.isSome = true ∧ (tLand { tUse [] with phase := 2 }).landing? 1 0 0 = some { tUse [] with phase := 2 }) := by
  decide +kernel

/-- A schedule image at 0x400: one transfer of two tiles from module `src`'s port 3 to module `dst`. -/
def tImage (src dst : Nat) : List Byte :=
  let rest := natLe 32 (5 * 2 ^ 236 + src * 2 ^ 220 + dst * 2 ^ 204 + 4 * 2 ^ 196 + 2 * 2 ^ 177 + 1000 * 2 ^ 149 + 0x1000 * 2 ^ 101 + 512 * 2 ^ 77) ++
    natLe 8 (src * 2 ^ 48 + 3 * 2 ^ 43) ++ natLe 8 (src * 2 ^ 48 + 3 * 2 ^ 43 + 4 * 2 ^ 39 + 2 * 2 ^ 31)
  let head := natLe 60 (7 * 2 ^ 448 + 2 ^ 400 + 2 ^ 384 + 2 ^ 368 + 1)
  head ++ natLe 4 (crc32c (head ++ rest)) ++ rest
/-- A LOADING schedule whose image stands at 0x400. -/
def tLoading (src dst : Nat) : State :=
  ({ tCore {} with regions := [tBig], schedules := [{ row := 0, state := 1, addr := 0x400, id := 7 }] } : State).writeMem 0x400 (tImage src dst)
theorem witness_ScheduleAdmission_checks :
    (let s := tLoading 1 0
     let x : Schedule := { row := 0, state := 1, addr := 0x400, id := 7 }
     let m := s.seen .firmware
     let h := BitVec.ofNat 512 (leAt (m.readMem x.addr 64) 0 64)
     let bs := m.readMem x.addr (schBytes h)
     let y := readSchedule x h bs
     s.schedules.find? (fun x => x.id == 7 && x.state == 1) = some x ∧ readableImage s x.addr 64 = true ∧ readableImage s x.addr (schBytes h) = true ∧
       m.spanPoisoned x.addr (schBytes h) = false ∧ imageRefused s x h bs = none ∧ localRefusal s y = none ∧ sourcedHere s y = [] ∧
       (∃ m ∈ y.sources, m ∉ x.fits) ∧ y.transfers.map (fun u => (ownTerms s y 0 u).length) = [1] ∧
       localRefusal (s.setVal (keyJsState 0) 0) (readSchedule x h bs) = some (1, 0)) := by
  decide +kernel

/-- A WAITING schedule with a transfer from here, and one from module 1. -/
def tWaiting : Schedule :=
  { tSched with state := 2, transfers := tSched.transfers.map fun t => { t with budget := 5000 } }
/-- The terms of the first transfer: its hop and its destination. -/
def tTerms : List AdmitRecord := [⟨0, 0, 1, 640, 224, 0, 0, 0⟩, ⟨0, 1, 0, 0, 0, 0, 0, 0⟩]
theorem witness_ScheduleAdmission :
    (let s := tCore {}
     admits s tRq 0x3400 1 ∧ s.schedules = [] ∧ freeRow s = some 0 ∧ ∃ x ∈ (tLoading 1 0).schedules, x.state = 1) ∧
    (let s := { tCore {} with schedules := [tWaiting] }
     let y := addTerms tWaiting 1 tTerms
     let u : Transfer := { tXfer 0xFFFFF 0 1 with budget := 5000 }
     s.pendingSchedule 7 = some tWaiting ∧ sourcedHere s y = [(0, u)] ∧ (∃ m ∈ y.sources, m ∉ tWaiting.fits ∧ m ≠ s.moduleId) ∧
       termsComplete (addTerms tWaiting 1 (tTerms.take 1)) 0 u = false ∧ termsComplete y 0 u = true ∧ tTerms ≠ [] ∧ tTerms.length ≤ 127 ∧
       tWaiting.answered = false ∧ budgetRefused s u (admissionTime s y 0 u) = false ∧
       (let z : Schedule := { tWaiting with transfers := tSched.transfers.map fun t => { t with budget := 1 } }
        budgetRefused { s with schedules := [z] } { u with budget := 1 } (admissionTime { s with schedules := [z] } (addTerms z 1 tTerms) 0 { u with budget := 1 }) = true)) ∧
    (let s := { tCore {} with schedules := [tSched] }
     admits s tRq 0x3400 2 ∧ s.schedules.find? (·.id == 7) = some tSched ∧ (∀ t ∈ tSched.transfers, (s.idState t.srcJs t.id).phase = 0) ∧
       s.stepRunning 0 = false ∧ ({ s with ids := [(0xFFFFF, { phase := 2 })] } : State).idState 0 0xFFFFF ≠ {}) := by
  unfold admits; decide +kernel

/-- A route image that delivers to module 0 and has no other entry; the CRC in its header is right. -/
def tRouteRest : List Byte := natLe 8 (2 ^ 62) ++ List.replicate 524280 0
/-- The image's header. -/
def tRouteHead : List Byte := natLe 60 1 ++ natLe 4 (crc32c (natLe 60 1 ++ tRouteRest))
/-- The staged slot in a state, the image to come from 0x400. -/
def tEmptyImage (st : Nat) : State := ({ tCore {} with routeAddr := 0x400, regions := [tBig] } : State).setVal (fabricKey 4) st
/-- The staged slot is being checked, and the image stands at 0x400. -/
def tChecking : State := (tEmptyImage 1).writeMem 0x400 (tRouteHead ++ tRouteRest)

theorem crc_lt (bs : List Byte) : crc32c bs < 2 ^ 32 := by
  have hb : ∀ c, c < 2 ^ 32 → crcBit c < 2 ^ 32 := by
    intro c h; unfold crcBit; split
    · exact Nat.xor_lt_two_pow (by omega) (by decide)
    · omega
  have hf : ∀ (bs : List Byte) c, c < 2 ^ 32 → bs.foldl crcByte c < 2 ^ 32 := by
    intro bs
    induction bs with
    | nil => exact fun c h => h
    | cons b bs ih =>
      intro c h
      refine ih _ ?_
      have : c ^^^ b.toNat < 2 ^ 32 := Nat.xor_lt_two_pow h (by omega)
      exact hb _ (hb _ (hb _ (hb _ (hb _ (hb _ (hb _ (hb _ this)))))))
  exact Nat.xor_lt_two_pow (hf bs _ (by decide)) (by decide)

theorem leNat_zero (bs : List Byte) (h : ∀ b ∈ bs, b = 0) : leNat bs = 0 := by
  induction bs with
  | nil => rfl
  | cons b bs ih =>
    rw [leNat, h b (by simp), ih fun x hx => h x (by simp [hx])]; rfl

theorem leNat_append (a b : List Byte) : leNat (a ++ b) = leNat a + 256 ^ a.length * leNat b := by
  induction a with
  | nil => simp [leNat]
  | cons x a ih => rw [List.cons_append, leNat, leNat, ih, List.length_cons, Nat.pow_succ, Nat.mul_add, Nat.mul_comm (256 ^ a.length) 256,
      Nat.mul_assoc, Nat.add_assoc]

theorem leNat_natLe4 (c : Nat) (h : c < 2 ^ 32) : leNat (natLe 4 c) = c := by
  simp only [natLe, leNat, BitVec.toNat_ofNat]; omega

theorem firstEntry_none (vs : List Nat) (bad : Nat → Nat → Option Nat) (h : ∀ i v, vs[i]? = some v → bad i v = none) :
    firstEntry vs bad = none := by
  have : ∀ (vs : List Nat) n, (∀ i v, vs[i]? = some v → bad (n + i) v = none) →
      (vs.foldl (fun (acc : Nat × Option (Nat × Nat)) v =>
        (acc.1 + 1, match acc.2 with | some x => some x | none => (bad acc.1 v).map fun p => (acc.1, p))) (n, none)).2 = none := by
    intro vs
    induction vs with
    | nil => intro n _; rfl
    | cons v vs ih =>
      intro n h
      have h0 := h 0 v rfl
      simp only [Nat.add_zero] at h0
      simp only [List.foldl_cons, h0, Option.map_none]
      exact ih (n + 1) fun i v hv => by have := h (i + 1) v hv; rwa [show n + 1 + i = n + (i + 1) by omega]
  exact this vs 0 (by simpa using h)

theorem tRouteHead_length : tRouteHead.length = 64 := rfl
theorem tRouteRest_length : tRouteRest.length = 524288 := by
  rw [tRouteRest, List.length_append, List.length_replicate]; rfl
theorem tChecking_image : tChecking.readMem 0x400 routeImageBytes = tRouteHead ++ tRouteRest := by
  have h : (tRouteHead ++ tRouteRest).length = routeImageBytes := by
    rw [List.length_append, tRouteHead_length, tRouteRest_length]; rfl
  rw [← h]; exact State.readMem_writeMem _ _ _

theorem tChecking_val (k : Key) : tChecking.val k = (tEmptyImage 1).val k := by
  rw [State.val, tChecking, State.writeMem_dict]; rfl

theorem tRoute_entry (d : Nat) (hd : d < 65536) :
    leAt (tRouteHead ++ tRouteRest) (64 + 8 * d) 8 = if d = 0 then 2 ^ 62 else 0 := by
  have h0 : (tRouteHead ++ tRouteRest).drop (64 + 8 * d) = tRouteRest.drop (8 * d) := by
    rw [List.drop_append, tRouteHead_length]; simp [tRouteHead_length]
  have hn : (natLe 8 (2 ^ 62)).length = 8 := rfl
  by_cases h : d = 0
  · have ht : (tRouteRest.drop (8 * d)).take 8 = natLe 8 (2 ^ 62) := by
      rw [h, Nat.mul_zero, List.drop_zero, tRouteRest]; exact List.take_left' hn
    rw [if_pos h, leAt, sliceBytes, h0, ht]; rfl
  · have h1 : tRouteRest.drop (8 * d) = List.replicate (524280 - (8 * d - 8)) 0 := by
      rw [tRouteRest, List.drop_append, hn, List.drop_of_length_le (by omega), List.drop_replicate, List.nil_append]
    rw [if_neg h, leAt, sliceBytes, h0, h1]
    apply leNat_zero
    intro b hb
    rcases List.mem_append.1 hb with hb | hb
    · exact List.eq_of_mem_replicate (List.mem_of_mem_take hb)
    · exact List.eq_of_mem_replicate hb

set_option exponentiation.threshold 600 in
theorem witness_RouteImages_check :
    let s := tChecking
    let m := s.seen .firmware
    let bs := m.readMem s.routeAddr routeImageBytes
    let header := BitVec.ofNat 512 (leAt bs 0 64)
    let vs := (List.range 65536).map fun d => leAt bs (64 + 8 * d) 8
    let crc := crcHeaderOk (bs.take 64) (bs.drop 64) && !m.spanPoisoned s.routeAddr routeImageBytes
    s.stagedState = 1 ∧ routeRefusal s header crc vs = none := by
  intro s m bs header vs crc
  have hbs : bs = tRouteHead ++ tRouteRest := tChecking_image
  have hm : s.moduleId = 0 := by
    rw [State.moduleId, tChecking_val]; decide +kernel
  have hvs : ∀ i v, vs[i]? = some v → v = if i = 0 then 2 ^ 62 else 0 := by
    intro i v hv
    by_cases hi : i < 65536
    · simp only [vs, hbs, List.getElem?_map, List.getElem?_range hi, Option.map_some, Option.some.injEq] at hv
      rw [← hv]; exact tRoute_entry i hi
    · rw [List.getElem?_eq_none (by simp only [vs, List.length_map, List.length_range]; omega)] at hv; cases hv
  have hcrc : crc = true := by
    have ht : bs.take 64 = tRouteHead := by rw [hbs]; exact List.take_left' rfl
    have hd : bs.drop 64 = tRouteRest := by rw [hbs]; exact List.drop_left' rfl
    have hs : m.spanPoisoned s.routeAddr routeImageBytes = false := rfl
    have hl : leAt tRouteHead 60 4 = crc32c (natLe 60 1 ++ tRouteRest) := leNat_natLe4 _ (crc_lt _)
    simp only [crc, ht, hd, hs, crcHeaderOk, hl, Bool.not_false, Bool.and_true, beq_iff_eq]
    rfl
  have hc := crc_lt (natLe 60 1 ++ tRouteRest)
  have hh : header.toNat = 1 + 256 ^ 60 * crc32c (natLe 60 1 ++ tRouteRest) := by
    have ht : (bs.drop 0).take 64 = tRouteHead := by rw [hbs]; exact List.take_left' rfl
    have h1 : leAt bs 0 64 = leNat tRouteHead := by rw [leAt, sliceBytes, ht]; rfl
    have h2 : leNat tRouteHead = 1 + 256 ^ 60 * crc32c (natLe 60 1 ++ tRouteRest) := by
      have h3 : leNat (natLe 60 1) = 1 := by decide
      rw [tRouteHead, leNat_append, leNat_natLe4 _ hc, h3, show (natLe 60 1).length = 60 from rfl]
    rw [show header.toNat = leAt bs 0 64 % 2 ^ 512 from BitVec.toNat_ofNat _ _, h1, h2]; omega
  have hg : ∀ lo n, getf header lo n = ((1 + 256 ^ 60 * crc32c (natLe 60 1 ++ tRouteRest)) / 2 ^ lo) % 2 ^ n := by
    intro lo n; rw [getf, hh, Nat.shiftRight_eq_div_pow]
  refine ⟨?_, ?_⟩
  · rw [State.stagedState, tChecking_val]; decide +kernel
  have hk : ∀ v, (v = 2 ^ 62 ∨ v = 0) → (routeOf v).kind ≠ 2 ∧ routeFieldsOk v = true := by
    rintro v (rfl | rfl) <;> decide
  have hv2 : ∀ (i v : Nat), vs[i]? = some v → v = 2 ^ 62 ∨ v = 0 := by
    intro i v hv
    have := hvs i v hv
    by_cases hi : i = 0
    · exact .inl (this.trans (if_pos hi))
    · exact .inr (this.trans (if_neg hi))
  have e1 : getf header 80 400 = 0 := by rw [hg]; omega
  have e2 : getf header 16 16 = 0 := by rw [hg]; omega
  have e3 : getf header 0 16 = 1 := by rw [hg]; omega
  have e4 : getf header 64 16 = 0 := by rw [hg]; omega
  have f1 : firstEntry vs (fun _ v => if routeFieldsOk v then none else some 0) = none :=
    firstEntry_none _ _ fun i v hv => if_pos (hk v (hv2 i v hv)).2
  have f2 : firstEntry vs (fun d v => if ((routeOf v).kind == 1) == (d == 0) then none else some 0) = none := by
    refine firstEntry_none _ _ fun i v hv => ?_
    have hv' := hvs i v hv
    by_cases hi : i = 0
    · subst hi; subst hv'; rfl
    · rw [if_neg hi] at hv'
      have : (i == 0) = false := by simpa using hi
      subst hv'; simp only [this]; rfl
  have f3 : ∀ (f : RouteEntry → Option Nat), firstEntry vs (fun _ v => if (routeOf v).kind = 2 then f (routeOf v) else none) = none :=
    fun f => firstEntry_none _ _ fun i v hv => if_neg (hk v (hv2 i v hv)).1
  rw [routeRefusal, hcrc, e1, e2, e3, e4, hm, f1, f2, f3,
    f3 fun e => (routePorts e).find? fun p => s.val (portKey p 5) == 0 || s.val (portKey p 6) == 0]; rfl

theorem witness_RouteImages :
    (let s := tEmptyImage 0
     admits s tRq 0x3000 2 ∧ s.stagedState ≠ 1 ∧ swapPending s = false ∧ readableImage s 0x400 routeImageBytes = true ∧
       (tEmptyImage 1).stagedState = 1 ∧ admits (tEmptyImage 1) tRq 0x3000 2) ∧
    admits (tEmptyImage 2) tRq 0x3000 3 ∧ (tEmptyImage 2).stagedState = 2 ∧ admits (tEmptyImage 1) tRq 0x3000 3 ∧
    admits (tEmptyImage 3) tRq 0x3000 3 ∧ (tEmptyImage 3).stagedState = 3 := by
  unfold admits; decide +kernel

set_option exponentiation.threshold 600 in
/-- Of an image of zeros the header is refused. -/
theorem witness_RouteImages_refused :
    let s := tEmptyImage 1
    let bs := (s.seen .firmware).readMem s.routeAddr routeImageBytes
    let header := BitVec.ofNat 512 (leAt bs 0 64)
    ∀ vs crc, routeRefusal s header crc vs = some (1, 0, 0) := by
  intro s bs header vs crc
  have hz : ∀ m a n, (∀ k, mapGet 0 m k = 0) → ∀ b ∈ bytesGet m a n, b = 0 := by
    intro m a n hm
    induction n generalizing a with
    | zero => simp [bytesGet]
    | succ n ih => intro b hb; exact (List.mem_cons.1 hb).elim (fun h => h ▸ hm a) (ih _ b)
  have h0 : leAt bs 0 64 = 0 := by
    apply leNat_zero
    intro b hb
    rcases List.mem_append.1 hb with hb | hb
    · exact hz [] _ _ (fun _ => rfl) b (List.mem_of_mem_drop (List.mem_of_mem_take hb))
    · exact List.eq_of_mem_replicate hb
  simp only [routeRefusal, header, h0]
  rw [show (getf (BitVec.ofNat 512 0) 0 16 != 1) = true from rfl, Bool.or_true]; rfl

/-! ### Power, doffing, the lining, the dictionary -/

theorem witness_PowerManagement :
    let s := tCore {}
    let cap : Key := ⟨0x2000, 1, 0⟩
    admits s tRq 0x2000 1 ∧ s.floorW ≤ 1220 ∧ (1287 : Nat) < (s.setVal ⟨0x5000, 1, 0⟩ 1).floorW ∧ admits (s.setVal ⟨0x5000, 1, 0⟩ 1) tRq 0x2000 1 ∧
      admits s tRq 0x2000 2 ∧ (0 : Nat) < s.floorW ∧ s.doffStep = 0 ∧ s.mrstLow = false ∧ s.thermTrip = false ∧ admits s tRq 0x5000 1 ∧
      (∀ j, j < 4 → s.stepRunning j = false) ∧ 1288 ≤ s.val cap ∧ s.rings = [] ∧
      ({ s with opTarget := [(3, 7)] } : State).opTarget.find? (·.1 == 3) = some (3, 7) ∧ (3 : Nat) ∉ s.stretched ∧ s.lifecycle ≠ 0 ∧ s.lifecycle ≠ 6 ∧
      3 ∈ ({ s with stretched := [3] } : State).stretched ∧ 3 ≤ s.lifecycle ∧ s.lifecycle ≤ 5 ∧
      inputHeld ⟨1100 * s.capNow, 48000, [], [], [], [], [], [], [], []⟩ s = true ∧
      inputHeld ⟨1100 * s.capNow + 1, 48000, [], [], [], [], [], [], [], []⟩ s = false := by
  unfold admits; decide +kernel

theorem witness_DoffSequence :
    let s := tPort 31 6 1 {}
    s.lifecycle ≠ 0 ∧ s.mrstLow = false ∧ s.doffStep = 0 ∧ s.thermTrip = false ∧ s.portState 31 = 6 ∧
      ({ s with doffStep := 3 } : State).doffStep = 3 ∧ ({ s with doffStep := 4 } : State).doffStep = 4 ∧
      (let w : State := { s with doffStep := 3, doffNow := true }
       w.doffStep ≠ 0 ∧ w.doffNow = true ∧ w.val ⟨0x7000, 2, 0⟩ < 2 ^ 48 - 1 ∧ w.val ⟨0x7000, 3, 0⟩ < 2 ^ 48 - 1) := by
  decide +kernel

/-- The header of an image of kind 4. -/
def tImgHead : List Byte :=
  let h := natLe 60 (1 + 4 * 2 ^ 16 + 0xB0 * 2 ^ 40 + 64 * 2 ^ 96)
  h ++ natLe 4 (crc32c h)
/-- Maintenance, with a staging of that image from the start of region 0. -/
def tStaging : State := ({ (tMaint (tCore {})).setVal stageKey 1 with regions := [tRegion] } : State).writeMem 0 tImgHead
theorem witness_LiningCommands :
    let s := tMaint (tCore {})
    s.staging = false ∧ admits s tRq 0x6000 5 ∧ admits s tRq 0x6000 0x13 ∧ admits s tRq 0x6000 0x14 ∧ s.retired = false ∧ (0xC0DEDEAC : Word) ≠ 0xC0DEDEAD ∧
      (∀ v ∈ [0, 1], (v : Byte).toNat ≤ 1) ∧ (List.replicate 64 (7 : Byte)).length = 64 ∧ (3 : Byte).toNat < 4 ∧
      admits s tRq 0x6000 0x15 ∧ admits s tRq 0x6000 0x0B ∧ (List.range 4).find? (fun i => s.val (ownerKey i) == 0) = some 0 ∧
      (List.range 4).find? (fun i => (s.setVal (ownerKey 0) 5).val (ownerKey i) == 0) = some 1 ∧
      admits s tRq 0x6000 0x0C ∧ admits { s with regions := [tRegion] } tRq 0x6000 8 ∧ readableHbm { s with regions := [tRegion] } 0 64 = true ∧
      admits s tRq 0x6000 7 ∧ admits s tRq 0x6000 0x10 ∧ (s.setPortState 31 6).portState 31 = 6 := by
  unfold admits; decide +kernel
theorem witness_LiningCommands_staging :
    let s := tStaging
    let m := s.seen .firmware
    s.staging = true ∧ admits s tRq 0x6000 0x13 ∧ m.readMem s.stageAddr 64 = tImgHead ∧ imgHeaderOk tImgHead = true ∧
      readableHbm s s.stageAddr (imgBytes tImgHead) = true ∧ m.spanPoisoned s.stageAddr (imgBytes tImgHead) = false ∧ s.bootBank ≤ 1 := by
  unfold admits; decide +kernel
/-- The table that is there already, and one that changes the row of the UP port 31. -/
theorem witness_LiningCommands_peers :
    let s := (tMaint (tPort 31 6 1 {}))
    let old : List Byte := List.replicate 2048 0
    let new : List Byte := List.replicate 2047 0 ++ [1]
    admits s tRq 0x6000 0x10 ∧ old.length = 2048 ∧ new.length = 2048 ∧ s.portState 31 = 6 ∧ leAt old (64 * 31) 64 = s.val (peerKey 31) ∧
      leAt new (64 * 31) 64 ≠ s.val (peerKey 31) := by
  unfold admits; decide +kernel

/-- A connection that has agreed on algorithms, with a request and a response in parts. -/
def tConn (stage : Nat) : State :=
  (tCore {}).setConn tRq.who { stage := stage, request := some (7, 2, [1]), response := some (3, [4, 5]), handle := 9 }
theorem witness_SpdmExchange :
    let s := tConn 3
    s.reachable = true ∧ (s.conn tRq.who).stage = 3 ∧ ((tCore {}).conn tRq.who).stage < 3 ∧ s.retired = false ∧ s.signing = [] ∧
      ({ s with retired := true } : State).retired = true ∧ (s.conn tRq.who).request = some (7, (2 : BitVec 16).toNat, [1]) ∧
      (s.conn tRq.who).handle = (9 : Byte).toNat ∧ (s.conn tRq.who).response = some ((3 : BitVec 16).toNat, [4, 5]) ∧
      ((tCore {}).conn tRq.who).stage = 0 ∧ ((tConn 1).conn tRq.who).stage = 1 ∧ ((tConn 2).conn tRq.who).stage = 2 ∧
      measurementBlocks s 9 = none ∧ measurementBlocks s 0 = some [8] ∧
      spdmRequestOf ([0, 0xE0, 1, 0xFF] ++ List.replicate 32 3) = some (.measurements 0xFF (List.replicate 32 3)) ∧
      spdmRequestOf [0, 0x80, 0, 0] = none ∧
      (let x : SignJob := { who := tRq.who, code := 3, body := [], ack := [] }
       ({ s with signing := List.replicate 5 x } : State).signing.length = 5 ∧ ({ s with signing := List.replicate 4 x } : State).signing.length < 5 ∧
         x.ack = [] ∧ ({ x with ack := [7, 2, 0] } : SignJob).ack ≠ []) := by
  decide +kernel
/-- A request that offers both algorithms, and that the answer of a request in parts can be a reply, an error or a signature. -/
theorem witness_SpdmExchange_algorithms :
    (∀ a ∈ spdmAlgorithms, offers spdmAlgorithms.flatten a = true) ∧ spdmRequestOf [0, 0xE1, 0, 0] = some .capabilities ∧
      (∀ s c, (spdmAnswer s c .capabilities).2 = .reply 0x61 (Config.protocolBytes 1)) ∧
      (∀ s c, (spdmAnswer s c (.measurements 9 [])).2 = .error 0x01) ∧
      ∀ s c, (spdmAnswer s c (.challenge [])).2 = .signed 0x03 (shake256 64 certificate ++ []) := by
  refine ⟨?_, by decide +kernel, fun _ _ => rfl, fun _ _ => rfl, fun _ _ => rfl⟩
  intro a h
  simp only [spdmAlgorithms, List.mem_cons, List.not_mem_nil, or_false] at h
  simp only [offers, List.any_eq_true, List.isPrefixOf_iff_prefix, spdmAlgorithms, List.flatten_cons, List.flatten_nil, List.append_nil]
  rcases h with rfl | rfl
  · exact ⟨0, by simp, by rw [List.drop_zero]; exact List.prefix_append _ _⟩
  · exact ⟨(Config.extAlgorithm 0x1E4F 0).length, by simp [List.mem_range] <;> omega, by rw [List.drop_left' rfl] <;> exact List.prefix_rfl⟩

/-- A subscription of `tRq` to row 31 of CLUSTER_DUTY, of kind 0. -/
def tSub : Subscription :=
  { who := tRq.who, number := 5, index := 0x2000, sub := 0x0C, row := 31, kind := 0, interval := 2, threshold := 3, reference := 9
    sequence := 0xFFFFFFFF, elapsed := some 1 }
theorem witness_DictionaryReads :
    let s := tCore {}
    s.reachable = true ∧ headerWellFormed tRq = true ∧ notReady s 0x2000 true = false ∧ entryOf 0x2000 0xFE = none ∧
      (match entryOf 0x2000 0x0C with
        | some e => decide (getRefusal s tRq.who e 0x2000 0x0C = none) && (derivedValue s 0x2000 0x0C).isNone && decide (e.length ≤ 64) &&
            subscribable e && decide (31 < e.rows)
        | none => false) = true ∧
      (match entryOf 0x2000 1 with | some e => decide (e.cells * max 1 e.rows = 1) && (derivedValue s 0x2000 1).isNone | none => false) = true ∧
      s.lifecycle ≠ 2 ∧ s.subscriptions = [] ∧ ¬ (0x2000 = 0x1100 ∧ 0x0C = 4) ∧
      ({ s with subscriptions := [tSub] } : State).subscriptions.any (fun x => x.number == 5 && requesterId x.who == requesterId tRq.who) = true := by
  decide +kernel
theorem witness_DictionaryReads_set :
    let s := (tCore {}).putStaged (requesterId tRq.who) 0x2000 1 [1, 2, 3]
    setRefusal s tRq 0x2000 1 = none ∧ entryBusy s 0x2000 1 = false ∧ (entryOf 0x2000 1).map (·.length) = some 4 ∧
      s.stagedFor (requesterId tRq.who) 0x2000 1 = [1, 2, 3] ∧ ((3 : Word).toNat = 3 ∧ (3 : Word) ≠ 0 ∧ 3 + 1 = 4 ∧ 3 < (4 : Word).toNat) := by
  decide +kernel
/-- A subscription whose condition holds at the end of its interval, and one whose interval is not over. -/
theorem witness_DictionaryReads_sample :
    let s := ({ tCore {} with subscriptions := [tSub] } : State)
    s.subscriptions[0]? = some tSub ∧ (∀ m, tSub.elapsed = some m → tSub.interval ≤ m + 1) ∧
      (match entryOf 0x2000 0x0C with
        | some e =>
          let num := targetNum e (isFloatEntry e 0x2000 0x0C)
          fires tSub (num (targetValue s e 0x2000 0x0C 31)) (num 9) (num 3)
        | none => false) = true ∧ ¬ ∀ m, ({ tSub with interval := 3 } : Subscription).elapsed = some m → 3 ≤ m + 1 := by
  refine ⟨by decide +kernel, ?_, by decide +kernel, ?_⟩
  · intro m h; cases h; decide
  · intro h; exact absurd (h 1 rfl) (by decide)

theorem witness_MaintenanceAndMctp :
    let s := tMaint (tCore {})
    let id := requesterId tRq.who
    admits s tRq 0x1100 5 ∧ s.staging = false ∧ s.val holderKey = id ∧ (s.setVal holderKey 1).val holderKey ≠ 0 ∧
      admits (s.setVal holderKey 1) tRq 0x1100 5 ∧ (s.setVal holderKey 1).val holderKey ≠ id ∧ admits s tRq 0x1100 6 ∧ s.val holderKey ≠ 0 ∧
      admits (s.setVal ⟨0x1000, 7, 0⟩ 4) tRq 0x1100 1 ∧ (s.setVal ⟨0x1000, 7, 0⟩ 4).lifecycle = 4 ∧ admits s tRq 0x1100 1 ∧ s.lifecycle = 3 ∧
      admits (s.setVal ⟨0x1000, 7, 0⟩ 5) tRq 0x1100 1 ∧ (s.setVal ⟨0x1000, 7, 0⟩ 5).lifecycle = 5 ∧ admits s tRq 0x1100 2 ∧
      admits s tRq 0x8000 1 ∧ admits s tRq 0x7000 6 ∧ s.reachable = true := by
  unfold admits; decide +kernel
/-- A claim by the key of owner slot 0. -/
def tClaim : List Byte := List.replicate 29860 0
/-- The right free, a digest in owner slot 0, and nonces. -/
def tClaiming (v : Nat) (ns : List (Nat × BitVec 256)) : State :=
  { ((tMaint (tCore {})).setVal holderKey 0).setVal (ownerKey 0) v with nonces := ns }
theorem witness_MaintenanceAndMctp_claim :
    let n : BitVec 256 := 0
    let v := digest64 (List.replicate 64 0)
    let s := tClaiming v [(requesterId tRq.who, n)]
    tClaim.length = 29860 ∧ (tClaim.getD 0 0).toNat = 0 ∧ leAt tClaim 1 3 = 0 ∧ digest64 ((tClaim.drop 4).take 64) = s.val (ownerKey 0) ∧
      s.ownerOk 0 = true ∧ s.val holderKey = 0 ∧ s.nonces.find? (·.1 == requesterId tRq.who) = some (requesterId tRq.who, n) ∧
      admits s tRq 0x1100 5 ∧ (tClaiming v []).nonces.find? (·.1 == requesterId tRq.who) = none := by
  have hk : (tClaim.drop 4).take 64 = List.replicate 64 0 := List.eq_replicate_iff.2 ⟨by
    rw [List.length_take, List.length_drop, show tClaim.length = 29860 from List.length_replicate]; decide, fun b hb =>
    List.eq_of_mem_replicate (List.mem_of_mem_drop (List.mem_of_mem_take hb))⟩
  have hv : ∀ v ns, (tClaiming v ns).val (ownerKey 0) = v := fun v ns => mapGet_set_same _ _ _ v
  have h : (tClaiming (digest64 (List.replicate 64 0)) []).ownerOk 0 = true ∧
      (tClaiming (digest64 (List.replicate 64 0)) []).val holderKey = 0 ∧
      admits (tClaiming (digest64 (List.replicate 64 0)) []) tRq 0x1100 5 := by unfold admits; decide +kernel
  exact ⟨List.length_replicate, by decide +kernel, by decide +kernel, by rw [hk, hv], h.1, h.2.1, rfl, h.2.2, rfl⟩

/-! ### The host interface -/

/-- Queue 63 in a state with the link up and bus mastering on. -/
def tQueue (x : HostQueue) : State := { tCore {} with linkUp := true, busMaster := true, queues := [(63, x)], regions := [tRegion] }
/-- An SQ entry. -/
def tSqe (op addr len : Nat) : BitVec 512 := BitVec.ofNat 512 (op + 7 * 2 ^ 16 + 0x1000 * 2 ^ 64 + addr * 2 ^ 128 + len * 2 ^ 192)
/-- An ENABLED queue with a command available, its SQ and CQ at their last slots. -/
def tAvail (e : BitVec 512) : State := tQueue { cfg := 0x80088000, state := 1, avail := [e], sqHead := 15, sqTail := 0, cqTail := 15, cqHead := 15 }
/-- An ENABLED queue with a copy that has started, its requests done. -/
def tCopy (op len : Nat) : State :=
  tQueue { cfg := 0x80088000, state := 1, active := [{ entry := tSqe op 0xFFF00 len, token := 5 }], sqHead := 15, cqTail := 15, cqHead := 15 }

theorem witness_HostQueues_registers :
    (let s := tQueue {}
     let v : Word := 0x80000000 + 4 * 2 ^ 17 + 12 * 2 ^ 13
     s.hostReady = true ∧ s.hostWrites = true ∧ bitf v 31 = true ∧ (s.hostQueue 63).state = 0 ∧ s.val (keyJsState (getf v 29 2)) = 1 ∧
       4 ≤ getf v 17 4 ∧ getf v 17 4 ≤ 12 ∧ 4 ≤ getf v 13 4 ∧ getf v 13 4 ≤ 12 ∧ getf (0x80000000 : Word) 17 4 < 4 ∧ bitf (0 : Word) 31 = false) ∧
    (let s := tCopy 1 128
     (s.hostQueue 63).state = 1 ∧ bitf (s.hostQueue 63).cfg 31 = true ∧ (∃ c ∈ (s.hostQueue 63).active, c.done = none) ∧
       (15 : Nat) < (s.hostQueue 63).sqSize ∧ (s.hostQueue 63).sqSize ≤ 16 ∧
       (2 + (s.hostQueue 63).sqSize - (s.hostQueue 63).sqTail) % (s.hostQueue 63).sqSize = 2 ∧
       (15 < (s.hostQueue 63).cqSize ∧ (15 + 16 - (s.hostQueue 63).cqHead) % 16 ≤ ((s.hostQueue 63).cqTail + 16 - (s.hostQueue 63).cqHead) % 16) ∧
       ∀ c ∈ (s.hostQueue 63).active, c.done = none) ∧
    (let s := tQueue { cfg := 0x80088000, state := 1, active := [{ entry := 0, done := some (0, 5) }], cqTail := 3, cqHead := 4 }
     let x := s.hostQueue 63
     s.hostWrites = true ∧ x.active = [{ entry := 0, done := some (0, 5) }] ∧ (1 : Nat) < x.cqSize ∧
       (1 + x.cqSize - x.cqHead) % x.cqSize ≤ (x.cqTail + x.cqSize - x.cqHead) % x.cqSize ∧ (x.cqTail + 1) % x.cqSize ≠ 1 ∧ s.busMaster = true) := by
  decide +kernel

theorem witness_HostQueues_commands :
    (let s := tAvail (tSqe 3 0 0 + 256)
     let x := s.hostQueue 63
     (x.avail.head? == some (tSqe 3 0 0 + 256)) = true ∧ x.state = 1 ∧ s.hostWrites = true ∧ s.busMaster = true ∧ x.active = [] ∧ x.cqRoom = true ∧
       s.isSpare x.js = false ∧ s.startsSteps = true ∧ s.val (keyJsState x.js) = 1 ∧ s.val (keyTriggers x.js) < 15 ∧
       (s.setVal (keyTriggers x.js) 15).val (keyTriggers x.js) = 15 ∧ s.access (some x.js) 0xFFFC0 64 .host = true ∧
       s.access (some x.js) 0x100000 64 .host = false ∧ entryOk (tSqe 3 0 0 + 256) = true ∧ entryOk (tSqe 0 0 0) = true ∧
       entryOk (tSqe 0 0 64) = false ∧ entryOk (tSqe 1 0xFFFC0 64) = true ∧ entryOk (tSqe 1 0x100000 64) = true ∧ entryOk (tSqe 1 0 63) = false ∧
       entryOk (tSqe 2 0xFFFC0 64) = true ∧ entryOk (tSqe 2 0x100000 64) = true ∧ getf (tSqe 4 0 0) 0 8 = 4) := by
  decide +kernel

theorem witness_HostQueues_copies : ∀ op ∈ [1, 2],
    let s := tCopy op 128
    let x := s.hostQueue 63
    x.active = [{ entry := tSqe op 0xFFF00 128, token := 5 }] ∧ x.state = 1 ∧ s.tokenBusy 5 = false ∧ s.busMaster = true ∧ s.hostWrites = true ∧
      x.cqRoom = true ∧ s.access (some x.js) 0xFFF00 128 .host = true ∧ ({ s with regions := [] } : State).access (some x.js) 0xFFF00 128 .host = false ∧
      getf (tSqe op 0xFFF00 128) 0 8 = op ∧ getf (tSqe op 0xFFF00 128) 192 40 = 128 ∧ (List.replicate 64 (1 : Byte)).length < 128 ∧
      (∀ i, i < 2 → s.atomPoisoned (0xFFF00 / 64 + i) = false) ∧ (s.poisonAtom (0xFFF40 / 64)).atomPoisoned (0xFFF00 / 64 + 1) = true ∧
      (∀ k, k < 1 → (s.poisonAtom (0xFFF40 / 64)).atomPoisoned (0xFFF00 / 64 + k) = false) := by
  decide +kernel

theorem witness_HostQueues_vectors :
    let s : State := { tQueue {} with msixBusy := [255], msixOwed := [255], msixTable := [(255, 0x1000)] }
    255 ∈ s.msixBusy ∧ 255 ∈ s.msixOwed ∧ (255 : Byte) ≠ 0 ∧ (255 : Nat) ∉ s.msixPending ∧ s.busMaster = true ∧
      s.msixEntry 255 / 2 ^ 96 % 2 = 0 ∧ (255 : Nat) ∉ ({ s with msixOwed := [] } : State).msixOwed ∧ s.hostReady = true ∧ s.hostWrites = true ∧
      (∀ r ∈ s.hbm ++ [{ who := .pcie, token := 1, addr := 0, bytes := 64, write := false }, { who := .core 0, token := 2, addr := 64, bytes := 4, write := true, data := [1, 2, 3, 4] }],
        r.who = .pcie → r.write = true → r.data = []) ∧
      (∀ j ∈ [0, 3], s.isSpare j = false) ∧ s.startsSteps = true ∧ s.val (keyJsState 0) = 1 ∧ s.val (keyTriggers 0) < 15 ∧
      (s.setVal (keyJsState 3) 1).val (keyJsState 3) = 1 ∧ (s.setVal (keyTriggers 3) 14).val (keyTriggers 3) < 15 := by
  decide +kernel

/-- Window entry 32,767, the last of a BAR2 of 64 GiB, to page 0 with HOST write. -/
def tWindow (e : Nat) : State := { tQueue {} with windows := [(32767, BitVec.ofNat 64 e)], regions := [tBig] }
theorem witness_HostWindow :
    let s := tWindow (2 ^ 63 + 2 ^ 62 + 2 ^ 21)
    let hosted := fun (v : DWord) => s.regions.any fun r =>
      r.state == .active && decide (r.tier ≤ 2) && r.host && r.holds (getf v 21 27 * 0x200000) 0x200000
    s.hostReady = true ∧ (32767 : Nat) < 2 ^ (s.bar2Log2 - 21) ∧ 2 ^ (s.bar2Log2 - 21) ≤ 32768 ∧ hosted (2 ^ 63) = true ∧
      hosted (2 ^ 63 + 2 ^ 40) = false ∧ s.barsRespond = true ∧ 2 ^ 36 - 1 < 2 ^ s.bar2Log2 ∧ bitf (s.windowEntry 32767) 63 = true ∧
      bitf (s.windowEntry 32767) 62 = true ∧ bitf (s.windowEntry 0) 63 = false ∧ s.lifecycle ≠ 6 ∧
      (s.setVal ⟨0x1000, 7, 0⟩ 6).lifecycle = 6 ∧ (s.setVal ⟨0x1000, 7, 0⟩ 6).barsRespond = true ∧ s.linkUp = true ∧ s.hostWrites = true ∧
      s.d3hot = false ∧ s.hbmWaiting = [] ∧ (0x31000 : Nat) ≤ 2 ^ 26 - 1 ∧ (0x14 : Nat) % 8 ≠ 0 ∧ (0x10000 + 64 * 63 + 8 < 0x11000 : Prop) ∧
      0 ∈ ({ s with msixPending := [0], msixTable := [(0, 0x1000)] } : State).msixPending ∧ ({ s with d3hot := true } : State).d3hot = true ∧ s.perstLow = false ∧ s.mrstLow = false ∧ s.lifecycle ≠ 0 ∧
      s.eventCause &&& s.eventMask = 0 ∧ (let c : State := { s with eventCause := 4, eventMask := 0, msixTable := [(0, 0x1000)] }
        c.eventCause &&& c.eventMask = 0 ∧ c.eventCause &&& 4 ≠ 0 ∧ c.msixEntry 0 / 2 ^ 96 % 2 = 0) := by
  decide +kernel

/-! ### Power-up, resets and pins -/

theorem tShipped (s : State) (h : s.val securityKey = 0) (f : s.val ⟨0x6000, 7, 0⟩ = 0) (a : s.bankA = {}) (b : s.bankB = {}) :
    s.bootChoice false = some (0, false) ∧ s.bootChoice true = some (1, true) := by
  constructor <;> simp [State.bootChoice, bankBoots, bankFirm, kindValid, Bank.written, State.bank, h, f, a, b]
/-- The module as shipped, in a life-cycle state. -/
def tPower (l : Nat) : State := State.reset.setVal ⟨0x1000, 7, 0⟩ l
/-- Both banks without an image. -/
def tNoImage (s : State) : State := { s with bankA := { shipped := [] }, bankB := { shipped := [] } }
theorem tPower_boots (l : Nat) (h : l = 0 ∨ l = 4) : ((tPower l).afterReset 1).bootChoice false = some (0, false) ∧
    ((tPower l).afterReset 1).bootChoice true = some (1, true) := by
  apply tShipped <;> (rcases h with rfl | rfl <;> decide +kernel)

theorem witness_PowerUp_input :
    (tPower 0).lifecycle = 0 ∧ (tPower 0).railFailures < 2 ∧ (tPower 0).mrstLow = false ∧
      ((tPower 0).afterReset 1).bootChoice false = some (0, false) ∧ ((tNoImage (tPower 0)).afterReset 1).bootChoice false = none ∧
      (tNoImage (tPower 0)).lifecycle = 0 ∧ ({ slotId := 1, missed := some (2, 7) } : PowerUpInputs).missed = some (2, 7) ∧
      ({ slotId := 1 } : PowerUpInputs).missed = none ∧ ({ slotId := 1, selfTestOk := true, storeTagOk := true } : PowerUpInputs).selfTestOk = true ∧
      ({ slotId := 1, selfTestOk := false, storeTagOk := true } : PowerUpInputs).selfTestOk = false ∧
      ({ tPower 0 with mrstLow := true } : State).lifecycle = 0 ∧ ({ tPower 0 with mrstLow := true } : State).mrstLow = true :=
  ⟨by decide +kernel, by decide +kernel, by decide +kernel, (tPower_boots 0 (.inl rfl)).1, by decide +kernel, by decide +kernel, rfl, rfl, rfl, rfl, by decide +kernel, rfl⟩

theorem witness_PowerUp_timeout :
    let s : State := { tPower 4 with resetDue := true }
    (tPower 0).lifecycle = 0 ∧ (tPower 0).railFailures < 2 ∧ s.mrstLow = false ∧ s.lifecycle ≠ 0 ∧ s.resetDue = true ∧ s.inDoubt = false ∧
      s.straps.selfTestOk = true ∧ (s.afterReset 1).bootChoice true = some (1, true) ∧ s.thermTrip = false ∧
      ((s.afterReset 1).bootChoice false).isSome = true ∧ (6 ≤ 6 ∧ 9 ≤ 9 : Prop) :=
  ⟨by decide +kernel, by decide +kernel, by decide +kernel, by decide +kernel, rfl, rfl, by decide +kernel, (tPower_boots 4 (.inr rfl)).2, by decide +kernel,
    by have h := (tPower_boots 4 (.inr rfl)).1; exact h ▸ rfl, by decide⟩

theorem witness_PowerUp_pins :
    let s : State := { tPower 4 with mrstLow := true }
    let o : State := { s with flOwnLow := true, flHold := true }
    let x : State := { o with flOwnLow := false, bankA := trayBank o.bankA [], bankB := trayBank o.bankB [] }
    (tPower 4).mrstLow = false ∧ (tPower 4).lifecycle ≠ 0 ∧ s.lifecycle ≠ 0 ∧ s.flOwnLow = false ∧ o.flOwnLow = true ∧ s.flHold = false ∧
      o.straps.selfTestOk = true ∧ (s.afterReset 1).bootChoice false = some (0, false) ∧ (x.afterReset 1).bootChoice false = some (0, false) ∧
      State.reset.reachable = true ∧ State.reset.i3cAddr = none ∧ o.straps.missed = none ∧ s.thermTrip = false ∧
      (∀ n ∈ [6, 9], ({ slotId := 1, missed := some (n, 0) } : PowerUpInputs).missed = some (n, 0) ∧ 6 ≤ n ∧ n ≤ 9) :=
  ⟨by decide +kernel, by decide +kernel, by decide +kernel, by decide +kernel, rfl, by decide +kernel, by decide +kernel,
    (tPower_boots 4 (.inr rfl)).1, (tPower_boots 4 (.inr rfl)).1, by decide +kernel, by decide +kernel, rfl, by decide +kernel, by decide⟩

/-! ### Encodings and the whole machine -/

/-- A sync message with every field at its greatest value. -/
def tSyncMax : Sync :=
  { kind := 1, srcJs := 3, dstJs := 3, srcCore := 255, dstCore := 255, sem := 255, n := 65535, epoch := 2 ^ 32 - 1, firstId := 2 ^ 20 - 1,
    gen := 255, count := 255, lastTiles := 65535 }
theorem witness_EncodingsReadBack :
    (tSyncMax.kind ≤ 1 ∧ tSyncMax.srcJs < 4 ∧ tSyncMax.dstJs < 4 ∧ tSyncMax.srcCore < 256 ∧ tSyncMax.dstCore < 256 ∧ tSyncMax.sem < 256 ∧
      tSyncMax.n < 2 ^ 16 ∧ tSyncMax.epoch < 2 ^ 32 ∧ tSyncMax.firstId < 2 ^ 20 ∧ tSyncMax.gen < 256 ∧ tSyncMax.count < 256 ∧
      tSyncMax.lastTiles < 2 ^ 16) ∧
    (let p := tShortPkt
     let q : Pkt := { p with payload := List.replicate p.length.toNat 7 }
     let bs := pktBytes q ++ pktBytes q
     let xs : List Seg := [{ gap := none, bytes := bs.take 20 }, { gap := none, bytes := bs.drop 20 }]
     (q.payload.length = q.length.toNat) ∧ ([q, q].length ≤ 2) ∧ (xs.flatMap (·.bytes) == [q, q].flatMap pktBytes) = true) ∧
    (List.replicate 484 (0 : Byte)).length = 484 ∧ (List.replicate 16 (0 : Byte)).length = 16 ∧ (511 : Nat) < 512 := by
  decide +kernel

theorem witness_MemoryStaysCanonical : step State.reset = .next State.reset.idle.countWaits ∧ State.reset.memOk = true ∧ State.reset.faultLog.length ≤ 1024 ∧
    (let s : State := { State.reset with pending := [.flOwnNChange false [] []], mem := [(3, 7)], faultLog := List.replicate 1024 0 }
     s.memOk = true ∧ s.faultLog.length ≤ 1024 ∧ step s = .next { s with pending := [], flOwnLow := true }) :=
  ⟨rfl, by decide +kernel, by decide +kernel, by decide +kernel, by decide +kernel, rfl⟩

theorem witness_ThermtripPin :
    (tPower 4).thermTrip = false ∧ (tPower 4).lifecycle ≠ 0 ∧ (tPower 4).mrstLow = false ∧ (tPower 4).doffStep = 0 ∧
      (let w : State := { tPower 4 with doffStep := 4, doffNow := true }
       w.lifecycle ≠ 0 ∧ w.doffStep ≠ 0 ∧ w.doffNow = true) ∧ ({ tPower 4 with mrstLow := true } : State).mrstLow = true ∧
      (let s : State := { tPower 0 with thermTrip := true }
       exec .mrstNAssert s = .next { s with thermTrip := false, mrstLow := true }) :=
  ⟨by decide +kernel, by decide +kernel, by decide +kernel, by decide +kernel, by decide +kernel, rfl, by rfl⟩

end Sys2Proof.Tests
end

section
/-! PROOF. Enables and disables (R34 to R39, R283, R437): what a withdrawal, the end of uses, a change of a power domain and a
dropped packet each leave alone, and with these the statement about domains, cores, job streams and ports. -/
namespace Sys2Proof.Machine

/-! ### Cells that withdrawals leave alone -/

theorem keyCode_lt_of_index_lt {k k' : Key} (hs : k.sub < 256) (hr : k.row < 65536) (hi : k.index < k'.index) :
    keyCode k < keyCode k' := by
  simp only [keyCode]
  omega

theorem Unnoted.keyCode_ne {k k' : Key} (h : Unnoted k) (hs : k'.sub < 256) (hr : k'.row < 65536) (hk : k ≠ k') :
    keyCode k ≠ keyCode k' := fun e => hk (keyCode_inj h.1 hs h.2.1 hr e)

theorem Unnoted.keyCode_ne_of_index_lt {k k' : Key} (h : Unnoted k) (hi : k.index < k'.index) : keyCode k ≠ keyCode k' :=
  Nat.ne_of_lt (keyCode_lt_of_index_lt h.1 h.2.1 hi)

theorem State.logRecord_val {k : Key} (h : Unnoted k) (s : State) (r : BitVec 512) : (s.logRecord r).val k = s.val k :=
  (noteSaturated_val h _ _ _).trans (appendFault_val h _ _)

/-- A withdrawal charged to a job stream sets STEP_WITHDRAWN; below STEP_LOG it writes beside it only FIRST_FAULT, the count of
withdrawn steps and what notes count (R426, R430). -/
theorem State.withdrawal_val {k : Key} {a : FaultAt} {j : Nat} (hj : a.js = some j) (hu : Unnoted k) (hi : k.index < 0x9060)
    (hf : k ≠ keyFirstFault j) (hc : k ≠ ⟨0x7010 + j, 3, 0⟩) (s : State) (code : Nat) :
    (s.withdrawal code a).val k = if k = keyWithdrawn j then 1 else s.val k := by
  have hf : keyCode k ≠ keyCode (keyFirstFault j) := hu.keyCode_ne (by simp [keyFirstFault]) (by simp [keyFirstFault]) hf
  have hc : keyCode k ≠ keyCode ⟨0x7010 + j, 3, 0⟩ := hu.keyCode_ne (by simp) (by simp) hc
  have hl (r : Nat) : keyCode k ≠ keyCode ⟨0x9060 + j, 6, r⟩ := hu.keyCode_ne_of_index_lt (by simp only; omega)
  have hset (t : State) (ht : t.val k = s.val k) :
      (t.setVal (keyWithdrawn j) 1).val k = if k = keyWithdrawn j then 1 else s.val k := by
    split
    · next e => rw [e, State.val_setVal_same]
    · next e => rw [State.val_setVal_other _ _ (hu.keyCode_ne (by simp [keyWithdrawn]) (by simp [keyWithdrawn]) e), ht]
  unfold State.withdrawal
  extract_lets t
  have ht (k' : Key) : t.val k' = s.val k' := s.event_val 0 k'
  clear_value t
  split
  · next e => simp [e] at hj
  · next i e =>
    obtain rfl : i = j := Option.some.inj (e.symm.trans hj)
    split
    · next hw =>
      rw [State.logRecord_val hu, ht]
      split
      · next e => rw [e, ← ht, hw]
      · rfl
    · extract_lets u v
      have hv : v.val k = if k = keyWithdrawn i then 1 else s.val k := by
        rw [State.bump_val hu hc, State.val_setVal_other _ _ hf, hset _ ((State.logRecord_val hu _ _).trans (ht k))]
      clear_value v
      split
      · exact hv
      · split
        · exact hv
        · split
          · exact hv
          · rwa [State.val_setVal_other _ _ (hl _)]

/-- A cell of an entry below the records of faults (index 0x7000 on), within the ranges of subindex and row. -/
def BelowFaults (k : Key) : Prop := k.sub < 256 ∧ k.row < 65536 ∧ k.index < 0x7000

theorem BelowFaults.unnoted {k : Key} (h : BelowFaults k) : Unnoted k := by
  obtain ⟨hs, hr, hi⟩ := h
  exact ⟨hs, hr, Nat.ne_of_lt hi⟩

theorem BelowFaults.withdrawal_val {k : Key} (h : BelowFaults k) {a : FaultAt} {j : Nat} (hj : a.js = some j) (s : State)
    (code : Nat) : (s.withdrawal code a).val k = s.val k := by
  have hi : k.index < 0x7000 := h.2.2
  have hne {k' : Key} (hk : 0x7010 ≤ k'.index) : k ≠ k' := by
    rintro rfl
    omega
  rw [State.withdrawal_val hj h.unnoted (by omega) (hne (by simp [keyFirstFault])) (hne (by simp)),
    if_neg (hne (by simp [keyWithdrawn]))]

/-! ### The end of uses at a port (R305, R437) -/

/-- What the end of uses leaves alone: cores, memory, links, and the entries below the schedules. -/
structure UsesEnded (s t : State) : Prop where
  cores : t.cores = s.cores
  mem : t.mem = s.mem
  links : t.links = s.links
  val : ∀ k : Key, k.sub < 256 → k.row < 65536 → k.index < 0x3400 → t.val k = s.val k

theorem UsesEnded.refl (s : State) : UsesEnded s s := ⟨rfl, rfl, rfl, fun _ _ _ _ => rfl⟩

theorem UsesEnded.trans {s t u : State} (h : UsesEnded s t) (g : UsesEnded t u) : UsesEnded s u :=
  ⟨g.cores.trans h.cores, g.mem.trans h.mem, g.links.trans h.links,
    fun k hs hr hi => (g.val k hs hr hi).trans (h.val k hs hr hi)⟩

theorem State.inject_usesEnded (s : State) (p : Pkt) : UsesEnded s (s.inject p) := ⟨rfl, rfl, rfl, fun _ _ _ _ => rfl⟩

theorem State.retire_usesEnded (s : State) (j id : Nat) (noExpiry : Bool) : UsesEnded s (s.retire j id noExpiry) :=
  ⟨rfl, rfl, rfl, fun _ _ _ _ => rfl⟩

theorem State.withdrawByEscape_usesEnded (s : State) (t : Transfer) (gen : Nat) : UsesEnded s (s.withdrawByEscape t gen) := by
  unfold State.withdrawByEscape
  extract_lets e
  split
  · exact s.inject_usesEnded _
  · exact .refl s

theorem State.faultAtSource_usesEnded (s : State) (j : Nat) (t : Transfer) :
    UsesEnded s (s.faultAtSource j t 0x2407 false) := by
  have counted : UsesEnded s ((s.raise 0x2407 (s.useAt j t t.dst (s.idState j t.id).gen)).bump (dsKey 0x0D) 1) := by
    have noted := (s.raise_noted 0x2407 (s.useAt j t t.dst (s.idState j t.id).gen)).trans (State.bump_noted _ (dsKey 0x0D) 1)
    refine ⟨noted.cores, noted.mem, noted.links, fun k hs hr hi => ?_⟩
    have hk : BelowFaults k := ⟨hs, hr, by omega⟩
    rw [State.bump_val hk.unnoted (hk.unnoted.keyCode_ne_of_index_lt (by simpa [dsKey] using hi))]
    show (s.withdrawal 0x2407 (s.useAt j t t.dst _)).val k = s.val k
    exact hk.withdrawal_val (j := j) rfl s 0x2407
  exact counted.trans (State.retire_usesEnded _ _ _ _)

theorem State.loseUses_usesEnded (s : State) (p : Nat) : UsesEnded s (s.loseUses p) := by
  unfold State.loseUses
  refine List.foldlRecOn _ _ (.refl s) fun t h x _ => ?_
  extract_lets u
  split
  · exact (h.trans (t.faultAtSource_usesEnded _ _)).trans (State.withdrawByEscape_usesEnded _ _ _)
  · exact h

/-! ### What a change of a power domain leaves alone (R34 to R39) -/

/-- Cores, memory and the states of the power domains are as before. -/
structure PowerKept (s t : State) : Prop where
  cores : t.cores = s.cores
  mem : t.mem = s.mem
  domain : ∀ e, e < 72 → t.domain e = s.domain e

theorem PowerKept.refl (s : State) : PowerKept s s := ⟨rfl, rfl, fun _ _ => rfl⟩

theorem PowerKept.trans {s t u : State} (h : PowerKept s t) (g : PowerKept t u) : PowerKept s u :=
  ⟨g.cores.trans h.cores, g.mem.trans h.mem, fun e he => (g.domain e he).trans (h.domain e he)⟩

theorem PowerKept.foldl {α : Type} {f : State → α → State} (hf : ∀ s a, PowerKept s (f s a)) (l : List α) (s : State) :
    PowerKept s (l.foldl f s) := List.foldlRecOn l f (.refl s) fun t h a _ => h.trans (hf t a)

theorem UsesEnded.powerKept {s t : State} (h : UsesEnded s t) : PowerKept s t :=
  ⟨h.cores, h.mem, fun e he => h.val _ (by simp only; omega) (by simp) (by simp)⟩

theorem unnoted_domain {e : Nat} (he : e < 72) : Unnoted ⟨0x2200, e + 1, 0⟩ := ⟨by simp only; omega, by simp, by simp⟩

theorem State.setVal_powerKept (s : State) {k : Key} (hk : 0x2200 < k.index) (v : Nat) : PowerKept s (s.setVal k v) :=
  ⟨rfl, rfl, fun _ he => State.val_setVal_other _ _ ((unnoted_domain he).keyCode_ne_of_index_lt hk)⟩

theorem State.setPortState_powerKept (s : State) (p v : Nat) : PowerKept s (s.setPortState p v) :=
  s.setVal_powerKept (by simp only [portKey]; omega) v

theorem State.removeReplay_powerKept (s : State) (p : Nat) : PowerKept s (s.removeReplay p) := ⟨rfl, rfl, fun _ _ => rfl⟩

theorem State.setLink_powerKept (s : State) (p : Nat) (x : Link) : PowerKept s (s.setLink p x) := ⟨rfl, rfl, fun _ _ => rfl⟩

theorem State.discardSecrets_powerKept (s : State) (p : Nat) : PowerKept s (s.discardSecrets p) := s.setLink_powerKept p _

theorem State.clearSession_powerKept (s : State) (p step failures : Nat) : PowerKept s (s.clearSession p step failures) :=
  (s.setLink_powerKept p _).trans (State.setVal_powerKept _ (by simp only [portKey]; omega) 0)

theorem State.train_powerKept (s : State) (p step failures : Nat) : PowerKept s (s.train p step failures) :=
  (s.clearSession_powerKept p step failures).trans (State.setPortState_powerKept _ p 2)

theorem State.closePort_powerKept (s : State) (p : Nat) : PowerKept s (s.closePort p) :=
  ((s.clearSession_powerKept p 0 0).trans (State.removeReplay_powerKept _ p)).trans (State.setPortState_powerKept _ p 1)

theorem State.disablePort_powerKept (s : State) (p : Nat) : PowerKept s (s.disablePort p) := by
  unfold State.disablePort
  extract_lets st
  split
  · exact ((s.setPortState_powerKept p 7).trans (State.discardSecrets_powerKept _ p)).trans
      (State.loseUses_usesEnded _ p).powerKept
  · split
    · exact .refl s
    · exact s.closePort_powerKept p

theorem State.wakePort_powerKept (s : State) (p : Nat) : PowerKept s (s.wakePort p) := by
  unfold State.wakePort
  split
  · exact s.train_powerKept p 1 0
  · exact s.setPortState_powerKept p 1

theorem State.note_powerKept (s : State) (code : Nat) (a : FaultAt) : PowerKept s (s.note code a) :=
  ⟨(s.note_noted code a).cores, (s.note_noted code a).mem, fun _ he => State.note_val (unnoted_domain he) s code a⟩

/-- Both stacks of a PHY pair change state. -/
theorem State.setStacks_powerKept (s : State) (k v : Nat) :
    PowerKept s ((s.setVal (stackKey k 1) v).setVal (stackKey (k + 1) 1) v) :=
  (s.setVal_powerKept (by simp only [stackKey]; omega) v).trans (State.setVal_powerKept _ (by simp only [stackKey]; omega) v)

/-- Seating requests counts at the stacks only (R210, R221). -/
theorem State.seatRequests_val {k : Key} (h : Unnoted k) (hi : k.index < 0x4100) (s : State) (held waiting : List HbmReq) :
    (s.seatRequests held waiting).val k = s.val k := by
  unfold State.seatRequests
  extract_lets r
  refine List.foldlRecOn (motive := fun t : State => t.val k = s.val k) _ _ rfl fun t ht q _ => ?_
  rw [State.bump_val h (h.keyCode_ne_of_index_lt (by simp only [stackKey]; omega)), ht]

theorem State.seatRequests_powerKept (s : State) (held waiting : List HbmReq) : PowerKept s (s.seatRequests held waiting) :=
  ⟨(s.seatRequests_presented held waiting).cores, (s.seatRequests_presented held waiting).mem,
    fun _ he => State.seatRequests_val (unnoted_domain he) (by simp) s held waiting⟩

/-! ### A power domain switches (R36 to R39) -/

theorem State.domain_setDomain_same (s : State) (d v : Nat) : (s.setDomain d v).domain d = v := State.val_setVal_same _ _ _

theorem State.domain_setDomain_other (s : State) {d e : Nat} (v : Nat) (h : e ≠ d) : (s.setDomain d v).domain e = s.domain e :=
  State.val_setVal_other _ _ (by simp only [keyCode]; omega)

theorem State.domainOff_powerKept (s : State) (d : Nat) : PowerKept (s.setDomain d 2) (s.domainOff d) := by
  unfold State.domainOff
  extract_lets t
  split
  · exact .foldl (fun s _ => s.disablePort_powerKept _) _ t
  · exact .refl t

theorem State.domainStart_powerKept (s : State) (d : Nat) : PowerKept (s.setDomain d 5) (s.domainStart d) := by
  unfold State.domainStart
  extract_lets t k
  split
  · exact t.setStacks_powerKept k 1
  · exact .refl t

theorem State.domainReached_powerKept (s : State) (d : Nat) :
    PowerKept ((s.setDomain d 1).resetDomain d) (s.domainReached d) := by
  unfold State.domainReached
  extract_lets t k
  split
  · split
    · exact t.setStacks_powerKept k 2
    · split
      · exact t.seatRequests_powerKept _ _
      · exact .refl t
  · split
    · exact .foldl (fun s _ => s.wakePort_powerKept _) _ t
    · exact .refl t

theorem State.domainLost_powerKept (s : State) (d : Nat) :
    PowerKept ((s.setDomain d 0).resetDomain d) (s.domainLost d) := by
  unfold State.domainLost
  extract_lets t k
  split
  · exact .foldl (fun s _ => (s.removeReplay_powerKept _).trans (State.setPortState_powerKept _ _ 0)) _ t
  · split
    · exact t.setStacks_powerKept k 0
    · exact .refl t

theorem State.resetDomain_dict (s : State) (d : Nat) : (s.resetDomain d).dict = s.dict := by
  unfold State.resetDomain
  extract_lets t k
  split
  · rfl
  · split
    · rfl
    · split <;> rfl

/-- A cluster that resets clears its cores; no other core changes (R38). -/
theorem State.core_resetDomain (s : State) (d c : Nat) :
    (s.resetDomain d).core c = if d < 64 ∧ d % 16 < 8 ∧ domCluster c = d then {} else s.core c := by
  unfold State.resetDomain
  extract_lets t k
  split
  · next h =>
    rw [if_neg (by simp [h, domCodec])]
    rfl
  · split
    · next h =>
      have h : d < 64 ∧ d % 16 < 8 := by simpa using h
      have filtered := mapGet_filter_key ({} : Core) (fun e => domCluster e != d) t.cores c
      refine filtered.trans ?_
      by_cases hc : domCluster c = d
      · simp [hc, h]
      · simp only [hc, and_false, if_false, bne_iff_ne, ne_eq, not_false_eq_true, if_true]
        rfl
    · next h =>
      have h : ¬ (d < 64 ∧ d % 16 < 8 ∧ domCluster c = d) := fun hd => h (by simp [hd.1, hd.2.1])
      rw [if_neg h]
      split <;> rfl

/-- A SET that moves a domain to `v` changes no other domain, no core and no memory. -/
theorem PowerKept.of_setDomain {s t : State} {d v : Nat} (hd : d < 72) (h : PowerKept (s.setDomain d v) t) :
    t.domain d = v ∧ (∀ e, e < 72 → e ≠ d → t.domain e = s.domain e) ∧ t.cores = s.cores ∧ t.mem = s.mem :=
  ⟨(h.domain d hd).trans (s.domain_setDomain_same d v),
    fun e he hne => (h.domain e he).trans (s.domain_setDomain_other v hne), h.cores, h.mem⟩

/-- A domain that is reset on its way to `v` changes no other domain, and takes the cores of its cluster along (R38). -/
theorem PowerKept.of_resetDomain {s t : State} {d v : Nat} (hd : d < 72) (h : PowerKept ((s.setDomain d v).resetDomain d) t) :
    t.domain d = v ∧ (∀ e, e < 72 → e ≠ d → t.domain e = s.domain e) ∧
      (∀ c, domCluster c ≠ d → t.core c = s.core c) ∧
      (d < 64 → d % 16 < 8 → ∀ c, domCluster c = d → t.core c = {}) := by
  have domain (e : Nat) (he : e < 72) : t.domain e = (s.setDomain d v).domain e := by
    rw [h.domain e he, State.domain, State.val, State.resetDomain_dict]
    rfl
  have core (c : Nat) : t.core c = if d < 64 ∧ d % 16 < 8 ∧ domCluster c = d then {} else s.core c := by
    rw [State.core, h.cores]
    exact State.core_resetDomain _ d c
  exact ⟨(domain d hd).trans (s.domain_setDomain_same d v),
    fun e he hne => (domain e he).trans (s.domain_setDomain_other v hne),
    fun c hc => by simp [core, hc], fun h64 h8 c hc => by simp [core, h64, h8, hc]⟩

/-! ### DOMAIN_STATE (R36) -/

theorem checkOrder_of_none {checks : List (Nat × Bool)} (h : ∀ c ∈ checks, c.2 = false) (ok : SetResult) :
    checkOrder checks ok = ok := by
  have none : checks.find? (·.2) = none := List.find?_eq_none.mpr fun c hc => by simp [h c hc]
  simp [checkOrder, none]

/-- A domain that firmware may switch: not one of those held on (R36, R40). -/
def Switchable (d : Nat) : Prop := d ≠ 68 ∧ d ≠ 70 ∧ d ≠ 71

theorem domainStateBody_on {s : State} {d : Nat} (hd : Switchable d) (h : s.domain d = 0) :
    domainStateBody d 1 s = checkOrder (domainRules s d 1) (.ok (s.domainStart d)) := by
  simp [domainStateBody, hd.1, hd.2.1, hd.2.2, h]

theorem domainStateBody_off {s : State} {d : Nat} (hd : Switchable d) (h : s.domain d = 1) :
    domainStateBody d 0 s = checkOrder (domainRules s d 0) (.ok (s.domainOff d)) := by
  simp [domainStateBody, hd.1, hd.2.1, hd.2.2, h]

/-- Rules 2 and 6 of R36 let a domain be switched on. -/
theorem domainRules_on {s : State} {d : Nat} (pre : ∀ e ∈ domPrereqs d, s.domainOn e = true)
    (pair : needsPair0 d = true → s.domain (16 * (d / 16) + 8) = 1) : ∀ c ∈ domainRules s d 1, c.2 = false := by
  simpa [domainRules] using ⟨pre, pair⟩

/-- Rules 3 to 5 of R36 let a domain be switched off. -/
theorem domainRules_off {s : State} {d : Nat} (users : ∀ e, e < 72 → d ∈ domPrereqs e → s.domain e = 0)
    (holds : s.domainHolds d = false)
    (crown : d < 64 → d % 16 = 8 → ∀ i, i < 16 → needsPair0 (16 * (d / 16) + i) = true → s.domain (16 * (d / 16) + i) = 0) :
    ∀ c ∈ domainRules s d 0, c.2 = false := by
  simpa [domainRules, holds] using ⟨users, crown⟩

/-- A prerequisite that is not ON refuses a domain with rule 2 of R36. -/
theorem checkOrder_prerequisite {s : State} {d : Nat} (h : ∃ e ∈ domPrereqs d, s.domainOn e = false) (ok : SetResult) :
    checkOrder (domainRules s d 1) ok = .refuse stState 2 := by
  have rule2 : (domPrereqs d).any (fun e => !s.domainOn e) = true := by simpa using h
  simp [checkOrder, domainRules, rule2]

/-- DOMAIN_STATE 1 of an OFF domain (R36, R39). -/
theorem exec_domainStateWrite_on {s : State} {rq : Rq} {d : DomainId} (ha : admits s rq 0x2200 (d.val + 1))
    (hd : Switchable d.val) (h : s.domain d.val = 0) (pre : ∀ e ∈ domPrereqs d.val, s.domainOn e = true)
    (pair : needsPair0 d.val = true → s.domain (16 * (d.val / 16) + 8) = 1) :
    exec (.domainStateWrite rq d 1) s = setDone (s.domainStart d.val) rq 0x2200 (d.val + 1) :=
  State.dictSet_ok ha ((domainStateBody_on hd h).trans (checkOrder_of_none (domainRules_on pre pair) _))

/-- DOMAIN_STATE 1 of an OFF domain without a prerequisite (R36). -/
theorem exec_domainStateWrite_refused {s : State} {rq : Rq} {d : DomainId} (ha : admits s rq 0x2200 (d.val + 1))
    (hd : Switchable d.val) (h : s.domain d.val = 0) (pre : ∃ e ∈ domPrereqs d.val, s.domainOn e = false) :
    exec (.domainStateWrite rq d 1) s = setRefused s rq 0x2200 (d.val + 1) stState 2 :=
  State.dictSet_refuse ha ((domainStateBody_on hd h).trans (checkOrder_prerequisite pre _))

/-- DOMAIN_STATE 0 of an ON domain that nothing needs or holds (R36, R37). -/
theorem exec_domainStateWrite_off {s : State} {rq : Rq} {d : DomainId} (ha : admits s rq 0x2200 (d.val + 1))
    (hd : Switchable d.val) (h : s.domain d.val = 1) (users : ∀ e, e < 72 → d.val ∈ domPrereqs e → s.domain e = 0)
    (holds : s.domainHolds d.val = false)
    (crown : d.val < 64 → d.val % 16 = 8 → ∀ i, i < 16 → needsPair0 (16 * (d.val / 16) + i) = true →
      s.domain (16 * (d.val / 16) + i) = 0) :
    exec (.domainStateWrite rq d 0) s = setDone (s.domainOff d.val) rq 0x2200 (d.val + 1) :=
  State.dictSet_ok ha ((domainStateBody_off hd h).trans (checkOrder_of_none (domainRules_off users holds crown) _))

theorem exec_domainSwitchOnDone {s : State} {d : DomainId} (h : s.domain d.val = 5) :
    exec (.domainSwitchOnDone d) s = .next (s.domainReached d.val) := by
  show execDomainSwitchOnDone d s = _
  simp [execDomainSwitchOnDone, h]

theorem exec_domainSwitchFail {s : State} {d : DomainId} (h : s.domain d.val = 5) :
    exec (.domainSwitchFail d) s = .next ((s.domainLost d.val).note 0x1802 { locKind := 5, location := d.val }) := by
  show execDomainSwitchFail d s = _
  simp [execDomainSwitchFail, h]

/-! ### The end of a drain (R437) -/

theorem exec_functionDrained_domain {s : State} {d : DomainId} (hs : s.doffStep = 0) (h : s.domain d.val = 2)
    (hi : domainIdle s d.val = true) : exec (.functionDrained (.domain d)) s = .next (s.domainLost d.val) := by
  show execFunctionDrained (.domain d) s = _
  simp [execFunctionDrained, hs, h, hi]

theorem exec_functionDrained_core {s : State} {c : CoreId} (hs : s.doffStep = 0)
    (h : (s.val keyDraining).testBit c.val = true) (he : coreEnded (s.core c.val) = true) :
    exec (.functionDrained (.core c)) s = .next (s.setVal keyDraining (s.val keyDraining - 2 ^ c.val)) := by
  show execFunctionDrained (.core c) s = _
  simp [execFunctionDrained, hs, h, he]

theorem exec_functionDrained_jobStream {s : State} {j : JsId} (hs : s.doffStep = 0) (h : s.val (keyJsState j.val) = 2)
    (hr : s.stepRunning j.val = false) (ha : activeSources s j.val = []) :
    exec (.functionDrained (.jobStream j)) s = .next ((s.setVal (keyJsState j.val) 0).unlockStream j.val) := by
  show execFunctionDrained (.jobStream j) s = _
  simp [execFunctionDrained, hs, h, hr, ha]

/-- Unlocking a job stream writes its lock, and the life-cycle state where it was the last (R471, R474). -/
theorem State.unlockStream_val {k : Key} (s : State) (j : Nat) (hk : keyCode k ≠ keyCode ⟨0x1000, 7, 0⟩) :
    (s.unlockStream j).val k = (s.setVal (keyJsLock j) 0).val k := by
  unfold State.unlockStream
  extract_lets t
  split
  · unfold State.setLifecycle
    split
    · rfl
    · rw [State.event_val, State.val_setVal_other _ _ hk]
  · rfl

theorem exec_functionDrained_port {s : State} {p : PortId} (hs : s.doffStep = 0) (h : s.portState p.val = 7)
    (hc : (s.link p.val).closingNaps = 0) :
    exec (.functionDrained (.port p)) s =
      .next ((s.dropQueue p.val).setLink p.val { (s.dropQueue p.val).link p.val with closingNaps := 17 }) := by
  show execFunctionDrained (.port p) s = _
  simp [execFunctionDrained, hs, h, hc]

/-! ### CORE_ENABLE (R437, R438) -/

theorem mem_bitsOf {m c : Nat} : c ∈ bitsOf m ↔ c < 256 ∧ m.testBit c = true := by simp [bitsOf]

theorem testBit_maskOf (bs : List Nat) (c : Nat) : (maskOf bs).testBit c = decide (c ∈ bs) := by
  have fold (m : Nat) : (bs.foldl (fun m b => m ||| 2 ^ b) m).testBit c = (m.testBit c || decide (c ∈ bs)) := by
    induction bs generalizing m with
    | nil => simp
    | cons b bs ih => simp [ih, Nat.testBit_or, Nat.testBit_two_pow, Bool.or_assoc, eq_comm]
  simpa [maskOf] using fold 0

theorem State.jsOfCore_lt {s : State} {c j : Nat} (h : s.jsOfCore c = some j) : j < 4 :=
  List.mem_range.mp (List.mem_of_find?_eq_some h)

theorem State.chargeDisabled_noted (s : State) (js : List Nat) : Noted s (s.chargeDisabled js) :=
  List.foldlRecOn _ _ (.refl s) fun t h _ _ => h.trans (t.withdrawal_noted _ _)

theorem State.chargeDisabled_val {k : Key} (h : BelowFaults k) (s : State) (js : List Nat) :
    (s.chargeDisabled js).val k = s.val k :=
  List.foldlRecOn (motive := fun t : State => t.val k = s.val k) _ _ rfl fun t ht _ _ =>
    (h.withdrawal_val rfl t 0x2801).trans ht

/-- A withdrawal leaves every step that is withdrawn so, and withdraws the one it is charged to (R426). -/
theorem State.withdrawal_withdrawn (s : State) {i j : Nat} (hi : i < 4) (code : Nat) :
    (s.withdrawal code { js := some j }).val (keyWithdrawn i) = if i = j then 1 else s.val (keyWithdrawn i) := by
  have hu : Unnoted (keyWithdrawn i) := ⟨by simp [keyWithdrawn], by simp [keyWithdrawn], by simp only [keyWithdrawn]; omega⟩
  rw [State.withdrawal_val rfl hu (by simp only [keyWithdrawn]; omega) (by simp [keyWithdrawn, keyFirstFault])
    (by simp [keyWithdrawn])]
  simp [keyWithdrawn]

/-- Every job stream charged with a disable has its step withdrawn (R437). -/
theorem State.chargeDisabled_withdrawn (s : State) {js : List Nat} {j : Nat} (hj : j < 4) (h : j ∈ js) :
    (s.chargeDisabled js).val (keyWithdrawn j) = 1 := by
  have fold (l : List Nat) (s : State) (h : j ∈ l ∨ s.val (keyWithdrawn j) = 1) :
      (l.foldl (fun s i => s.withdrawal 0x2801 { js := some i }) s).val (keyWithdrawn j) = 1 := by
    induction l generalizing s with
    | nil => simpa using h
    | cons i l ih =>
      refine ih _ ?_
      rw [State.withdrawal_withdrawn s hj]
      split
      · exact .inr rfl
      · next hne => simpa [hne] using h
  exact fold _ s (.inl (by simp [hj, h]))

/-- The cores that a mask of CORE_ENABLE clears and that still have work (R437). -/
def busyCleared (s : State) (m : Nat) : List Nat :=
  ((bitsOf (s.val keyEnabled)).filter fun i => !m.testBit i).filter fun c => !coreEnded (s.core c)

theorem mem_busyCleared {s : State} {m c : Nat} : c ∈ busyCleared s m ↔
    c < 256 ∧ (s.val keyEnabled).testBit c = true ∧ m.testBit c = false ∧ coreEnded (s.core c) = false := by
  simp only [busyCleared, List.mem_filter, mem_bitsOf, Bool.not_eq_true', and_assoc]

/-- The state that CORE_ENABLE of a mask leaves: cleared cores with work drain, and their job streams are charged (R437). -/
def State.enableCores (s : State) (m : Nat) : State :=
  ((s.setVal keyEnabled m).setVal keyDraining (s.val keyDraining ||| maskOf (busyCleared s m))).chargeDisabled
    ((busyCleared s m).filterMap s.jsOfCore)

theorem coreEnableBody_ok {s : State} {m : Nat} (h : ∀ c, c < 256 → m.testBit c = true →
      (s.val keyEnabled).testBit c = false → (s.val keyDraining).testBit c = false) :
    coreEnableBody m s = .ok (s.enableCores m) := by
  have free : (((bitsOf m).filter fun i => !(s.val keyEnabled).testBit i).any (s.val keyDraining).testBit) = false := by
    simpa [mem_bitsOf] using h
  simp [coreEnableBody, State.enableCores, busyCleared, free]

theorem State.enableCores_noted (s : State) (m : Nat) : Noted s (s.enableCores m) :=
  ((s.setVal_noted _ _).trans (State.setVal_noted _ _ _)).trans (State.chargeDisabled_noted _ _)

theorem State.enabled_enableCores (s : State) (m : Nat) : (s.enableCores m).val keyEnabled = m := by
  rw [State.enableCores, State.chargeDisabled_val ⟨by decide, by decide, by decide⟩, State.val_setVal_other _ _ (by decide),
    State.val_setVal_same]

/-- A core drains when it drained before, or when it was enabled, is cleared and has work (R437). -/
theorem State.draining_enableCores (s : State) (m : Nat) {c : Nat} (hc : c < 256) :
    ((s.enableCores m).val keyDraining).testBit c = ((s.val keyDraining).testBit c ||
      ((s.val keyEnabled).testBit c && !m.testBit c && !coreEnded (s.core c))) := by
  rw [State.enableCores, State.chargeDisabled_val ⟨by decide, by decide, by decide⟩, State.val_setVal_same, Nat.testBit_or,
    testBit_maskOf]
  simp [mem_busyCleared, hc, Bool.and_assoc]

/-- The job stream of a core that is cleared with work is withdrawn (R437). -/
theorem State.withdrawn_enableCores {s : State} {m c j : Nat} (h : c ∈ busyCleared s m) (hj : s.jsOfCore c = some j) :
    (s.enableCores m).val (keyWithdrawn j) = 1 :=
  State.chargeDisabled_withdrawn _ (State.jsOfCore_lt hj) (List.mem_filterMap.mpr ⟨c, h, hj⟩)

/-- CORE_ENABLE_WRITE that sets no DRAINING core (R437). -/
theorem exec_coreEnableWrite {s : State} {rq : Rq} {m : BitVec 256} (ha : admits s rq 0x5001 1)
    (h : ∀ c, c < 256 → m.toNat.testBit c = true →
      (s.val keyEnabled).testBit c = false → (s.val keyDraining).testBit c = false) :
    exec (.coreEnableWrite rq m) s = setDone (s.enableCores m.toNat) rq 0x5001 1 :=
  State.dictSet_ok ha (coreEnableBody_ok h)

/-! ### Ports (R283) -/

theorem unnoted_portKey {p sub : Nat} (hs : sub < 256) (hp : p < 32) : Unnoted (portKey p sub) :=
  ⟨hs, by simp [portKey], by simp only [portKey]; omega⟩

theorem State.portVal_setVal_other (s : State) {p sub q sub' : Nat} (v : Nat) (hs : sub < 256) (hs' : sub' < 256) (h : sub ≠ sub') :
    (s.setVal (portKey q sub') v).val (portKey p sub) = s.val (portKey p sub) :=
  State.val_setVal_other _ _ (by simp only [portKey, keyCode]; omega)

theorem State.portState_setPortState_same (s : State) (p v : Nat) : (s.setPortState p v).portState p = v :=
  State.val_setVal_same _ _ _

theorem UsesEnded.link {s t : State} (h : UsesEnded s t) (p : Nat) : t.link p = s.link p := by
  rw [State.link, h.links]
  rfl

theorem UsesEnded.portVal {s t : State} (h : UsesEnded s t) {p sub : Nat} (hs : sub < 256) (hp : p < 32) :
    t.val (portKey p sub) = s.val (portKey p sub) :=
  h.val _ hs (by simp [portKey]) (by simp only [portKey]; omega)

theorem State.link_train (s : State) (p step failures : Nat) :
    (s.train p step failures).link p = { step := step, failures := failures } :=
  State.link_setLink_same _ _ _

theorem State.link_closePort (s : State) (p : Nat) : (s.closePort p).link p = { step := 0 } :=
  s.link_setLink_same p { step := 0 }

/-! ### Dropped packets leave the queues of ports alone (R268, R276) -/

/-- The queues and states of the ports are as before. -/
structure QueuesKept (s t : State) : Prop where
  queue : ∀ n, (t.link n).queue = (s.link n).queue
  state : ∀ n, n < 32 → t.portState n = s.portState n

theorem QueuesKept.refl (s : State) : QueuesKept s s := ⟨fun _ => rfl, fun _ _ => rfl⟩

theorem QueuesKept.trans {s t u : State} (h : QueuesKept s t) (g : QueuesKept t u) : QueuesKept s u :=
  ⟨fun n => (g.queue n).trans (h.queue n), fun n hn => (g.state n hn).trans (h.state n hn)⟩

theorem QueuesKept.of_links {s t : State} (h : t.links = s.links) (hv : ∀ n, n < 32 → t.val (portKey n 3) = s.val (portKey n 3)) :
    QueuesKept s t := ⟨fun n => by rw [State.link, h]; rfl, hv⟩

theorem State.setLink_queuesKept (s : State) {p : Nat} {x : Link} (h : x.queue = (s.link p).queue) :
    QueuesKept s (s.setLink p x) := by
  refine ⟨fun n => ?_, fun _ _ => rfl⟩
  by_cases hn : n = p
  · subst hn
    rw [State.link_setLink_same, h]
  · rw [State.link_setLink_other _ _ hn]

theorem State.emit_queuesKept (s : State) (x : Sent) : QueuesKept s (s.emit x) := ⟨fun _ => rfl, fun _ _ => rfl⟩

/-- A counter other than PORT_STATE is no port's state. -/
theorem State.bump_queuesKept (s : State) {k : Key} (h : ∀ n, n < 32 → keyCode (portKey n 3) ≠ keyCode k) (v : Nat) :
    QueuesKept s (s.bump k v) :=
  .of_links (s.bump_noted k v).links fun n hn => State.bump_val (unnoted_portKey (by decide) hn) (h n hn) s v

theorem spanRequests_dict (who : HbmRequester) (crown token a : Nat) (data : Option (List Byte)) (ps : List (Nat × Nat))
    (s : State) : (spanRequests who crown token a data ps s).2.dict = s.dict := by
  induction ps generalizing s with
  | nil => rfl
  | cons p ps ih =>
    unfold spanRequests
    extract_lets f r
    refine (ih f.2).trans ?_
    show (if requesterCount who = 1 then (0, s) else s.free 3).2.dict = s.dict
    split <;> rfl

theorem State.requestAlone_val {k : Key} (h : Unnoted k) (hi : k.index < 0x4100) (s : State) (who : HbmRequester)
    (crown a n : Nat) (data : Option (List Byte)) : (s.requestAlone who crown a n data).val k = s.val k := by
  unfold State.requestAlone State.request
  rw [State.seatRequests_val h hi, State.val, spanRequests_dict]
  rfl

theorem State.requestAlone_queuesKept (s : State) (who : HbmRequester) (crown a n : Nat) (data : Option (List Byte)) :
    QueuesKept s (s.requestAlone who crown a n data) :=
  .of_links (s.requestAlone_presented who crown a n data).links fun p hp =>
    State.requestAlone_val (unnoted_portKey (by decide) hp) (by simp only [portKey]; omega) s who crown a n data

theorem State.sendBolt_queuesKept (s : State) (p kind first : Nat) (body : List Byte) :
    QueuesKept s (s.sendBolt p kind first body) := by
  unfold State.sendBolt
  extract_lets l k ack header d c bytes b t u
  have ht : QueuesKept s t := s.setLink_queuesKept rfl
  have hu : QueuesKept t u := by
    show QueuesKept t (match t.regions.find? (·.number == 992 + p) with | some r => _ | none => t)
    split
    · split
      · exact t.requestAlone_queuesKept _ _ _ _ _
      · exact .refl t
    · exact .refl t
  have counted : QueuesKept u (u.bump (portKey p 0x11) 1) :=
    u.bump_queuesKept (fun n _ => by simp only [portKey, keyCode]; omega) 1
  exact ((ht.trans hu).trans counted).trans (State.emit_queuesKept _ _)

theorem pumpPort_queuesKept (p n : Nat) (s : State) : QueuesKept s (pumpPort p n s) := by
  induction n generalizing s with
  | zero => exact .refl s
  | succ n ih =>
    unfold pumpPort
    extract_lets l first heads t
    split
    · exact .refl s
    · split
      · next b bs _ =>
        have blocks : QueuesKept s (s.setLink p { l with blocks := bs }) := s.setLink_queuesKept rfl
        exact (blocks.trans (State.sendBolt_queuesKept _ _ _ _ _)).trans (ih _)
      · split
        · exact .refl s
        · have ht : QueuesKept s t := s.setLink_queuesKept rfl
          exact (ht.trans (t.sendBolt_queuesKept _ _ _ _)).trans (ih _)

theorem State.sendBlocks_queuesKept (s : State) (p : Nat) (bs : List Nat) : QueuesKept s (s.sendBlocks p bs) := by
  unfold State.sendBlocks
  extract_lets l
  split
  · exact .refl s
  · exact (s.setLink_queuesKept (x := { l with blocks := l.blocks ++ bs }) rfl).trans (pumpPort_queuesKept _ _ _)

theorem State.freeUnits_queuesKept (s : State) (p vc n : Nat) : QueuesKept s (s.freeUnits p vc n) := by
  unfold State.freeUnits
  extract_lets l f t
  have ht : QueuesKept s t := s.setLink_queuesKept rfl
  split
  · exact ht.trans (t.sendBlocks_queuesKept _ _)
  · exact ht

theorem State.freeOrigin_queuesKept (s : State) (o : Option (Nat × Nat)) (n : Nat) : QueuesKept s (s.freeOrigin o n) := by
  cases o with
  | none => exact .refl s
  | some o => exact s.freeUnits_queuesKept o.1 o.2 n

theorem State.dropPacket_queuesKept (s : State) {counter : Nat} (hc : counter < 256) (origin : Option (Nat × Nat)) (pkt : Pkt) :
    QueuesKept s (s.dropPacket counter origin pkt) := by
  have counted : QueuesKept s (s.bump (fabricKey counter) 1) :=
    s.bump_queuesKept (fun n _ => by simp only [portKey, fabricKey, keyCode]; omega) 1
  exact counted.trans (State.freeOrigin_queuesKept _ _ _)

/-- Dropping what waits at a port empties its queue, whatever the dropped packets free elsewhere (R276, R282). -/
theorem State.dropQueue_queuesKept (s : State) (p : Nat) :
    QueuesKept (s.setLink p { s.link p with queue := [] }) (s.dropQueue p) :=
  List.foldlRecOn _ _ (.refl _) fun t h q _ => h.trans (t.dropPacket_queuesKept (by decide) q.origin q.pkt)

theorem State.queue_dropQueue (s : State) (p : Nat) : ((s.dropQueue p).link p).queue = [] := by
  rw [(s.dropQueue_queuesKept p).queue, State.link_setLink_same]

theorem State.portState_dropQueue (s : State) {p : Nat} (hp : p < 32) : (s.dropQueue p).portState p = s.portState p :=
  (s.dropQueue_queuesKept p).state p hp

/-! ### Commands of a port (R283) -/

/-- What discarding the secrets of a session leaves of a port: all but its keys, and of these the ones in the link (R462). -/
theorem State.link_discardSecrets (s : State) (p : Nat) :
    ∃ k, (s.discardSecrets p).link p = { s.link p with keys := k } ∧ k.secret = [] ∧ k.ephKey = [] ∧ k.rkKey = none ∧
      k.rkOwn = [] ∧ k.rkPeer = [] ∧ k.ownSecrets = [] ∧ k.material = (s.link p).keys.material :=
  ⟨_, State.link_setLink_same _ _ _, rfl, rfl, rfl, rfl, rfl, rfl, rfl⟩

/-- A port that is UP drains, and the uses that start at it end (R283, R437, R462). -/
theorem State.disablePort_usesEnded {s : State} {p : Nat} (h : s.portState p = 6) :
    UsesEnded ((s.setPortState p 7).discardSecrets p) (s.disablePort p) := by
  simpa [State.disablePort, h] using State.loseUses_usesEnded _ p

/-- PORT_ENABLE 0 (R283). -/
theorem exec_portEnableWrite_disable {s : State} {rq : Rq} {p : PortId} (ha : admits s rq (0x3100 + p.val) 1) :
    exec (.portEnableWrite rq p 0) s = setDone ((s.setVal (portKey p.val 1) 0).disablePort p.val) rq (0x3100 + p.val) 1 :=
  State.dictSet_ok ha rfl

/-- PORT_ENABLE 1 of a DISABLED or FAILED port whose quad is ON (R283). -/
theorem exec_portEnableWrite_train {s : State} {rq : Rq} {p : PortId} (ha : admits s rq (0x3100 + p.val) 1)
    (h : s.portState p.val = 1 ∨ s.portState p.val = 9) (hq : s.domain (domQuad (p.val / 8)) = 1) :
    exec (.portEnableWrite rq p 1) s = setDone ((s.setVal (portKey p.val 1) 1).train p.val 1 0) rq (0x3100 + p.val) 1 := by
  have state : (s.setVal (portKey p.val 1) 1).portState p.val = s.portState p.val :=
    s.portVal_setVal_other 1 (by decide) (by decide) (by decide)
  have quad : (s.setVal (portKey p.val 1) 1).domain (domQuad (p.val / 8)) = 1 :=
    ((s.setVal_powerKept (by simp only [portKey]; omega) 1).domain _ (by simp only [domQuad]; omega)).trans hq
  have notDraining : s.portState p.val ≠ 7 := by omega
  refine State.dictSet_ok ha ?_
  simp [portEnableBody, state, quad, notDraining, h]

/-- PORT_ENABLE 1 of a DRAINING port (R283). -/
theorem exec_portEnableWrite_refused {s : State} {rq : Rq} {p : PortId} (ha : admits s rq (0x3100 + p.val) 1)
    (h : s.portState p.val = 7) :
    exec (.portEnableWrite rq p 1) s = setRefused s rq (0x3100 + p.val) 1 stState 0 := by
  refine State.dictSet_refuse ha ?_
  simp [portEnableBody, h]

theorem exec_portCloseDone {s : State} {p : PortId} (hs : s.doffStep = 0) (h : s.portState p.val = 7)
    (hc : (s.link p.val).closingNaps = 1) :
    exec (.portCloseDone p) s = .next ((s.emit (.idleBolts p.val (idleBolt s p.val))).closePort p.val) := by
  show execPortCloseDone p s = _
  simp [execPortCloseDone, hs, h, hc]

/-! ### The statement -/

/-- Settles O37: each command's result is written out, and the lemmas on what it leaves alone give the clauses. -/
theorem enablesAndDisables : Obligations.EnablesAndDisables := by
  intro s rq
  refine ⟨fun d ha h68 h70 h71 => ?set, fun d h => ?switch, fun d hs h hi => ?drained, fun c => exec_functionDrained_core,
    fun j hs h hr hu => ?stream, fun m ha => ?cores, fun p => ?port⟩
  case set =>
    have hd : Switchable d.val := ⟨h68, h70, h71⟩
    exact ⟨fun h pre pair => ⟨_, exec_domainStateWrite_on ha hd h pre pair, (s.domainStart_powerKept d.val).of_setDomain d.isLt⟩,
      exec_domainStateWrite_refused ha hd,
      fun h users holds crown =>
        ⟨_, exec_domainStateWrite_off ha hd h users holds crown, (s.domainOff_powerKept d.val).of_setDomain d.isLt⟩⟩
  case switch =>
    exact ⟨⟨_, exec_domainSwitchOnDone h, (s.domainReached_powerKept d.val).of_resetDomain d.isLt⟩,
      ⟨_, exec_domainSwitchFail h, ((s.domainLost_powerKept d.val).trans (State.note_powerKept _ _ _)).of_resetDomain d.isLt⟩⟩
  case drained =>
    obtain ⟨off, others, -, -⟩ := (s.domainLost_powerKept d.val).of_resetDomain d.isLt
    exact ⟨_, exec_functionDrained_domain hs h hi, off, others⟩
  case stream =>
    refine ⟨_, exec_functionDrained_jobStream hs h hr hu, ?_, ?_⟩
    · rw [State.unlockStream_val _ _ (by simp only [keyJsState, keyCode]; omega),
        State.val_setVal_other _ _ (by simp only [keyJsState, keyJsLock, keyCode]; omega), State.val_setVal_same]
    · rw [State.unlockStream_val _ _ (by simp only [keyJsLock, keyCode]; omega), State.val_setVal_same]
  case cores =>
    intro old drain hfree
    have noted := s.enableCores_noted m.toNat
    exact ⟨_, exec_coreEnableWrite ha hfree, s.enabled_enableCores _, noted.cores, noted.mem,
      fun c hc => s.draining_enableCores _ hc,
      fun c j hc hold hm he hj => State.withdrawn_enableCores (mem_busyCleared.mpr ⟨hc, hold, hm, he⟩) hj⟩
  case port =>
    refine ⟨fun ha => ⟨fun h => ?disable, fun h hq => ?enable, exec_portEnableWrite_refused ha⟩, fun hs h hc => ?drain,
      fun hs h hc => ?close⟩
    case disable =>
      have up : (s.setVal (portKey p.val 1) 0).portState p.val = 6 :=
        (s.portVal_setVal_other 0 (by decide) (by decide) (by decide)).trans h
      have lost := State.disablePort_usesEnded up
      obtain ⟨k, hk, secrets⟩ := ((s.setVal (portKey p.val 1) 0).setPortState p.val 7).link_discardSecrets p.val
      refine ⟨_, exec_portEnableWrite_disable ha, ?_, ?_, k, (lost.link p.val).trans hk, secrets⟩
      · exact (lost.portVal (by decide) p.isLt).trans (State.portState_setPortState_same _ p.val 7)
      · refine (lost.portVal (by decide) p.isLt).trans ?_
        exact (State.portVal_setVal_other _ 7 (by decide) (by decide) (by decide)).trans (s.val_setVal_same _ 0)
    case enable =>
      refine ⟨_, exec_portEnableWrite_train ha h hq, State.portState_setPortState_same _ p.val 2, ?_, State.link_train _ _ _ _⟩
      exact ((State.portVal_setVal_other _ 2 (by decide) (by decide) (by decide)).trans
        (State.portVal_setVal_other _ 0 (by decide) (by decide) (by decide))).trans (s.val_setVal_same _ 1)
    case drain =>
      refine ⟨_, exec_functionDrained_port hs h hc, ?_, ?_, (s.portState_dropQueue p.isLt).trans h⟩
      · rw [State.link_setLink_same]
      · rw [State.link_setLink_same]
        exact s.queue_dropQueue p.val
    case close =>
      exact ⟨_, exec_portCloseDone hs h hc, State.portState_setPortState_same _ p.val 1, State.link_closePort _ p.val,
        List.mem_append_right _ (List.mem_singleton_self _)⟩

end Sys2Proof.Machine
end

section
/-! PROOF. The matrix array (R83 to R104): what a pass writes to its accumulator bank, entry by entry, and that a MAT instruction
with sound operands issues and changes that one bank alone. -/
namespace Sys2Proof.Machine

/-! ### Accumulator entries (R89, R94) -/

/-- An accumulator entry replaced by a function of its value. -/
def AccBank.update (b : AccBank) (key : Nat) (f : Word → Word) : AccBank := b.put key (f (b.get key))

@[simp] theorem AccBank.update_mode (b : AccBank) (key : Nat) (f : Word → Word) : (b.update key f).mode = b.mode := rfl

@[simp] theorem AccBank.get_update_same (b : AccBank) (key : Nat) (f : Word → Word) :
    (b.update key f).get key = f (b.get key) :=
  mapGet_set_same _ _ key _

theorem AccBank.get_update_other (b : AccBank) {key key' : Nat} (f : Word → Word) (h : key' ≠ key) :
    (b.update key f).get key' = b.get key' :=
  mapGet_set_other _ _ _ _ h

/-- The bank after the update of the entry `key x` by `f x` for every `x` of a list. -/
def AccBank.updates {α : Type} (key : α → Nat) (f : α → Word → Word) (b : AccBank) (l : List α) : AccBank :=
  l.foldl (fun b x => b.update (key x) (f x)) b

section
variable {α : Type} (key : α → Nat) (f : α → Word → Word)

theorem AccBank.updates_mode (b : AccBank) (l : List α) : (b.updates key f l).mode = b.mode := by
  induction l generalizing b with
  | nil => rfl
  | cons x l ih => exact ih (b.update (key x) (f x))

theorem AccBank.get_updates_of_notMem {k : Nat} {l : List α} (h : k ∉ l.map key) (b : AccBank) :
    (b.updates key f l).get k = b.get k := by
  induction l generalizing b with
  | nil => rfl
  | cons x l ih =>
    obtain ⟨hk, hl⟩ := not_or.mp (mt List.mem_cons.mpr h)
    exact (ih hl _).trans (b.get_update_other _ hk)

/-- An entry that stands once among those updated is updated from its first value. -/
theorem AccBank.get_updates_of_mem {x : α} {l : List α} (hl : (l.map key).Nodup) (hx : x ∈ l) (b : AccBank) :
    (b.updates key f l).get (key x) = f x (b.get (key x)) := by
  induction l generalizing b with
  | nil => cases hx
  | cons y l ih =>
    obtain ⟨hy, hl⟩ := List.nodup_cons.mp hl
    show ((b.update (key y) (f y)).updates key f l).get (key x) = _
    rcases List.mem_cons.mp hx with rfl | hx
    · rw [get_updates_of_notMem key f hy, get_update_same]
    · have hk : key x ≠ key y := fun e => hy (e ▸ List.mem_map_of_mem hx)
      rw [ih hl hx, b.get_update_other _ hk]

end

/-! ### A pass over an FP32 bank of 32 columns (R98 to R100) -/

theorem accumulate_bank_f32x32 {r : AccRun} (h : r.bank.mode = .f32x32) (ow : Bool) (key : Nat) (s : Num) :
    (accumulate ow r key s).bank = r.bank.update key fun e => accF32 ow e s := by
  simp [accumulate, h, AccBank.update]

/-- Accumulating updates one entry after another. -/
theorem foldl_accumulate_bank {α : Type} (ow : Bool) (key : α → Nat) (s : α → Num) (l : List α) {r : AccRun}
    (h : r.bank.mode = .f32x32) :
    (l.foldl (fun r x => accumulate ow r (key x) (s x)) r).bank = r.bank.updates key (fun x e => accF32 ow e (s x)) l := by
  induction l generalizing r with
  | nil => rfl
  | cons x l ih =>
    have hx := accumulate_bank_f32x32 h ow (key x) (s x)
    rw [List.foldl_cons, ih (by rw [hx]; exact h), hx]
    rfl

/-- The chunk sum that a pass adds to the entry of its row `x.1` and of column `x.2` (R98, R99). -/
def passSum (w : QWord) (a st : Tile) (x : Nat × Nat) : Num :=
  let streamed := ((tileNums a).drop ((iField w 17 16 + x.1) * hCols a.header)).take (hCols a.header)
  chunkSum (mmaWindow (iOpcode w) (hFormat a.header)) ((laneProducts streamed ((stationaryRows st).getD x.2 [])).map (·.2))

/-- The entry of a pass's row `x.1` and column `x.2` in a bank of 32 columns (R89). -/
def passKey (w : QWord) (x : Nat × Nat) : Nat := 512 * x.2 + (iField w 42 9 + x.1)

/-- The rows of a pass with the columns of a bank of 32 (R84). -/
def passPlaces (w : QWord) : List (Nat × Nat) :=
  (List.range (iField w 33 9 + 1)).flatMap fun i => (List.range 32).map (Prod.mk i)

theorem mem_passPlaces {w : QWord} {x : Nat × Nat} : x ∈ passPlaces w ↔ x.1 < iField w 33 9 + 1 ∧ x.2 < 32 := by
  simp only [passPlaces, List.mem_flatMap, List.mem_map, List.mem_range]
  constructor
  · rintro ⟨i, hi, c, hc, rfl⟩
    exact ⟨hi, hc⟩
  · exact fun ⟨hi, hc⟩ => ⟨x.1, hi, x.2, hc, rfl⟩

/-- Places of a pass inside the bank rows with one entry are one place. -/
theorem passKey_inj {w : QWord} (h : iField w 42 9 + iField w 33 9 + 1 ≤ 256) {x y : Nat × Nat} (hx : x ∈ passPlaces w)
    (hy : y ∈ passPlaces w) (e : passKey w x = passKey w y) : x.1 = y.1 ∧ x.2 = y.2 := by
  obtain ⟨hx1, -⟩ := mem_passPlaces.mp hx
  obtain ⟨hy1, -⟩ := mem_passPlaces.mp hy
  simp only [passKey] at e
  omega

/-- The places of a pass stand once each: rows rise, and columns rise in a row. -/
theorem passPlaces_rise (w : QWord) : (passPlaces w).Pairwise fun x y => x.1 < y.1 ∨ x.2 < y.2 := by
  refine List.pairwise_flatMap.mpr ⟨fun i _ => ?row, List.pairwise_lt_range.imp fun {i j} hij x hx y hy => ?rows⟩
  case row => exact List.pairwise_map.mpr (List.pairwise_lt_range.imp fun hc => .inr hc)
  case rows =>
    obtain ⟨c, -, rfl⟩ := List.mem_map.mp hx
    obtain ⟨c', -, rfl⟩ := List.mem_map.mp hy
    exact .inl hij

/-- The places of a pass inside the bank rows have entries of their own. -/
theorem passKeys_nodup {w : QWord} (h : iField w 42 9 + iField w 33 9 + 1 ≤ 256) :
    ((passPlaces w).map (passKey w)).Nodup := by
  refine List.pairwise_map.mpr ((passPlaces_rise w).imp_of_mem fun hx hy rise e => ?_)
  obtain ⟨h1, h2⟩ := passKey_inj h hx hy e
  omega

/-- An entry outside the rows of a pass is none of its entries. -/
theorem notMem_passKeys {w : QWord} {m c : Nat} (h : iField w 42 9 + iField w 33 9 + 1 ≤ 256) (hm : m < 256)
    (out : m < iField w 42 9 ∨ iField w 42 9 + (iField w 33 9 + 1) ≤ m) : 512 * c + m ∉ (passPlaces w).map (passKey w) := by
  intro hk
  obtain ⟨x, hx, e⟩ := List.mem_map.mp hk
  obtain ⟨hx1, -⟩ := mem_passPlaces.mp hx
  simp only [passKey] at e
  omega

theorem runPass_bank_f32x32 {w : QWord} {bank : AccBank} (hm : bank.mode = .f32x32) (hi : iOpcode w ≠ 0xA5)
    (hmax : iOpcode w ≠ 0xB0) (hmin : iOpcode w ≠ 0xB1) (a st : Tile) :
    (runPass w bank a st).bank =
      bank.updates (passKey w) (fun x e => accF32 (iField w 53 2 == 1) e (passSum w a st x)) (passPlaces w) := by
  rw [← foldl_accumulate_bank (r := { bank := bank }) _ _ _ _ hm]
  simp only [runPass, passPlaces, List.foldl_flatMap, List.foldl_map, hm, hi, hmax, hmin, bankCols, bankKey, decide_false,
    Bool.or_self, Bool.false_eq_true, if_false, reduceCtorEq]
  rfl

/-! ### Banks of a core (R80, R94) -/

@[simp] theorem Core.bank_setBank_same (k : Core) (b : Bool) (x : AccBank) : (k.setBank b x).bank b = x := by
  cases b <;> rfl

@[simp] theorem Core.bank_setBank_other (k : Core) (b : Bool) (x : AccBank) : (k.setBank b x).bank (!b) = k.bank (!b) := by
  cases b <;> rfl

@[simp] theorem Core.setBank_spad (k : Core) (b : Bool) (x : AccBank) : (k.setBank b x).spad = k.spad := by
  cases b <;> rfl

@[simp] theorem Core.setBank_ttes (k : Core) (b : Bool) (x : AccBank) : (k.setBank b x).ttes = k.ttes := by
  cases b <;> rfl

/-- A FREE bank opens; an OPENED or CLOSED one stays (R94). -/
theorem bank_openBank (k : Core) (b : Bool) (mode : BankMode) : (openBank k b mode).bank b =
    if (k.bank b).state = .free then { state := .opened, mode := mode, poison := (k.bank b).poison, entries := [] }
    else k.bank b := by
  simp only [openBank]
  split <;> simp

/-! ### What a MAT instruction changes (R90, R94) -/

/-- The other accumulator bank, the scratchpad and the tile table of a core are as before. -/
structure BankAlone (k k' : Core) (b : Bool) : Prop where
  other : k'.bank (!b) = k.bank (!b)
  spad : k'.spad = k.spad
  ttes : k'.ttes = k.ttes

theorem BankAlone.refl (k : Core) (b : Bool) : BankAlone k k b := ⟨rfl, rfl, rfl⟩

theorem BankAlone.setBank {k k' : Core} {b : Bool} (h : BankAlone k k' b) (x : AccBank) : BankAlone k (k'.setBank b x) b :=
  ⟨(k'.bank_setBank_other b x).trans h.other, (k'.setBank_spad b x).trans h.spad, (k'.setBank_ttes b x).trans h.ttes⟩

theorem openBank_bankAlone (k : Core) (b : Bool) (mode : BankMode) : BankAlone k (openBank k b mode) b := by
  simp only [openBank]
  split
  · exact (BankAlone.refl k b).setBank _
  · exact .refl k b

/-- Loading a stationary tile touches no accumulator bank (R90). -/
theorem loadStationary_bank (k : Core) (w : QWord) (t : Tile) (b : Bool) : (loadStationary k w t).bank b = k.bank b := by
  simp only [loadStationary]
  split <;> rfl

theorem BankAlone.loadStationary {k k' : Core} {b : Bool} (h : BankAlone k k' b) (w : QWord) (t : Tile) :
    BankAlone k (loadStationary k' w t) b := by
  refine ⟨(loadStationary_bank k' w t !b).trans h.other, Eq.trans ?_ h.spad, Eq.trans ?_ h.ttes⟩ <;>
    (simp only [Machine.loadStationary]; split <;> rfl)

/-- Bank `b` of core `c` holds `x`; the core's other bank, its scratchpad and tile table, other cores and memory are as before. -/
structure BankHolds (s t : State) (c : Nat) (b : Bool) (x : AccBank) : Prop where
  bank : (t.core c).bank b = x
  alone : BankAlone (s.core c) (t.core c) b
  others : SameOtherCores s t c
  mem : t.mem = s.mem
  poison : t.poison = s.poison

namespace BankHolds
variable {s t : State} {c : Nat} {b : Bool} {x : AccBank}

theorem refl (s : State) (c : Nat) (b : Bool) : BankHolds s s c b ((s.core c).bank b) :=
  ⟨rfl, .refl _ b, fun _ _ => rfl, rfl, rfl⟩

theorem setCore (h : BankHolds s t c b x) {k : Core} (alone : BankAlone (s.core c) k b) :
    BankHolds s (t.setCore c k) c b (k.bank b) :=
  ⟨by rw [t.core_setCore_same], by rwa [t.core_setCore_same],
    fun c' hc => (t.core_setCore_other k hc).trans (h.others c' hc), h.mem, h.poison⟩

theorem setBank (h : BankHolds s t c b x) (y : AccBank) : BankHolds s (t.setCore c ((t.core c).setBank b y)) c b y := by
  simpa only [Core.bank_setBank_same] using h.setCore (h.alone.setBank y)

theorem load (h : BankHolds s t c b x) (w : QWord) (a : Tile) :
    BankHolds s (t.setCore c (loadStationary (t.core c) w a)) c b x := by
  simpa only [loadStationary_bank, h.bank] using h.setCore (h.alone.loadStationary w a)

theorem opened (s : State) (c : Nat) (b : Bool) (mode : BankMode) :
    BankHolds s (s.setCore c (openBank (s.core c) b mode)) c b ((openBank (s.core c) b mode).bank b) :=
  (refl s c b).setCore (openBank_bankAlone _ b mode)

/-- Counting touches no core and no memory. -/
theorem noted (h : BankHolds s t c b x) {u : State} (hn : Noted t u) : BankHolds s u c b x := by
  have hc (c' : Nat) : u.core c' = t.core c' := by rw [hn]; rfl
  exact ⟨by rw [hc, h.bank], by rw [hc]; exact h.alone, fun c' hne => (hc c').trans (h.others c' hne), hn.mem.trans h.mem,
    hn.poison.trans h.poison⟩

end BankHolds

/-- An instruction's own part lets it go with a record that only completes, on a state whose bank `b` of core `c` holds `x`. -/
def IssuesWithBank (s : State) (a : Issue) (c : Nat) (b : Bool) (x : AccBank) : Prop :=
  ∃ r t, a = .go r t ∧ onlyCompletes r ∧ BankHolds s t c b x

/-- A pass accumulates into its bank (R98); its counters touch nothing else (R111). -/
theorem matPass_issuesWithBank {s t : State} {c : Nat} {i : StationInsn} {x : AccBank} (h : BankHolds s t c (iBankB i.w0) x)
    (token : Nat) (a st : Tile) :
    IssuesWithBank s (matPass c t i token a st) c (iBankB i.w0) (runPass i.w0 x a st).bank := by
  unfold matPass
  extract_lets w b k r t1 t2 t3 t4
  have h1 : BankHolds s t1 c b (runPass w x a st).bank := by rw [← h.bank]; exact h.setBank r.bank
  have h2 : Noted t1 t2 := t1.bump_noted _ _
  have h3 : Noted t2 t3 := .ite (.refl t2) (t2.bump_noted _ _)
  have h4 : Noted t3 t4 := .ite (.refl t3) (t3.bump_noted _ _)
  exact ⟨_, t4, rfl, ⟨rfl, rfl, rfl, rfl⟩, h1.noted ((h2.trans h3).trans h4)⟩

/-! ### MAT instructions with sound operands (R83 to R86, R93, R95, R104) -/

/-- The bank and the tiles of a MAT instruction let its pass begin: no wait for the bank (R95), no poison (R49), headers and
shapes as R43 and R85 ask, the bank in the opcode's mode (R95), a kept tile (R93) or an index plane (R88) in order. -/
structure MatSound (k : Core) (w : QWord) (op : Nat) : Prop where
  notClosed : (k.bank (iBankB w)).state ≠ .closed
  noVec : vecOnBank k (iBankB w) (fun _ => true) = false
  unpoisoned : poisonedInput k [iH1 w, iH2 w] = none
  streamed : headerOk (readHeader k (iH1 w)) (256 * (hGranules (readHeader k (iH1 w)) + 1)) = true
  stationary : headerOk (readHeader k (iH2 w)) (256 * (hGranules (readHeader k (iH2 w)) + 1)) = true
  shapes : mmaTilesOk op (readHeader k (iH1 w)) (readHeader k (iH2 w)) = true
  rows : iField w 17 16 + iField w 33 9 + 1 ≤ hRows (readHeader k (iH1 w))
  mode : ((openBank k (iBankB w) (mmaMode op)).bank (iBankB w)).mode = mmaMode op
  kept : bitf w 51 = true → keepOk k w = true
  loaded : bitf w 51 = false → hLayout (readHeader k (iH2 w)) = 2 → positionsOk (tilePositions (readTile k (iH2 w))) = true

/-- An instruction that R104 skips: an ALLZERO tile, and no MAXMIN opcode. -/
def matSkips (k : Core) (w : QWord) (op : Nat) : Bool :=
  (hAllzero (readHeader k (iH1 w)) || hAllzero (readHeader k (iH2 w))) && op != 0xB0 && op != 0xB1

section
variable {k : Core} {w : QWord} {op : Nat} (h : MatSound k w op)
include h

/-- No OPENED bank of another mode stands in the way (R95). -/
theorem MatSound.modeFits :
    (decide ((k.bank (iBankB w)).state = .opened) && (k.bank (iBankB w)).mode != mmaMode op) = false := by
  by_cases ho : (k.bank (iBankB w)).state = .opened
  · have hm := h.mode
    rw [bank_openBank, if_neg (by simp [ho])] at hm
    simp [hm]
  · simp [ho]

/-- No broken index plane is to be loaded (R88). -/
theorem MatSound.planeFits :
    (bitf w 51 || hLayout (readHeader k (iH2 w)) != 2 || positionsOk (tilePositions (readTile k (iH2 w)))) = true := by
  by_cases hk : bitf w 51 = true
  · simp [hk]
  · by_cases hl : hLayout (readHeader k (iH2 w)) = 2
    · simp [h.loaded (by simpa using hk) hl]
    · simp [hl]

/-- A stationary tile that is loaded has its index plane in order, if it has one (R88). -/
theorem MatSound.planeLoads (hk : bitf w 51 = false) : (decide (hLayout (readHeader k (iH2 w)) = 2) &&
    !positionsOk (tilePositions (readTile k (iH2 w)))) = false := by
  by_cases hl : hLayout (readHeader k (iH2 w)) = 2
  · simp [h.loaded hk hl]
  · simp [hl]

end

section
variable {s : State} {c : Nat} {i : StationInsn} (h : MatSound (s.core c) i.w0 (iOpcode i.w0)) (token : Nat)
include h

/-- With sound operands only the ALLZERO skip (R104), the wait of MMA.F8H (R90) and the checksums (R45) stand before the pass. -/
theorem matIssue_sound : matIssue c s i token =
    let k := s.core c
    let so := s.setCore c (openBank k (iBankB i.w0) (mmaMode (iOpcode i.w0)))
    if matSkips k i.w0 (iOpcode i.w0) then
      .go (plainFlight i token) ((so.setCore c ((so.core c).setBank (iBankB i.w0)
        (skipPass i.w0 ((so.core c).bank (iBankB i.w0))))).bump (coreRow 0x8010 3 c) 1)
    else if iOpcode i.w0 = 0xA1 && inFlightCount k 1 != 0 then .stall
    else if !tileCrcOk (readTile k (iH1 i.w0)) then withdrawnIssue so c 1 i token 0x2006 (iH1 i.w0) (iH1 i.w0)
    else if bitf i.w0 51 then matPass c so i token (readTile k (iH1 i.w0)) (lastStationary k)
    else if !tileCrcOk (readTile k (iH2 i.w0)) then withdrawnIssue so c 1 i token 0x2006 (iH2 i.w0) (iH2 i.w0)
    else matPass c (so.setCore c (loadStationary (so.core c) i.w0 (readTile k (iH2 i.w0)))) i token
      (readTile k (iH1 i.w0)) (readTile k (iH2 i.w0)) := by
  have hrows : ¬ hRows (readHeader (s.core c) (iH1 i.w0)) < iField i.w0 17 16 + iField i.w0 33 9 + 1 := by
    have := h.rows
    omega
  have hkeep : (bitf i.w0 51 && !keepOk (s.core c) i.w0) = false := by
    cases hk : bitf i.w0 51
    · rfl
    · simp [h.kept hk]
  simp only [matIssue, matSkips, h.notClosed, h.noVec, h.unpoisoned, h.streamed, h.stationary, h.shapes, hrows, h.modeFits, hkeep,
    h.planeFits, decide_false, Bool.or_self, Bool.not_true, Bool.false_eq_true, if_false, Bool.and_true]
  cases hk : bitf i.w0 51
  · simp only [h.planeLoads hk, Bool.false_eq_true, if_false]
  · simp only [if_true]

/-- An ALLZERO tile: the bank takes the skipped pass (R104). -/
theorem matIssue_skips (hs : matSkips (s.core c) i.w0 (iOpcode i.w0) = true) :
    IssuesWithBank s (matIssue c s i token) c (iBankB i.w0)
      (skipPass i.w0 ((openBank (s.core c) (iBankB i.w0) (mmaMode (iOpcode i.w0))).bank (iBankB i.w0))) := by
  have ho := BankHolds.opened s c (iBankB i.w0) (mmaMode (iOpcode i.w0))
  simp only [matIssue_sound h token, hs, if_true]
  refine ⟨_, _, rfl, ⟨rfl, rfl, rfl, rfl⟩, .noted ?_ (State.bump_noted _ _ _)⟩
  rw [← ho.bank]
  exact ho.setBank _

/-- Whole tiles: the bank takes the pass, with the kept or the loaded stationary tile (R93, R98). -/
theorem matIssue_passes (hs : matSkips (s.core c) i.w0 (iOpcode i.w0) = false)
    (hw : iOpcode i.w0 = 0xA1 → inFlightCount (s.core c) 1 = 0) (ha : tileCrcOk (readTile (s.core c) (iH1 i.w0)) = true)
    (hb : bitf i.w0 51 = false → tileCrcOk (readTile (s.core c) (iH2 i.w0)) = true) :
    IssuesWithBank s (matIssue c s i token) c (iBankB i.w0)
      (runPass i.w0 ((openBank (s.core c) (iBankB i.w0) (mmaMode (iOpcode i.w0))).bank (iBankB i.w0))
        (readTile (s.core c) (iH1 i.w0))
        (if bitf i.w0 51 then lastStationary (s.core c) else readTile (s.core c) (iH2 i.w0))).bank := by
  have ho := BankHolds.opened s c (iBankB i.w0) (mmaMode (iOpcode i.w0))
  have hnw : (decide (iOpcode i.w0 = 0xA1) && inFlightCount (s.core c) 1 != 0) = false := by
    by_cases e : iOpcode i.w0 = 0xA1
    · simp [hw e]
    · simp [e]
  simp only [matIssue_sound h token, hs, hnw, ha, Bool.not_true, Bool.false_eq_true, if_false]
  cases hk : bitf i.w0 51
  case true => simpa only [if_true] using matPass_issuesWithBank ho token _ _
  case false => simpa only [hb hk, Bool.not_true, Bool.false_eq_true, if_false] using
      matPass_issuesWithBank (ho.load i.w0 _) token _ _

end

/-- Every MAT command is the issue rule with the own part of MAT (R83). -/
theorem exec_mat {c : CoreId} {cmd : Instr} {op : Nat} (h : (cmd, op) ∈ matRows c) (s : State) :
    exec cmd s = .next (issueStation s c.val 1 op (matIssue c.val)) := by
  simp only [matRows, List.mem_cons, Prod.mk.injEq, List.not_mem_nil, or_false] at h
  rcases h with ⟨rfl, rfl⟩ | ⟨rfl, rfl⟩ | ⟨rfl, rfl⟩ | ⟨rfl, rfl⟩ | ⟨rfl, rfl⟩ | ⟨rfl, rfl⟩ | ⟨rfl, rfl⟩ | ⟨rfl, rfl⟩ |
    ⟨rfl, rfl⟩ | ⟨rfl, rfl⟩ | ⟨rfl, rfl⟩ <;> rfl

theorem exec_mat_of_issuesWithBank {c : CoreId} {s : State} {i : StationInsn} {f : Form} {cmd : Instr} {op : Nat} {x : AccBank}
    (hrow : (cmd, op) ∈ matRows c) (hmay : mayIssue s c.val 1 op i f)
    (h : IssuesWithBank s (matIssue c.val s i s.nextToken) c.val (iBankB i.w0) x) :
    ∃ s' r, exec cmd s = .next (issued s' (s.core c.val) c.val 1 i f r) ∧ onlyCompletes r ∧
      BankHolds s s' c.val (iBankB i.w0) x := by
  obtain ⟨r, t, hgo, hr, bank, alone, others, mem, poison⟩ := h
  refine ⟨{ t with nextToken := s.nextToken + 1 }, r, ?_, hr, bank, alone, others, mem, poison⟩
  rw [exec_mat hrow, issueStation_mayIssue hmay, hgo]


/-! ### The statements -/

/-- Settles O16: a pass updates each of its entries once, from the value before the pass. -/
theorem matPassEntries : Obligations.MatPassEntries := by
  intro w bank a st m c hc hm hi hmax hmin hrows r row0 rows cols streamed
  have hr : r = bank.updates (passKey w) (fun x e => accF32 (iField w 53 2 == 1) e (passSum w a st x)) (passPlaces w) :=
    runPass_bank_f32x32 hm hi hmax hmin a st
  refine ⟨fun i hrow e => ?inside, fun hlt out => ?outside, ?mode⟩
  case inside =>
    have hx : (i, c) ∈ passPlaces w := mem_passPlaces.mpr ⟨hrow, hc⟩
    rw [hr, e]
    exact AccBank.get_updates_of_mem (passKey w) _ (passKeys_nodup hrows) hx bank
  case outside => rw [hr, AccBank.get_updates_of_notMem _ _ (notMem_passKeys hrows hlt out)]
  case mode => rw [hr, AccBank.updates_mode]

/-- Settles O15: with sound operands the instruction is skipped or passes, and either changes its bank alone. -/
theorem matIssuesAndAccumulates : Obligations.MatIssuesAndAccumulates := by
  intro c s i f cmd op hrow hmay k w b ha hb keep bank skip st hclosed hvec hpoison hha hhb hshape hrows hmode hkeep hplane hpass
  have ⟨⟨_, _, _, hop⟩, _⟩ := hmay
  subst hop
  have hbank : (openBank k b (mmaMode (iOpcode w))).bank b = bank := bank_openBank k b _
  have sound : MatSound k w (iOpcode w) :=
    ⟨hclosed, hvec, hpoison, hha, hhb, hshape, hrows, (congrArg AccBank.mode hbank).trans hmode, hkeep, hplane⟩
  have issues : IssuesWithBank s (matIssue c.val s i s.nextToken) c.val b
      (if skip then skipPass w bank else (runPass w bank (readTile k (iH1 w)) st).bank) := by
    rw [← hbank]
    cases hs : skip
    case true => exact matIssue_skips sound s.nextToken hs
    case false =>
      obtain ⟨hwait, hcrc, hload⟩ := hpass hs
      exact matIssue_passes sound s.nextToken hs hwait hcrc hload
  obtain ⟨s', r, he, hr, held⟩ := exec_mat_of_issuesWithBank hrow hmay issues
  obtain ⟨other, spad, ttes⟩ := held.alone
  exact ⟨s', r, he, hr, held.bank, other, spad, ttes, held.others, held.mem, held.poison⟩

end Sys2Proof.Machine
end

section
/-! PROOF. Station SIG (R153, R188, R228 to R231, R386): what each instruction's own part comes to where its conditions hold, and
that adding to a counter touches no step, core or memory. -/
namespace Sys2Proof.Machine

/-! ### Counting leaves the records of steps alone (R439, R443) -/

theorem State.event_steps (s : State) (bit : Nat) : (s.event bit).steps = s.steps := by
  unfold State.event State.sendVector
  extract_lets
  split
  · split
    · split <;> rfl
    · rfl
  · rfl

theorem appendFault_steps (s : State) (r : BitVec 512) : (appendFault s r).1.steps = s.steps := by
  unfold appendFault
  extract_lets
  split <;> rfl

theorem appendNote_steps (s : State) (code : Nat) (a : FaultAt) : (appendNote s code a).1.steps = s.steps := by
  unfold appendNote
  extract_lets
  split
  · rfl
  · exact (State.event_steps _ 1).trans (appendFault_steps _ _)

theorem noteSaturated_steps (n : Nat) (ks : List Key) (s : State) : (noteSaturated n ks s).steps = s.steps := by
  induction n generalizing ks s with
  | zero => rfl
  | succ n ih =>
    cases ks with
    | nil => rfl
    | cons k ks => exact (ih _ _).trans (appendNote_steps s _ _)

/-- A note is charged to no step: only withdrawals write the records of steps (R426). -/
theorem State.note_steps (s : State) (code : Nat) (a : FaultAt) : (s.note code a).steps = s.steps :=
  (noteSaturated_steps _ _ _).trans (appendNote_steps s code a)

theorem State.bump_steps (s : State) (k : Key) (n : Nat) : (s.bump k n).steps = s.steps := by
  unfold State.bump
  extract_lets
  split
  · exact State.note_steps _ _ _
  · rfl

theorem State.bump_quiet (s : State) (k : Key) (n : Nat) : Quiet s (s.bump k n) :=
  have h := s.bump_noted k n
  ⟨h.cores, h.mem, h.poison, s.bump_steps k n, h.increments, h.regions, h.links, h.queues⟩

/-- A counter outside the counters of notes moves as R439 says, whatever note its saturation raises. -/
theorem State.bump_val_same {k : Key} (h : Unnoted k) (s : State) (n : Nat) :
    (s.bump k n).val k = counterAfter (s.val k) n := by
  unfold State.bump
  extract_lets p
  have hp : p.1.val k = counterAfter (s.val k) n := State.val_setVal_same _ _ _
  split
  · exact (State.note_val h _ _ _).trans hp
  · exact hp

theorem contextCounter_unnoted {n counter : Nat} (hn : n < 128) (hc : counter < 5) : Unnoted (contextCounter n counter) := by
  simp only [Unnoted, contextCounter]
  omega

/-! ### What an instruction's own part makes of its issue (R60) -/

section
variable {s : State} {c st op : Nat} {i : StationInsn} {f : Form} {body : State → StationInsn → Nat → Issue}

theorem issueStation_go {r : InFlight} {t : State} (h : mayIssue s c st op i f) (e : body s i s.nextToken = .go r t) :
    issueStation s c st op body = issued { t with nextToken := s.nextToken + 1 } (s.core c) c st i f r := by
  rw [issueStation_mayIssue h, e]

theorem issueStation_stall (h : mayIssue s c st op i f) (e : body s i s.nextToken = .stall) :
    issueStation s c st op body = s := by
  rw [issueStation_mayIssue h, e]

end

/-! ### The SIG instructions' own parts (R188, R228 to R231, R386) -/

section
variable {s : State} {c j : Nat} {i : StationInsn} (token : Nat)

/-- The target lies in the CORE_MASK of the issuing job stream (R228). -/
theorem sigAddIssue_inMask (hj : s.jsOfCore c = some j) (h : s.inMask j (iField i.w0 40 8) = true) :
    sigAddIssue c s i token = plainIssue i token none
      (s.sendIncrement (.core (Fin.ofNat 256 c)) (iField i.w0 40 8) (iField i.w0 48 8) (iField i.w0 0 32)) := by
  simp only [sigAddIssue, hj, h, Bool.not_true, Bool.false_eq_true, if_false]

/-- Every covered tile has been sent, and the crown's edge is ON (R230, R37). -/
theorem sigRemoteIssue_ready (hj : s.jsOfCore c = some j) (hk : remoteKnown s j (iField i.w0 24 16) (remoteMessage s c j i) = true)
    (hr : remoteReady s j (iField i.w0 24 16) (remoteMessage s c j i) = true) (he : s.domainOn (domEdge (c / 64)) = true) :
    sigRemoteIssue c s i token = plainIssue i token (some (false, syncBytes (remoteMessage s c j i))) s := by
  simp only [sigRemoteIssue, hj, hk, hr, he, Bool.not_true, Bool.or_self, Bool.false_eq_true, if_false]

/-- A covered tile is still to be sent, or the crown's edge is not ON (R230, R37). -/
theorem sigRemoteIssue_waits (hj : s.jsOfCore c = some j) (hk : remoteKnown s j (iField i.w0 24 16) (remoteMessage s c j i) = true)
    (h : remoteReady s j (iField i.w0 24 16) (remoteMessage s c j i) = false ∨ s.domainOn (domEdge (c / 64)) = false) :
    sigRemoteIssue c s i token = .stall := by
  have hw : (!remoteReady s j (iField i.w0 24 16) (remoteMessage s c j i) || !s.domainOn (domEdge (c / 64))) = true := by
    rcases h with h | h <;> simp [h]
  simp only [sigRemoteIssue, hj, hk, hw, Bool.not_true, Bool.false_eq_true, if_false, if_true]

/-- The message of a SIG.TRIGGER (R231). -/
def triggerMessage (s : State) (c j : Nat) (w : QWord) : Sync :=
  { kind := 1, srcJs := j, dstJs := iField w 38 2, srcCore := c, dstCore := 0, sem := 0, n := 0
    epoch := s.val (keyEpoch j), firstId := 0, gen := 0, count := 0, lastTiles := 0 }

theorem sigTriggerIssue_edgeOn (hj : s.jsOfCore c = some j) (he : s.domainOn (domEdge (c / 64)) = true) :
    sigTriggerIssue c s i token = plainIssue i token (some (false, syncBytes (triggerMessage s c j i.w0))) s := by
  simp only [sigTriggerIssue, hj, he, Bool.not_true, Bool.false_eq_true, if_false, Option.getD_some, triggerMessage]

/-- The context is registered to the issuing job stream (R188). -/
theorem sigAcountIssue_known (hj : s.jsOfCore c = some j) (hn : iField i.w0 48 8 < 128) (hc : iField i.w0 44 4 < 5)
    (hreg : s.val (contextKey (iField i.w0 48 8)) / 2 ^ 50 % 2 = 1)
    (hown : s.val (contextKey (iField i.w0 48 8)) / 2 ^ 48 % 4 = j) :
    sigAcountIssue c s i token = plainIssue i token none
      (s.bump (contextCounter (iField i.w0 48 8) (iField i.w0 44 4)) (iField i.w0 0 32)) := by
  simp only [sigAcountIssue, hj, hn, hc, hreg, hown, decide_true, beq_self_eq_true, Bool.and_self, if_true]

/-- The target is the active route epoch (R386, row 2). -/
theorem sigRouteswapIssue_noop (hj : s.jsOfCore c = some j) (h : swapOutcome s j (iField i.w0 0 32) = .noop) :
    sigRouteswapIssue c s i token = plainIssue i token none s := by
  simp only [sigRouteswapIssue, hj, h]

/-- The staged table is VALID, has the target as its epoch, and no use is in flight (R386). -/
theorem sigRouteswapIssue_swap (hj : s.jsOfCore c = some j) (h : swapOutcome s j (iField i.w0 0 32) = .swap) :
    sigRouteswapIssue c s i token = plainIssue i token none s.swapRoutes := by
  simp only [sigRouteswapIssue, hj, h]

end

/-! ### The statement -/

/-- SIG.ACOUNT in a registered context of its job stream: beside its issue, the context's counter and what counting writes. -/
theorem exec_sigAcount_counts {c : CoreId} {s : State} {i : StationInsn} {f : Form} {j : Nat} (hj : s.jsOfCore c.val = some j)
    (hmay : mayIssue s c.val 6 0x3E i f) (hn : iField i.w0 48 8 < 128) (hc : iField i.w0 44 4 < 5)
    (hreg : s.val (contextKey (iField i.w0 48 8)) / 2 ^ 50 % 2 = 1)
    (hown : s.val (contextKey (iField i.w0 48 8)) / 2 ^ 48 % 4 = j) :
    ∃ s', exec (.sigAcount c) s = .next (issued s' (s.core c.val) c.val 6 i f { token := s.nextToken, insn := i }) ∧
      Quiet s s' ∧ s'.val (contextCounter (iField i.w0 48 8) (iField i.w0 44 4)) =
        counterAfter (s.val (contextCounter (iField i.w0 48 8) (iField i.w0 44 4))) (iField i.w0 0 32) :=
  ⟨{ s.bump (contextCounter (iField i.w0 48 8) (iField i.w0 44 4)) (iField i.w0 0 32) with nextToken := s.nextToken + 1 },
    congrArg _ (issueStation_go hmay (sigAcountIssue_known s.nextToken hj hn hc hreg hown)), s.bump_quiet _ _,
    s.bump_val_same (contextCounter_unnoted hn hc) _⟩

/-- Settles O20: each instruction's own part decides, and the issue rule puts its plain record in flight. -/
theorem sigIssues : Obligations.SigIssues := by
  intro c s i f j hj k w may core edge
  refine ⟨fun hmay hin => ?add, fun hmay hk hr he => ?remote, fun hmay hk hw => ?remoteWaits, fun hmay he => ?trigger,
    exec_sigAcount_counts hj, fun hmay => ?watch, fun hmay ho => ?noop, fun hmay ho => ?swap⟩
  case add => exact congrArg _ (issueStation_go hmay (sigAddIssue_inMask s.nextToken hj hin))
  case remote => exact congrArg _ (issueStation_go hmay (sigRemoteIssue_ready s.nextToken hj hk hr he))
  case remoteWaits => exact congrArg _ (issueStation_stall hmay (sigRemoteIssue_waits s.nextToken hj hk hw))
  case trigger =>
    exact ⟨triggerMessage s c.val j w, congrArg _ (issueStation_go hmay (sigTriggerIssue_edgeOn s.nextToken hj he)),
      rfl, rfl, rfl, rfl, rfl⟩
  case watch => exact congrArg _ (issueStation_go (body := sigWatchIssue c.val) hmay rfl)
  case noop => exact congrArg _ (issueStation_go hmay (sigRouteswapIssue_noop s.nextToken hj ho))
  case swap => exact congrArg _ (issueStation_go hmay (sigRouteswapIssue_swap s.nextToken hj ho))

end Sys2Proof.Machine
end

section
/-! PROOF. Registration and release (R174, R175, R313 to R316, R338 to R342, R376, R377): what the firmware's reads count, what each
command's own part comes to where the descriptor is sound, and with these the statement. -/
namespace Sys2Proof.Machine

/-! ### What presented reads count (R210, R221) -/

theorem readsCounted.refl (s : State) : readsCounted s s := fun _ _ _ _ _ => rfl

theorem readsCounted.trans {s t u : State} (h : readsCounted s t) (k : readsCounted t u) : readsCounted s u :=
  fun x hs hr hi hn => (k x hs hr hi hn).trans (h x hs hr hi hn)

theorem readsCounted_of_dict_eq {s t : State} (h : t.dict = s.dict) : readsCounted s t := by
  intro k _ _ _ _
  simp only [State.val, h]

theorem hbmPlace_stack_lt {a : Nat} (h : inHbm a = true) : (hbmPlace a).stack < 32 := by
  have ha : a < hbmEnd := of_decide_eq_true h
  have hc : hbmCrown a < 4 := by
    simp only [hbmEnd] at ha
    simp only [hbmCrown, crownSpan]
    omega
  have ho : a % crownSpan < 0x3000000000 := Nat.mod_lt _ (by decide)
  unfold hbmPlace
  extract_lets
  split <;> simp only <;> omega

theorem readsCounted_bump_stack {q : HbmReq} (h : inHbm q.addr = true) (s : State) (n : Nat) :
    readsCounted s (s.bump (stackKey (hbmPlace q.addr).stack 9) n) := by
  intro k hs hr hi hn
  have hst := hbmPlace_stack_lt h
  refine State.bump_val ⟨hs, hr, hn⟩ (fun e => hi ?_) s n
  have := keyCode_inj (k' := stackKey (hbmPlace q.addr).stack 9) hs (by simp [stackKey]) hr (by simp [stackKey]) e
  subst this
  simp only [stackKey]
  omega

/-- A full bank is a bank of HBM (R210). -/
theorem inHbm_of_bankFull {held : List HbmReq} {q : HbmReq} (h : bankFull held q = true) : inHbm q.addr = true := by
  have hlen : 8 ≤ ((slotsOf held q).filter (sameBank q)).length := of_decide_eq_true h
  obtain ⟨x, hx⟩ := List.exists_mem_of_length_pos (Nat.lt_of_lt_of_le (by decide) hlen)
  have hsame : sameBank q x = true := (List.mem_filter.mp hx).2
  simp only [sameBank, Bool.and_eq_true] at hsame
  exact hsame.1.1

/-- A request that still waits has waited before as it is, or is marked now because its bank is full (R210). -/
theorem mem_admitRequests_waiting {isOpen : HbmReq → Bool} {q : HbmReq} :
    ∀ {waiting held : List HbmReq}, q ∈ (admitRequests isOpen held waiting).2 → q ∈ waiting ∨ q.capped = false ∨ inHbm q.addr = true
  | [], _, h => by simp [admitRequests] at h
  | w :: ws, held, h => by
    unfold admitRequests at h
    split at h
    · exact (mem_admitRequests_waiting h).imp_left (List.mem_cons_of_mem w)
    · rcases List.mem_cons.mp h with rfl | h
      · cases hb : bankFull held w with
        | true => exact .inr (.inr (inHbm_of_bankFull hb))
        | false => simp
      · exact (mem_admitRequests_waiting h).imp_left (List.mem_cons_of_mem w)

theorem readsCounted_foldl_bump (l : List HbmReq) (h : ∀ q ∈ l, inHbm q.addr = true) (s : State) :
    readsCounted s (l.foldl (fun s q => s.bump (stackKey (hbmPlace q.addr).stack 9) 1) s) := by
  induction l generalizing s with
  | nil => exact .refl s
  | cons q l ih =>
    exact (readsCounted_bump_stack (h q (by simp)) s 1).trans (ih (fun x hx => h x (by simp [hx])) _)

/-- Only requests that R210 has come to hold are counted, and they are requests of HBM. -/
theorem State.seatRequests_readsCounted (s : State) (held waiting : List HbmReq) : readsCounted s (s.seatRequests held waiting) := by
  unfold State.seatRequests
  extract_lets r
  refine readsCounted.trans (readsCounted_of_dict_eq rfl) (readsCounted_foldl_bump _ (fun q hq => ?_) _)
  obtain ⟨hmem, hnew⟩ := List.mem_filter.mp hq
  simp only [Bool.and_eq_true, Bool.not_eq_true', List.contains_eq_mem, decide_eq_false_iff_not] at hnew
  rcases mem_admitRequests_waiting hmem with h | h | h
  · exact absurd h hnew.2
  · simp [h] at hnew
  · exact h

theorem State.firmwareReads_readsCounted (s : State) (a n : Nat) : readsCounted s (s.firmwareReads a n) :=
  readsCounted.trans (readsCounted_of_dict_eq (spanRequests_dict _ _ _ _ _ _ s.newToken.2)) (State.seatRequests_readsCounted _ _ _)

/-- A cell that reads do not count: outside the stacks and the notes, within the ranges of subindex and row. -/
theorem readsCounted.val {s t : State} {k : Key} (h : readsCounted s t) (hu : Unnoted k) (hi : 0x4120 ≤ k.index) : t.val k = s.val k :=
  h k hu.1 hu.2.1 (by omega) hu.2.2

/-- A descriptor and then a table read by firmware, as a registration does. -/
def State.readsTable (s : State) (a table n : Nat) : State := (s.firmwareReads a 64).firmwareReads table n

theorem State.readsTable_presented (s : State) (a table n : Nat) : Presented s (s.readsTable a table n) :=
  (s.firmwareReads_presented _ _).trans (State.firmwareReads_presented _ _ _)

theorem State.readsTable_readsCounted (s : State) (a table n : Nat) : readsCounted s (s.readsTable a table n) :=
  (s.firmwareReads_readsCounted _ _).trans (State.firmwareReads_readsCounted _ _ _)

theorem Presented.colls {s t : State} (h : Presented s t) : t.colls = s.colls := by obtain ⟨_, _, _, _, h⟩ := h; rw [h]
theorem Presented.rings {s t : State} (h : Presented s t) : t.rings = s.rings := by obtain ⟨_, _, _, _, h⟩ := h; rw [h]
theorem Presented.contexts {s t : State} (h : Presented s t) : t.contexts = s.contexts := by obtain ⟨_, _, _, _, h⟩ := h; rw [h]
theorem Presented.maps {s t : State} (h : Presented s t) : t.maps = s.maps := by obtain ⟨_, _, _, _, h⟩ := h; rw [h]
theorem Presented.mapsNext {s t : State} (h : Presented s t) : t.mapsNext = s.mapsNext := by obtain ⟨_, _, _, _, h⟩ := h; rw [h]

/-! ### Counters cleared at a registration -/

section
variable (key : Nat → Key) (l : List Nat) (s : State)

/-- The counters of a registration, each set to zero. -/
def clearCounters : State := l.foldl (fun s i => s.setVal (key i) 0) s

theorem clearCounters_noted : Noted s (clearCounters key l s) := by
  induction l generalizing s with
  | nil => exact .refl s
  | cons i l ih => exact (s.setVal_noted _ _).trans (ih _)

theorem clearCounters_val_other {k : Key} (h : ∀ i ∈ l, keyCode k ≠ keyCode (key i)) : (clearCounters key l s).val k = s.val k := by
  induction l generalizing s with
  | nil => rfl
  | cons i l ih =>
    exact (ih _ fun j hj => h j (List.mem_cons_of_mem i hj)).trans (State.val_setVal_other _ _ (h i List.mem_cons_self))

theorem clearCounters_val {i : Nat} (hi : i ∈ l) (hinj : ∀ m n, keyCode (key m) = keyCode (key n) → m = n) :
    (clearCounters key l s).val (key i) = 0 := by
  induction l generalizing s with
  | nil => simp at hi
  | cons m l ih =>
    by_cases hl : i ∈ l
    · exact ih _ hl
    · obtain rfl : i = m := by simpa [hl] using hi
      have apart : ∀ j ∈ l, keyCode (key i) ≠ keyCode (key j) := fun j hj e => hl (hinj i j e ▸ hj)
      exact (clearCounters_val_other key l _ apart).trans (State.val_setVal_same _ _ _)

/-- Counters cleared stay so, whatever is registered and read after. -/
theorem clearCounters_val_counted {u t : State} {i : Nat} (hi : i ∈ l) (hinj : ∀ m n, keyCode (key m) = keyCode (key n) → m = n)
    (hun : Unnoted (key i)) (hidx : 0x4120 ≤ (key i).index) (ht : readsCounted u t) (hu : u.dict = (clearCounters key l s).dict) :
    t.val (key i) = 0 := by
  rw [ht.val hun hidx, State.val, hu]
  exact clearCounters_val key l s hi hinj

end

/-! ### Collectives (R315, R316) -/

theorem mem_insertColl {x y : Coll} : ∀ {l : List Coll}, y ∈ insertColl x l ↔ y = x ∨ y ∈ l
  | [] => by simp [insertColl]
  | z :: l => by
    unfold insertColl
    split
    · simp only [List.mem_cons, mem_insertColl (l := l), or_left_comm]
    · simp

theorem collCounter_inj (number m n : Nat) (h : keyCode (collCounter number m) = keyCode (collCounter number n)) : m = n := by
  simp only [keyCode, collCounter] at h
  omega

theorem collCounter_unnoted {number i : Nat} (hn : number < 256) (hi : i < 5) : Unnoted (collCounter number i) := by
  simp only [Unnoted, collCounter]
  omega

/-- A collective beside those registered, its counters at zero. -/
def State.withColl (s : State) (x : Coll) : State :=
  let c := clearCounters (collCounter x.number) (List.range 5) s
  { c with colls := insertColl x c.colls }

section
variable (s : State) (x : Coll)

theorem State.withColl_colls : (s.withColl x).colls = insertColl x s.colls :=
  congrArg _ (clearCounters_noted _ _ s).presented.colls
theorem State.withColl_rings : (s.withColl x).rings = s.rings := (clearCounters_noted _ _ s).presented.rings
theorem State.withColl_mem : (s.withColl x).mem = s.mem := (clearCounters_noted _ _ s).mem

end

/-- COLL_REGISTER accepts a sound descriptor (R315, R377). -/
theorem collRegisterBody_sound {s : State} {v a number n : Nat} {r : BitVec 512 × Bool} {x : Coll} (ha : v % 2 ^ 48 = a)
    (hnum : v / 2 ^ 48 = number) (hr : readDescriptor s a = r) (hn : getf r.1 336 12 + 1 = n)
    (hx : collOfDesc number a r.1 (readMembers s (getf r.1 432 48) n) = x) (hlt : number < 256)
    (hat : descriptorAt s x.js a = true) (hcrc : r.2 = true) (hres : getf r.1 16 227 = 0) (hver : getf r.1 0 16 = 1)
    (hfields : collFieldsOk x = true) (hnew : ∀ y ∈ s.colls, y.number ≠ number) (hepoch : epochKnown s x.js x.epoch = true)
    (hmem : membersOk s x.js (getf r.1 432 48) n x.rank x.members = true)
    (hids : ∀ y ∈ s.colls, y.js = x.js → idsMeet y.idBase y.idCount x.idBase x.idCount = false) (hgroup : groupRefused s x = false) :
    collRegisterBody v s = .ok ((s.withColl x).readsTable a (getf r.1 432 48) (2 * n)) := by
  have hv : ¬ 2 ^ 56 ≤ v := by omega
  have hnew : s.colls.any (·.number == number) = false := by simpa using hnew
  have hids : (s.colls.any fun y => y.js == x.js && idsMeet y.idBase y.idCount x.idBase x.idCount) = false := by simpa using hids
  obtain rfl : x.number = number := by rw [← hx]; rfl
  simp only [collRegisterBody, if_neg hv, ha, hnum, hr, hn, hx, hat, hcrc, hres, hver, hfields, hnew, hepoch, hmem, hids, hgroup,
    bne_self_eq_false, Bool.not_true, Bool.or_self, Bool.false_eq_true, if_false]
  rfl

/-- What a registered collective leaves: itself and the others, its counters at zero, rings and memory as they were. -/
theorem State.withColl_registered {s t : State} {x : Coll} (hlt : x.number < 256) (hp : Presented (s.withColl x) t)
    (hc : readsCounted (s.withColl x) t) :
    x ∈ t.colls ∧ (∀ y ∈ s.colls, y ∈ t.colls) ∧ (∀ i, i < 5 → t.val (collCounter x.number i) = 0) ∧
      t.rings = s.rings ∧ t.mem = s.mem := by
  have hcolls : t.colls = insertColl x s.colls := hp.colls.trans (s.withColl_colls x)
  refine ⟨?_, fun y hy => ?_, fun i hi => ?_, hp.rings.trans (s.withColl_rings x), hp.mem.trans (s.withColl_mem x)⟩
  · rw [hcolls]; exact mem_insertColl.mpr (.inl rfl)
  · rw [hcolls]; exact mem_insertColl.mpr (.inr hy)
  · exact clearCounters_val_counted _ _ s (List.mem_range.mpr hi) (collCounter_inj x.number) (collCounter_unnoted hlt hi)
      (by simp [collCounter]) hc rfl

theorem collReleaseBody_idle {s : State} {n : Nat} {x : Coll} (hx : s.colls.find? (·.number == n) = some x)
    (hidle : s.stepRunning x.js = false) : collReleaseBody n s = .ok { s with colls := s.colls.filter (·.number != n) } := by
  simp [collReleaseBody, hx, hidle]

/-! ### Rings (R341, R342) -/

theorem mem_insertRing {x y : Ring} : ∀ {l : List Ring}, y ∈ insertRing x l ↔ y = x ∨ y ∈ l
  | [] => by simp [insertRing]
  | z :: l => by
    unfold insertRing
    split
    · simp only [List.mem_cons, mem_insertRing (l := l), or_left_comm]
    · simp

theorem ringCounter_inj (number m n : Nat) (h : keyCode (ringCounter number m) = keyCode (ringCounter number n)) : m = n := by
  simp only [keyCode, ringCounter] at h
  omega

theorem ringCounter_unnoted {number i : Nat} (hn : number < 16) (hi : i < 4) : Unnoted (ringCounter number i) := by
  simp only [Unnoted, ringCounter]
  omega

/-- A ring beside those registered, its counters at zero. -/
def State.withRing (s : State) (x : Ring) : State :=
  let c := clearCounters (ringCounter x.number) (List.range 4) s
  { c with rings := insertRing x c.rings }

section
variable (s : State) (x : Ring)

theorem State.withRing_rings : (s.withRing x).rings = insertRing x s.rings :=
  congrArg _ (clearCounters_noted _ _ s).presented.rings
theorem State.withRing_colls : (s.withRing x).colls = s.colls := (clearCounters_noted _ _ s).presented.colls
theorem State.withRing_mem : (s.withRing x).mem = s.mem := (clearCounters_noted _ _ s).mem

end

/-- RING_REGISTER accepts a sound descriptor (R341, R377). -/
theorem ringRegisterBody_sound {s : State} {v a number n : Nat} {r : BitVec 512 × Bool} {x : Ring} (ha : v % 2 ^ 48 = a)
    (hnum : v / 2 ^ 48 = number) (hr : readDescriptor s a = r) (hn : getf r.1 184 8 + 1 = n)
    (hx : ringOfDesc number a r.1 (mapGet 0 s.contexts (getf r.1 169 7)) (readMembers s (getf r.1 432 48) n) = x) (hlt : number < 16)
    (hat : descriptorAt s x.js a = true) (hcrc : r.2 = true) (hres : getf r.1 16 132 = 0) (hver : getf r.1 0 16 = 1)
    (hnew : ∀ y ∈ s.rings, y.number ≠ number) (hctx : ringContextOk s x.js x.context x.shardPages = true)
    (hmem : membersOk s x.js (getf r.1 432 48) n x.rank x.members = true) (hepoch : epochKnown s x.js x.epoch = true)
    (hfields : ringFieldsOk x = true)
    (hland : ∃ g ∈ s.regions, g.state = .active ∧ g.tier ≤ 2 ∧ g.land = true ∧ g.read = true ∧ g.js = x.js ∧
      g.holds x.landBase (x.buffers * x.bufferBytes) = true)
    (hcolls : ∀ y ∈ s.colls, y.js = x.js → idsMeet y.idBase y.idCount x.idBase x.idCount = false)
    (hrings : ∀ y ∈ s.rings, y.js = x.js → idsMeet y.idBase y.idCount x.idBase x.idCount = false)
    (hclock : x.compute ≠ 0 ∨ x.bwdCompute ≠ 0 → s.fixedClock = true) (hgroup : ringGroupRefused s x = false) :
    ringRegisterBody v s = .ok ((s.withRing x).readsTable a (getf r.1 432 48) (2 * n)) := by
  have hv : ¬ 2 ^ 52 ≤ v := by omega
  have hnew : s.rings.any (·.number == number) = false := by simpa using hnew
  have hland : (s.regions.any fun g => g.state == .active && decide (g.tier ≤ 2) && g.land && g.read && g.js == x.js &&
      g.holds x.landBase (x.buffers * x.bufferBytes)) = true := by simpa [and_assoc] using hland
  have hcolls : (s.colls.any fun y => y.js == x.js && idsMeet y.idBase y.idCount x.idBase x.idCount) = false := by simpa using hcolls
  have hrings : (s.rings.any fun y => y.js == x.js && idsMeet y.idBase y.idCount x.idBase x.idCount) = false := by simpa using hrings
  have hclock : ((x.compute != 0 || x.bwdCompute != 0) && !s.fixedClock) = false := by
    simpa [Decidable.or_iff_not_imp_left] using hclock
  obtain rfl : x.number = number := by rw [← hx]; rfl
  simp only [ringRegisterBody, if_neg hv, ha, hnum, hr, hn, hx, hat, hcrc, hres, hver, hnew, hctx, hmem, hepoch, hfields, hland,
    hcolls, hrings, hclock, hgroup, bne_self_eq_false, Bool.not_true, Bool.or_self, Bool.false_eq_true, if_false]
  rfl

/-- What a registered ring leaves: itself and the others, its counters at zero, collectives and memory as they were. -/
theorem State.withRing_registered {s t : State} {x : Ring} (hlt : x.number < 16) (hp : Presented (s.withRing x) t)
    (hc : readsCounted (s.withRing x) t) :
    x ∈ t.rings ∧ (∀ y ∈ s.rings, y ∈ t.rings) ∧ (∀ i, i < 4 → t.val (ringCounter x.number i) = 0) ∧
      t.colls = s.colls ∧ t.mem = s.mem := by
  have hrings : t.rings = insertRing x s.rings := hp.rings.trans (s.withRing_rings x)
  refine ⟨?_, fun y hy => ?_, fun i hi => ?_, hp.colls.trans (s.withRing_colls x), hp.mem.trans (s.withRing_mem x)⟩
  · rw [hrings]; exact mem_insertRing.mpr (.inl rfl)
  · rw [hrings]; exact mem_insertRing.mpr (.inr hy)
  · exact clearCounters_val_counted _ _ s (List.mem_range.mpr hi) (ringCounter_inj x.number) (ringCounter_unnoted hlt hi)
      (by simp [ringCounter]) hc rfl

/-- RING_RELEASE of a ring without a step running or an admitted transfer of its identifiers (R342). -/
theorem ringReleaseBody_idle {s : State} {n : Nat} {x : Ring} (hn : n < 16) (hx : s.rings.find? (·.number == n) = some x)
    (hidle : s.stepRunning x.js = false)
    (hfree : ∀ y ∈ s.schedules, 3 ≤ y.state → ∀ t ∈ y.transfers,
      (t.src = s.moduleId ∧ t.srcJs = x.js) ∨ (t.dst = s.moduleId ∧ t.dstJs = x.js) → inIds x.idBase x.idCount t.id = false) :
    ringReleaseBody n s = .ok { s with rings := s.rings.filter (·.number != n) } := by
  have hn : ¬ 15 < n := by omega
  have hfree : ((s.schedules.filter fun y => decide (3 ≤ y.state)).any fun y => y.transfers.any fun t =>
      ((t.src == s.moduleId && t.srcJs == x.js) || (t.dst == s.moduleId && t.dstJs == x.js)) && inIds x.idBase x.idCount t.id) = false := by
    simpa using hfree
  simp only [ringReleaseBody, if_neg hn, hx, hidle, hfree]
  rfl

/-! ### Contexts (R175) -/

theorem contextCounter_inj (number m n : Nat) (h : keyCode (contextCounter number m) = keyCode (contextCounter number n)) : m = n := by
  simp only [keyCode, contextCounter] at h
  omega

theorem contextKey_unnoted {n : Nat} (hn : n < 128) : Unnoted (contextKey n) := by
  simp only [Unnoted, contextKey]
  omega

theorem contextCounter_apart {n i : Nat} (hn : n < 128) : keyCode (contextCounter n i) ≠ keyCode (contextKey n) := by
  simp only [keyCode, contextCounter, contextKey]
  omega

/-- A context registered with its entry `w`, its counters at zero. -/
def State.withContext (s : State) (n w : Nat) (d : BitVec 512) : State :=
  let c := clearCounters (contextCounter n) (List.range 5) s
  { c.setVal (contextKey n) w with contexts := mapInsert n d c.contexts }

theorem State.withContext_val (s : State) (n w : Nat) (d : BitVec 512) (k : Key) :
    (s.withContext n w d).val k = ((clearCounters (contextCounter n) (List.range 5) s).setVal (contextKey n) w).val k := by
  simp only [State.val, State.withContext]

theorem State.withContext_mem (s : State) (n w : Nat) (d : BitVec 512) : (s.withContext n w d).mem = s.mem := by
  simp only [State.withContext, State.setVal_mem, (clearCounters_noted _ _ s).mem]

/-- CONTEXT_REGISTER accepts a sound descriptor (R175). -/
theorem contextRegisterBody_sound {s : State} {v a n j : Nat} {r : BitVec 512 × Bool} (ha : v % 2 ^ 48 = a) (hnum : v / 2 ^ 48 = n)
    (hr : readDescriptor s a = r) (hj : getf r.1 178 2 = j) (hlt : n < 128) (halign : a % 64 = 0) (hhbm : inHbm a = true)
    (hregion : ∃ g ∈ s.regions, g.state = .active ∧ g.tier = 2 ∧ g.js = j ∧ g.holds a 64 = true) (hcrc : r.2 = true)
    (hfields : ctxFieldsOk r.1 = true) (hfree : s.val (contextKey n) = 0) (hplanes : ∀ p ∈ ctxPlanes r.1, planeOk s j p = true) :
    contextRegisterBody v s = .ok ((s.withContext n (a + j * 2 ^ 48 + 2 ^ 50) r.1).firmwareReads a 64) := by
  have hv : ¬ 2 ^ 55 ≤ v := by omega
  have hregion : (s.regions.any fun g => g.state == .active && g.tier == 2 && g.js == j && g.holds a 64) = true := by
    simpa [and_assoc] using hregion
  have hplanes : (ctxPlanes r.1).all (planeOk s j) = true := List.all_eq_true.mpr hplanes
  simp only [contextRegisterBody, if_neg hv, ha, hnum, hr, hj, halign, hhbm, hregion, hcrc, hfields, hfree, hplanes,
    bne_self_eq_false, Bool.not_true, Bool.or_self, Bool.false_eq_true, if_false]
  rfl

/-- What a registered context leaves: its entry, its counters at zero, its descriptor, memory as it was. -/
theorem State.withContext_registered {s t : State} {n w : Nat} {d : BitVec 512} (hlt : n < 128)
    (hp : Presented (s.withContext n w d) t) (hc : readsCounted (s.withContext n w d) t) :
    t.val (contextKey n) = w ∧ (∀ i, i < 5 → t.val (contextCounter n i) = 0) ∧ (n, d) ∈ t.contexts ∧ t.mem = s.mem := by
  refine ⟨?_, fun i hi => ?_, ?_, hp.mem.trans (s.withContext_mem n w d)⟩
  · rw [hc.val (contextKey_unnoted hlt) (by simp [contextKey]), State.withContext_val, State.val_setVal_same]
  · rw [hc.val (contextCounter_unnoted hlt hi) (by simp [contextCounter]), State.withContext_val,
      State.val_setVal_other _ _ (contextCounter_apart hlt)]
    exact clearCounters_val _ _ s (List.mem_range.mpr hi) (contextCounter_inj n)
  · rw [hp.contexts]
    exact (mem_mapInsert _ _ _ _).mpr (.inl rfl)

/-- A context released. -/
def State.withoutContext (s : State) (n : Nat) : State := { s.setVal (contextKey n) 0 with contexts := mapErase s.contexts n }

theorem State.withoutContext_val (s : State) (n : Nat) : (s.withoutContext n).val (contextKey n) = 0 := by
  have hdict : (s.withoutContext n).dict = (s.setVal (contextKey n) 0).dict := rfl
  rw [State.val, hdict]
  exact State.val_setVal_same _ _ _

theorem contextReleaseBody_registered {s : State} {n : Nat} (hlt : n < 128) (hn : s.val (contextKey n) ≠ 0) :
    contextReleaseBody n s = .ok (s.withoutContext n) := by
  have hlt : ¬ 127 < n := by omega
  simp only [contextReleaseBody, if_neg hlt, if_neg hn, State.withoutContext]

/-! ### Mappings (R376, R377) -/

section
variable (l : List (Nat × Mapping)) (j : Nat) (m : Mapping)

theorem find?_replaced_same : ((l.filter (·.1 != j) ++ [(j, m)]).find? (·.1 == j)).map (·.2) = some m := by
  have hnone : (l.filter (·.1 != j)).find? (·.1 == j) = none := by simp
  simp [List.find?_append, hnone]

theorem find?_replaced_other {k : Nat} (hk : k ≠ j) :
    (l.filter (·.1 != j) ++ [(j, m)]).find? (·.1 == k) = l.find? (·.1 == k) := by
  have hsame : (l.filter (·.1 != j)).find? (·.1 == k) = l.find? (·.1 == k) := by
    rw [List.find?_filter]
    congr 1
    funext e
    by_cases he : e.1 = k <;> simp [he, hk]
  simp [List.find?_append, hsame, hk.symm]

end

/-- A mapping put in place: the prepared one where the job stream has a current mapping, else the current one. -/
def State.withMap (s : State) (j : Nat) (m : Mapping) : State :=
  if (s.mapNow j).isSome then { s with mapsNext := s.mapsNext.filter (·.1 != j) ++ [(j, m)] }
  else { s with maps := s.maps.filter (·.1 != j) ++ [(j, m)] }

section
variable {s t : State} {j : Nat} {m : Mapping}

theorem Presented.mapNow (h : Presented s t) (k : Nat) : t.mapNow k = s.mapNow k := by simp only [State.mapNow, h.maps]
theorem Presented.mapNext (h : Presented s t) (k : Nat) : t.mapNext k = s.mapNext k := by simp only [State.mapNext, h.mapsNext]

theorem State.withMap_mem : (s.withMap j m).mem = s.mem := by unfold State.withMap; split <;> rfl
theorem State.withMap_dict : (s.withMap j m).dict = s.dict := by unfold State.withMap; split <;> rfl

theorem State.withMap_first (h : s.mapNow j = none) : s.withMap j m = { s with maps := s.maps.filter (·.1 != j) ++ [(j, m)] } := by
  simp [State.withMap, h]

theorem State.withMap_prepared {x : Mapping} (h : s.mapNow j = some x) :
    s.withMap j m = { s with mapsNext := s.mapsNext.filter (·.1 != j) ++ [(j, m)] } := by
  simp [State.withMap, h]

/-- The first mapping of a job stream becomes its current one; other job streams keep theirs. -/
theorem State.withMap_first_registered (h : s.mapNow j = none) (hp : Presented (s.withMap j m) t) :
    t.mapNow j = some m ∧ ∀ k, k ≠ j → t.mapNow k = s.mapNow k := by
  rw [State.withMap_first h] at hp
  exact ⟨(hp.mapNow j).trans (find?_replaced_same _ j m),
    fun k hk => (hp.mapNow k).trans (congrArg _ (find?_replaced_other _ j m hk))⟩

/-- A further mapping becomes the prepared one, beside the current one. -/
theorem State.withMap_prepared_registered {x : Mapping} (h : s.mapNow j = some x) (hp : Presented (s.withMap j m) t) :
    t.mapNext j = some m ∧ t.mapNow j = some x := by
  rw [State.withMap_prepared h] at hp
  exact ⟨(hp.mapNext j).trans (find?_replaced_same _ j m), (hp.mapNow j).trans h⟩

end

/-- MAP_REGISTER accepts a sound descriptor of the epoch that is due: the current one for a first mapping, else the prepared one
(R376). -/
theorem mapRegisterBody_sound {s : State} {j v n : Nat} {r : BitVec 512 × Bool} {ms : List Nat} (hlt : v < 2 ^ 48)
    (hr : readDescriptor s v = r) (hn : mapSize r.1 = n)
    (hms : (if bitf r.1 155 || decide (65536 < n) then [] else readMembers s (getf r.1 432 48) n) = ms)
    (hfields : mapFieldsOk s j v r.1 r.2 = true)
    (hmembers : bitf r.1 155 = true ∨
      (n ≤ 65536 ∧ getf r.1 232 16 < n ∧ membersOk s j (getf r.1 432 48) n (getf r.1 232 16) ms = true))
    (hroute : bitf r.1 156 = true → ∀ k, k < 4 → k ≠ j →
      (∀ x, s.mapNow k = some x → x.routeControl = false) ∧ ∀ x, s.mapNext k = some x → x.routeControl = false)
    (hslots : getf r.1 288 8 ≠ 0 → readableBy s j (getf r.1 384 48) (getf r.1 288 8 * 64 * getf r.1 296 24) = true)
    (hepoch : (s.mapNow j = none ∧ getf r.1 352 32 = s.val (keyEpoch j)) ∨
      ∃ x, s.mapNow j = some x ∧ s.preparedEpoch j = some (getf r.1 352 32)) :
    mapRegisterBody j v s =
      .ok ((s.withMap j { addr := v, desc := r.1, members := ms }).readsTable v (getf r.1 432 48) (2 * ms.length)) := by
  have hv : ¬ 2 ^ 48 ≤ v := by omega
  simp only [mapRegisterBody, if_neg hv, hr, hn, hms]
  refine checkOrder_of_none ?_ _
  simp only [List.forall_mem_cons]
  refine ⟨?fields, ?epoch, ?members, ?control, ?slots, List.forall_mem_nil _⟩
  case fields => simp [hfields]
  case epoch => obtain ⟨hnow, he⟩ | ⟨x, hnow, he⟩ := hepoch <;> simp [hnow, he]
  case members =>
    obtain hspare | ⟨hsize, hrank, hok⟩ := hmembers
    · simp [hspare]
    · simp [hsize, hrank, hok]
  case control =>
    cases hb : bitf r.1 156 with
    | false => rfl
    | true =>
      refine List.any_eq_false.mpr fun k hk => ?_
      obtain ⟨hlt, hne⟩ : k < 4 ∧ k ≠ j := by simpa using hk
      obtain ⟨hnow, hnext⟩ := hroute hb k hlt hne
      cases h : s.mapNow k with
      | none => cases h' : s.mapNext k <;> simp [hnext _, h']
      | some x => cases h' : s.mapNext k <;> simp [hnow _ h, hnext _, h']
  case slots =>
    by_cases h : getf r.1 288 8 = 0
    · simp [h]
    · simp [hslots h]

/-! ### The statement -/

/-- Settles O35: each command's own part accepts a sound request, and the state that it leaves is what registration or release
says, with the firmware's reads counted. -/
theorem registrationAndRelease : Obligations.RegistrationAndRelease := by
  intro s rq
  refine ⟨?coll, ?collRelease, ?ring, ?ringRelease, ?context, ?contextRelease, ?map⟩
  case coll =>
    intro v a number r d n x hadm hlt hat hcrc hres hver hfields hnew hepoch hmem hids hgroup
    have hok := collRegisterBody_sound (s := s) (v := v.toNat) rfl rfl rfl rfl rfl hlt hat hcrc hres hver hfields hnew hepoch hmem
      hids hgroup
    exact ⟨_, State.dictSet_ok hadm hok,
      State.withColl_registered hlt (State.readsTable_presented _ _ _ _) (State.readsTable_readsCounted _ _ _ _)⟩
  case collRelease => exact fun v x hadm hx hidle => State.dictSet_ok hadm (collReleaseBody_idle hx hidle)
  case ring =>
    intro v a number r d n x hadm hlt hat hcrc hres hver hnew hctx hmem hepoch hfields hland hcolls hrings hclock hgroup
    have hok := ringRegisterBody_sound (s := s) (v := v.toNat) rfl rfl rfl rfl rfl hlt hat hcrc hres hver hnew hctx hmem hepoch
      hfields hland hcolls hrings hclock hgroup
    exact ⟨_, State.dictSet_ok hadm hok,
      State.withRing_registered hlt (State.readsTable_presented _ _ _ _) (State.readsTable_readsCounted _ _ _ _)⟩
  case ringRelease =>
    exact fun v x hadm hlt hx hidle hfree => State.dictSet_ok hadm (ringReleaseBody_idle hlt hx hidle hfree)
  case context =>
    intro v a n r d j hadm hlt halign hhbm hregion hcrc hfields hfree hplanes
    have hok := contextRegisterBody_sound (s := s) (v := v.toNat) rfl rfl rfl rfl hlt halign hhbm hregion hcrc hfields hfree hplanes
    exact ⟨_, State.dictSet_ok hadm hok,
      State.withContext_registered hlt (State.firmwareReads_presented _ _ _) (State.firmwareReads_readsCounted _ _ _)⟩
  case contextRelease =>
    exact fun v hadm hlt hreg => ⟨_, State.dictSet_ok hadm (contextReleaseBody_registered hlt hreg),
      s.withoutContext_val _, mapErase_ne _ _, rfl⟩
  case map =>
    intro j v n r d ms m hadm hlt hfields hmembers hroute hslots
    have hok := fun hepoch => State.dictSet_ok hadm
      (mapRegisterBody_sound hlt rfl rfl rfl hfields hmembers hroute hslots hepoch)
    have hp := (s.withMap n m).readsTable_presented v.toNat (getf d 432 48) (2 * ms.length)
    have hc := (readsCounted_of_dict_eq State.withMap_dict).trans
      ((s.withMap n m).readsTable_readsCounted v.toNat (getf d 432 48) (2 * ms.length))
    refine ⟨fun hnow hepoch => ?_, fun x hnow hepoch => ?_⟩
    · obtain ⟨hsame, hother⟩ := State.withMap_first_registered hnow hp
      exact ⟨_, hok (.inl ⟨hnow, hepoch⟩), hsame, hother, hc, hp.mem.trans State.withMap_mem⟩
    · obtain ⟨hnext, hkept⟩ := State.withMap_prepared_registered hnow hp
      exact ⟨_, hok (.inr ⟨x, hnow, hepoch⟩), hnext, hkept, hc, hp.mem.trans State.withMap_mem⟩

end Sys2Proof.Machine
end
